-- ==== Sys2Proof/Word.lean ====
section
/-! DEFINITION. The word types of the Almerak 240: what the manual treats as bits. -/

namespace Sys2Proof

/-- A byte of a frame, of the configuration image or of the station's own record. -/
abbrev Byte := BitVec 8

/-- A raw analog reading, 0 to 4095 (section 0.9). -/
abbrev Reading := BitVec 12

end Sys2Proof
end

