-- ==== Sys2Proof/Syntax.lean ====
section
/-! DEFINITION. The commands of the block: one constructor of `Instr` for each row of spec/opcode_table.json, with
what the event brings from outside as its operands. The table gives its rows no operands and no bits: the operands
are read from the rules the rows name (assumption 1). -/

namespace Sys2Proof

/-- A station number, 0 to 15 (R1). -/
abbrev StationId := Fin 16
/-- A function slot F0 to F3. -/
abbrev FnId := Fin 4
/-- A discrete input DI0 to DI15. -/
abbrev InputId := Fin 16

/-- A direction of movement, and by it the end it moves toward. -/
inductive Dir where
  | toOpen
  | toClose
  deriving DecidableEq, Repr

/-- The reset cause (R3). -/
inductive ResetCause where
  | powerOn
  | pin
  | supplyDip
  deriving DecidableEq, Repr

/-- What the bit-rate strap BR is tied to (R1). -/
inductive BrPin where
  | low
  | unconnected
  | high
  deriving DecidableEq, Repr

/-- Where the field supply's voltage stands against the monitor's two thresholds (R106). -/
inductive SupplyBand where
  | below19
  | from19to20
  | from20
  deriving DecidableEq, Repr

/-- The levels on the station's field lines at one moment. `di` is true for a line that is high. -/
structure FieldLines where
  di : Vector Bool 16
  ai : Vector Reading 4
  stopLoopClosed : Bool
  supply : SupplyBand
  deriving DecidableEq, Repr

/-- A stretch of the door loop at one level, timed in the station's own ticks (R17). -/
structure Segment where
  dominant : Bool
  ticks : Nat
  deriving DecidableEq, Repr

/-- What the station sees on the line from the first dominant edge of a run on; past its end the line is recessive. -/
abbrev Wave := List Segment

/-- Why a followed frame or a dominant run is dropped (R20 to R24). -/
inductive DropReason where
  | shortMark
  | longMark
  | syncError
  | framing
  | length
  | crc
  deriving DecidableEq, Repr

/-- The three cases in which a sender aborts (R33). -/
inductive AbortCause where
  | bitError
  | selfDrop (reason : DropReason)
  | stuck
  deriving DecidableEq, Repr

/-- The pumps of a PUMP station. -/
inductive PumpId where
  | a
  | b
  deriving DecidableEq, Repr

/-- The pulse generators: the proportional output of a function, or its direction solenoid (R137, R138). -/
inductive Generator where
  | proportional (f : FnId)
  | solenoid (f : FnId)
  deriving DecidableEq, Repr

/-- The commands: the rows of spec/opcode_table.json, in the table's order. -/
inductive Instr where
  | resetCondition (cause : ResetCause)
  | leaveReset (st : StationId) (br : BrPin)
  | headerReadComplete (bytes : List Byte)
  | imageReadComplete (bytes : List Byte) (lines : FieldLines)
  | configFaultAnnounceTimer
  | joinWindowExpiry
  | withdrawnIdleTimeout
  | lineBusy
  | lineIdle (recessiveTicks : Nat)
  | lineStuck (dominantTicks : Nat)
  | stuckEnd (recessiveTicks : Nat)
  | frameDropped (wave : Wave)
  | undeliveredGoodFrame (wave : Wave)
  | statusArrival (wave : Wave)
  | announceArrival (wave : Wave)
  | intentArrival (wave : Wave)
  | tripArrival (wave : Wave)
  | sendStart
  | lateStart (sinceEdge freeAfterEdge : Nat)
  | idCellStart
  | arbitrationLoss (bit : Fin 8)
  | sendAbort (cause : AbortCause)
  | sendComplete (heard : Bool)
  | sendWaitEnd (recessiveTicks : Nat)
  | changeInhibitExpiry
  | refreshExpiry
  | tripRepeatExpiry
  | ageExpiry (n : StationId)
  | flashTimerExpiry
  | inputLevelChange (i : InputId) (high : Bool)
  | debounceExpiry (i : InputId)
  | discrepancyExpiry (f : FnId) (e : Dir)
  | controlPeriod (f : FnId) (raw : Reading)
  | pressureConversion (raw : Reading)
  | stopLoopOpening
  | stopLoopReadsClosed
  | stopLoopClosingExpiry
  | supplyFallsBelow19V
  | supplyBackAt19V
  | supplyRisesTo20V
  | supplyFallsBelow20V
  | lowTimerExpiry
  | recoveryTimerExpiry
  | grantWaitExpiry (f : FnId)
  | pressuriseTimeout (f : FnId)
  | strokeTimeout (f : FnId)
  | stallWindowExpiry (f : FnId)
  | seatTimerExpiry (f : FnId)
  | pullInExpiry (f : FnId)
  | intentRefreshExpiry
  | intentLeaseExpiry (n : StationId)
  | resetWindowExpiry
  | runUpExpiry (p : PumpId)
  | idleTimerExpiry
  | pulseTimeExpiry (g : Generator)
  deriving DecidableEq, Repr

end Sys2Proof
end

