-- ==== Sys2Proof/Decode.lean ====
section
/-! DEFINITION. The command a word spells by the bits of spec/opcode_table.json. The table gives none of its 55 rows
any bits (its commands are events, not words), so no word spells a command. -/

namespace Sys2Proof

/-- No row of the table has bits, so the answer is `none` for every width and word. -/
def decodeTableWord (_nbits _w : Nat) : Option Instr := none

end Sys2Proof
end

