-- ==== Sys2Proof/Config.lean ====
section
/-! DEFINITION. The constants that the manual fixes for every Almerak 240, each with its rule, and the one bound
the model adds (`Config.settleRounds`). The values of one installation (the timing block, the motion profiles) are
no constants: they are read from the configuration image into `Setup`. -/

namespace Sys2Proof.Config

/-- The format number an image must carry (R4). -/
def formatNumber : Nat := 3
/-- The smallest and the largest image length in bytes (R4). -/
def minImage : Nat := 68
def maxImage : Nat := 4096
/-- The header ends at this offset; the fingerprint covers the bytes from it on (R4, R5). -/
def headerBytes : Nat := 7
/-- The timing block's length (section 1.5). -/
def timingBytes : Nat := 13
/-- The largest subscription set (R10). -/
def maxSubscription : Nat := 8
/-- The least calibration span (R8). -/
def minSpan : Nat := 500

/-- The CONFIG_FAULT announcement timer, ms (R12). -/
def announceMs : Nat := 1000
/-- Consecutive aborts that withdraw a station, and where CONFIG_FAULT stops counting (R35). -/
def abortLimit : Nat := 8
/-- Consecutive unheard sends that make a station LONE (R36). -/
def unheardLimit : Nat := 4
/-- Good frames that end WITHDRAWN (R16). -/
def rejoinFrames : Nat := 16

/-- Recessive bit times that make the line IDLE: on joining, with no frame followed, after a frame's heard slot,
and after STUCK (R18, R19). -/
def joinIdleBits : Nat := 24
def noFrameIdleBits : Nat := 10
def endGapBits : Nat := 8
def afterStuckBits : Nat := 8
/-- A dominant run longer than this is STUCK (R19). -/
def stuckBits : Nat := 40
/-- Recessive bit times after a completed send before the sender is free again (R29). -/
def sendWaitBits : Nat := 12
/-- The start mark a sender drives, and the release after it, in bit times (section 2.2). -/
def markBits : Nat := 12
def releaseBits : Nat := 2
/-- The accepted start-mark window in whole bit times (R20). -/
def minMarkBits : Nat := 10
def maxMarkBits : Nat := 20
/-- The SYNC cell's value (section 2.2). -/
def syncByte : Nat := 0x66
/-- The longest DATA part of a frame (R23). -/
def maxData : Nat := 20

/-- The position that means invalid (section 0.9). -/
def noPosition : Nat := 1023
/-- The blocking term that means none (R85). -/
def noBlocking : Nat := 15
/-- The fault band of the unclamped position (R101). -/
def bandLow : Int := -30
def bandHigh : Int := 1030
/-- How far past its reference a distance may grow (R119). -/
def wrongWayLimit : Nat := 20
/-- The shortest high time of a pulse that is not off, in µs (R137). -/
def minHighUs : Nat := 20

/-- The supply monitor's two delays, ms (R106). -/
def lowMs : Nat := 20
def recoveryMs : Nat := 100
/-- Half the flash period, ms (R90). -/
def flashMs : Nat := 500

/-- The claim queue's and the grant list's sizes (R156). -/
def maxClaims : Nat := 16
def maxGrants : Nat := 8

/-- THE MODEL'S OWN BOUND (DESIGN CHOICE, assumption 5): how many rounds of guard results one event may cause before
the model takes the state as it then stands. Guard lists that name their own station can keep a function leaving and
re-entering REST for ever within one event; the manual gives no end to that. Unsafe for such lists only. -/
def settleRounds : Nat := 16

end Sys2Proof.Config
end

