-- ==== Sys2Proof/Machine/Arith.lean ====
section
/-! DEFINITION. The arithmetic that the rules name: the rounding words of section 0.10, multi-byte fields, bit fields
and the two checks. -/

namespace Sys2Proof.Machine

/-- n / d rounded half up, for quantities that are never negative (section 0.10). -/
def roundHalfUp (n d : Nat) : Nat := (2 * n + d) / (2 * d)

/-- n / d rounded half away from zero, with the sign of the exact quotient (section 0.10). -/
def roundHalfAway (n d : Int) : Int :=
  let m : Int := ((2 * n.natAbs + d.natAbs) / (2 * d.natAbs) : Nat)
  if (n < 0) = (d < 0) then m else -m

/-- The distance between two positions. -/
def apart (p q : Nat) : Nat := (p - q) + (q - p)

/-- A byte of a number: its lowest eight bits. -/
def byte (n : Nat) : Byte := BitVec.ofNat 8 n

/-- Bit n of a byte, 7 the most significant. -/
def bit (b : Byte) (n : Nat) : Bool := b.getLsbD n

/-- The field of `width` bits of a byte whose lowest bit is `low`. -/
def field (b : Byte) (low width : Nat) : Nat := b.toNat / 2 ^ low % 2 ^ width

/-- The byte at an offset; a memory that does not answer reads as 0xFF (R4). -/
def byteAt (bytes : List Byte) (i : Nat) : Byte := bytes.getD i 0xFF

/-- The number at an offset. -/
def natAt (bytes : List Byte) (i : Nat) : Nat := (byteAt bytes i).toNat

/-- Two bytes, most significant first (section 1.5). -/
def be16 (bytes : List Byte) (i : Nat) : Nat := natAt bytes i * 256 + natAt bytes (i + 1)

/-- Four bytes, most significant first. -/
def be32 (bytes : List Byte) (i : Nat) : BitVec 32 :=
  byteAt bytes i ++ byteAt bytes (i + 1) ++ byteAt bytes (i + 2) ++ byteAt bytes (i + 3)

/-- The four bytes of a fingerprint, most significant first (R47). -/
def bytesOf32 (x : BitVec 32) : List Byte :=
  [x.extractLsb' 24 8, x.extractLsb' 16 8, x.extractLsb' 8 8, x.extractLsb' 0 8]

/-- A station number of four bits. -/
def stationOf (n : Nat) : StationId := Fin.ofNat 16 n

/-- A function slot of two bits. -/
def fnOf (n : Nat) : FnId := Fin.ofNat 4 n

/-- `n` bytes exactly, padded with 0xFF where the memory gave fewer (R4). -/
def takeBytes (n : Nat) (bytes : List Byte) : List Byte :=
  bytes.take n ++ List.replicate (n - bytes.length) 0xFF

/-! ## The frame check: CRC-16 of R24 -/

/-- One bit of the remainder, most significant bit first, polynomial 0x1021. -/
def crc16Bit (r : BitVec 16) : BitVec 16 :=
  if r.getLsbD 15 then (r <<< 1) ^^^ 0x1021 else r <<< 1

/-- One byte. -/
def crc16Byte (r : BitVec 16) (b : Byte) : BitVec 16 :=
  let x := r ^^^ ((b.setWidth 16) <<< 8)
  crc16Bit (crc16Bit (crc16Bit (crc16Bit (crc16Bit (crc16Bit (crc16Bit (crc16Bit x)))))))

/-- The check over ID, HEADER and DATA in the order they go on the line (R24). -/
def crc16 (bytes : List Byte) : BitVec 16 := bytes.foldl crc16Byte 0xFFFF

/-- The two CRC cells, high byte first. -/
def crc16Cells (bytes : List Byte) : List Byte :=
  [(crc16 bytes).extractLsb' 8 8, (crc16 bytes).extractLsb' 0 8]

/-! ## The fingerprint: CRC-32 of R5 -/

/-- One bit of the reflected remainder, polynomial 0x04C11DB7 written least significant bit first. -/
def crc32Bit (r : BitVec 32) : BitVec 32 :=
  if r.getLsbD 0 then (r >>> 1) ^^^ 0xEDB88320 else r >>> 1

/-- One byte. -/
def crc32Byte (r : BitVec 32) (b : Byte) : BitVec 32 :=
  let x := r ^^^ (b.setWidth 32)
  crc32Bit (crc32Bit (crc32Bit (crc32Bit (crc32Bit (crc32Bit (crc32Bit (crc32Bit x)))))))

/-- The fingerprint over the image after its header (R5). -/
def crc32 (bytes : List Byte) : BitVec 32 := ~~~(bytes.foldl crc32Byte 0xFFFFFFFF)

end Sys2Proof.Machine
end

