-- ==== Sys2Proof/Machine/State.lean ====
section
/-! DEFINITION. The state of one Almerak 240 station, block by block as section 0.4 lists them, as plain data. -/

namespace Sys2Proof.Machine

/-- A timer: stopped (`none`), or running for the duration it was last started with. Its unit is the one its rule
gives (ms unless the field says otherwise). Time itself is not kept: the expiry is a command (assumption 2). -/
abbrev Timer := Option Nat

/-! ## Life cycle and configuration -/

/-- The life cycle states (section 1.1). -/
inductive Life where
  | reset
  | loading
  | configFault
  | joining
  | active
  | withdrawn
  deriving DecidableEq, Repr

/-- The roles, in the order of their codes 0 to 5 (section 1.5). -/
inductive Role where
  | unused
  | motion
  | pump
  | panelCommand
  | panelStop
  | monitor
  deriving DecidableEq, Repr

/-- The bit rate the BR strap selects (R1). -/
inductive BitRate where
  | k100
  | k50
  deriving DecidableEq, Repr

/-- The load fault classes; `none` is code 0 (R11). -/
inductive LoadFault where
  | none
  | format
  | fingerprint
  | range
  | calibration
  | terms
  | subscription
  deriving DecidableEq, Repr

/-- The seven header bytes as fields (section 1.5). -/
structure Header where
  format : Byte
  length : Nat
  fingerprint : BitVec 32
  deriving DecidableEq, Repr

/-- The installation timing block (section 1.5); ms, but permille for the position step and µs for the PWM period. -/
structure Timing where
  refresh : Nat
  changeInhibit : Nat
  stale : Nat
  intentRefresh : Nat
  intentLease : Nat
  debounce : Nat
  discrepancy : Nat
  positionStep : Nat
  pwm : Nat
  deriving DecidableEq, Repr

/-- A motion profile, fields in the order of section 1.6. -/
structure Profile where
  pressureThreshold : Nat
  pressuriseTimeout : Nat
  grantWait : Nat
  strokeLimit : Nat
  stallWindow : Nat
  stallDelta : Nat
  seatTime : Nat
  pullIn : Nat
  holdDuty : Nat
  travelLevel : Nat
  creepLevel : Nat
  creepZone : Nat
  ramp : Nat
  stopRamp : Nat
  skewDeadband : Nat
  skewGain : Nat
  skewTrip : Nat
  claimUnits : Nat
  claimPriority : Nat
  deriving DecidableEq, Repr

/-- What a term reads (R76). -/
inductive Selector where
  | stationFlags
  | fnMotion (f : FnId)
  | fnEnd (f : FnId)
  | fnFault (f : FnId)
  | fnPosition (f : FnId)
  | panelFlags
  | pumpState (p : PumpId)
  | pumpCapacity
  | localInput (i : InputId)
  deriving DecidableEq, Repr

/-- How a term compares what it reads (R79 to R81). -/
inductive Operator where
  | member (codes : BitVec 16)
  | maskedEqual (mask value : Byte)
  | atLeast (threshold : Nat)
  | below (threshold : Nat)
  deriving DecidableEq, Repr

/-- One term of a guard list or lamp condition. `hold` is the phase HOLD, `safe` the class SAFE (section 5.7). -/
structure Term where
  station : StationId
  selector : Selector
  operator : Operator
  hold : Bool
  safe : Bool
  invert : Bool
  deriving DecidableEq, Repr

/-- The two kinds of a configured function. -/
inductive FnKind where
  | positioned
  | endOnly
  deriving DecidableEq, Repr

/-- A configured function slot of the station's own section. -/
structure FnSetup where
  kind : FnKind
  pair : Option (StationId × FnId)
  openA : InputId
  openB : Option InputId
  closedA : InputId
  closedB : Option InputId
  c0 : Nat
  c1 : Nat
  openProfile : Profile
  closeProfile : Profile
  openTerms : List Term
  closeTerms : List Term
  deriving DecidableEq, Repr

/-- The conditions of one lamp (R89). -/
structure LampSetup where
  on : List Term
  flash : List Term
  deriving DecidableEq, Repr

/-- The DI map of a panel; an absent entry names no input (section 9.1). -/
structure PanelInputs where
  openB : Option InputId
  closeB : Option InputId
  stop : Option InputId
  reset : Option InputId
  commandKey : Option InputId
  maintKey : Option InputId
  underway : Option InputId
  jogOpen : Option InputId
  jogClose : Option InputId
  select0 : Option InputId
  select1 : Option InputId
  select2 : Option InputId
  select3 : Option InputId
  deriving DecidableEq, Repr

/-- The station's own section. Fields of another role are at their empty values. -/
structure OwnSection where
  role : Role
  pumpStation : StationId
  fns : Vector (Option FnSetup) 4
  lamps : List LampSetup
  unitsPerPump : Nat
  runUpMs : Nat
  idleStopS : Nat
  panel : PanelInputs
  deriving DecidableEq, Repr

/-- What a station keeps of every section: the role, the function kinds and the pairings (R11). -/
structure Brief where
  role : Role
  kinds : Vector (Option FnKind) 4
  pairs : Vector (Option (StationId × FnId)) 4
  deriving DecidableEq, Repr

/-- What a good load keeps (R11). -/
structure Setup where
  timing : Timing
  own : OwnSection
  subscription : List StationId
  fingerprint : BitVec 32
  briefs : Vector Brief 16
  deriving DecidableEq, Repr

/-- What CONFIG_FAULT publishes of a failed load (R12). -/
structure FaultReport where
  cls : LoadFault
  role : Role
  fingerprint : BitVec 32
  deriving DecidableEq, Repr

/-! ## Frames and records -/

/-- The motion states, in the order of their codes 0 to 8 (R41). -/
inductive Motion where
  | none
  | rest
  | awaitFlow
  | pressurise
  | travel
  | creep
  | seat
  | stopping
  | heldFault
  deriving DecidableEq, Repr

/-- The end states, codes 0 to 3 (R41). -/
inductive EndState where
  | atClosed
  | atOpen
  | between
  | unknown
  deriving DecidableEq, Repr

/-- The fault codes 0 to 13 (section 3.3). -/
inductive FaultCode where
  | none
  | holdLost
  | grantLost
  | peerLost
  | stopped
  | strokeTimeout
  | stall
  | noPressure
  | noFlow
  | sensorDisagree
  | transducer
  | skew
  | wrongDirection
  | endLost
  deriving DecidableEq, Repr

/-- The pump machine states, codes 0 to 3 (R43). -/
inductive PumpState where
  | off
  | starting
  | running
  | tripped
  deriving DecidableEq, Repr

/-- A function record of a MOTION STATUS (R41). -/
structure FnRecord where
  motion : Motion
  endState : EndState
  priority : Nat
  fault : FaultCode
  blocking : Nat
  units : Nat
  position : Nat
  deriving DecidableEq, Repr

/-- The payload of a STATUS after its station byte, by layout (R59). A PUMP record holds the valid grants only. -/
inductive Record where
  | motion (fns : Vector FnRecord 4)
  | pump (a b : PumpState) (capacity : Nat) (grants : List (StationId × FnId))
  | panel (underway commandKey maintKey : Bool) (station : StationId) (fn : FnId)
  deriving DecidableEq, Repr

/-- The stop classes: E_STOP 0, C_STOP 1 (R45). -/
inductive StopClass where
  | eStop
  | cStop
  deriving DecidableEq, Repr

/-- The reasons of a TRIP, with the originating function of a FUNCTION_FAULT (R45). -/
inductive TripReason where
  | stopLoopOpen
  | functionFault (f : FnId)
  | fieldSupplyLow
  deriving DecidableEq, Repr

/-- What an intent asks for. RELEASE and RESET ask for nothing that a table entry could hold (R46, R146). -/
inductive IntentKind where
  | release
  | toOpen
  | toClose
  | stop
  | reset
  | single (station : StationId) (fn : FnId) (dir : Dir)
  deriving DecidableEq, Repr

/-- The content of an INTENT (R46). -/
structure IntentFrame where
  kind : IntentKind
  underway : Bool
  deriving DecidableEq, Repr

/-- The content of an ANNOUNCE (R47). -/
structure AnnounceFrame where
  role : Role
  fingerprint : BitVec 32
  cause : ResetCause
  ask : Bool
  configFault : Bool
  cls : LoadFault
  deriving DecidableEq, Repr

/-- A frame as a receiver whose check agreed has it (R25). -/
structure Frame where
  kind : Nat
  station : StationId
  edition : Nat
  data : List Byte
  deriving DecidableEq, Repr

/-! ## Loop interface -/

/-- The frame kinds, in the order in which they leave (R23, R28). -/
inductive FrameKind where
  | trip
  | intent
  | status
  | announce
  deriving DecidableEq, Repr

/-- The line states (R18). -/
inductive LineState where
  | idle
  | busy
  | stuck
  deriving DecidableEq, Repr

/-- Which recessive count makes a BUSY line IDLE (R18, R19). -/
inductive IdleRule where
  | join
  | noFrame
  | endGap
  | afterStuck
  deriving DecidableEq, Repr

/-- The progress of what the receive path follows: nothing, a run that is examined as a start mark (and whether the
wait of R29 was in force at its first edge), or a frame. -/
inductive Follow where
  | nothing
  | run (waitAtEdge : Bool)
  | frame
  deriving DecidableEq, Repr

/-- One slot of the pending set (R27). -/
inductive Slot (α : Type) where
  | empty
  | waiting (content : α)
  | inFlight (content : α) (successor : Option α)
  deriving DecidableEq, Repr

/-- The frame the station has on the line. `bytes` is empty until the ID cell begins, and from then on ID, HEADER,
DATA and CRC (R31). `markTicks` is how long the sender drives its start mark (R28, R30). -/
structure Send where
  kind : FrameKind
  markTicks : Nat
  idBegun : Bool
  edition : Nat
  data : List Byte
  bytes : List Byte
  deriving DecidableEq, Repr

/-- A heard slot as its receiver drives it (R26): the ticks from the first edge of the frame's start mark to the slot's
beginning, and how many ticks the line is driven dominant. -/
structure HeardSlot where
  start : Nat
  length : Nat
  deriving DecidableEq, Repr

/-- The loop interface (section 0.4, chapter 2). -/
structure Loop where
  /-- `none` in RESET and LOADING, where no line state is kept (R18). -/
  line : Option LineState
  idleRule : IdleRule
  follow : Follow
  trip : Slot TripReason
  intent : Slot IntentFrame
  status : Slot Unit
  /-- An ANNOUNCE is queued with its ASK flag only (R27). -/
  announce : Slot Bool
  send : Option Send
  /-- The wait after a completed send (R29). -/
  wait : Bool
  /-- The heard slot that the station drove for the last frame it followed, if it drove one (R26). -/
  heardSlot : Option HeardSlot
  aborts : Nat
  unheard : Nat
  lone : Bool
  deriving DecidableEq, Repr

/-! ## Publisher -/

/-- The publisher (section 3.6). -/
structure Publisher where
  edition : BitVec 3
  lastSent : Option (List Byte)
  refresh : Timer
  inhibitTimer : Timer
  deferred : Bool
  inhibit : Bool
  deriving DecidableEq, Repr

/-! ## Peer image -/

/-- The states of an image entry (R57). -/
inductive EntryState where
  | absent
  | unverified
  | known
  | fresh
  | stale
  | foreign
  deriving DecidableEq, Repr

/-- Whether the sender was found to share the image (R57). -/
inductive FpMatch where
  | notChecked
  | matched
  | refused
  deriving DecidableEq, Repr

/-- One entry of the peer image (R57). -/
structure Entry where
  state : EntryState
  role : Option Role
  fpMatch : FpMatch
  age : Timer
  byte : Option Byte
  record : Option Record
  deriving DecidableEq, Repr

/-! ## Guard engine -/

/-- The mode of a function (R82). -/
inductive Mode where
  | normal
  | single
  deriving DecidableEq, Repr

/-- Why a permit to continue is false (R83). -/
inductive HoldCause where
  | none
  | pair
  | term (index : Nat)
  deriving DecidableEq, Repr

/-- The permits of one function in one direction, and the values of that list's terms (R75). -/
structure Permits where
  values : List Bool
  start : Bool
  proceed : Bool
  holdCause : HoldCause
  deriving DecidableEq, Repr

/-- What the guard engine holds for one function slot (R75). -/
structure FnGuard where
  mode : Mode
  pairTerm : Bool
  opening : Permits
  closing : Permits
  blocking : Nat
  deriving DecidableEq, Repr

/-- The lamp states (R89). -/
inductive LampState where
  | off
  | on
  | flash
  deriving DecidableEq, Repr

/-- What the guard engine holds for one lamp (R75). -/
structure Lamp where
  onValues : List Bool
  flashValues : List Bool
  state : LampState
  deriving DecidableEq, Repr

/-- The halves of the flash timer (R90). -/
inductive Half where
  | lit
  | dark
  deriving DecidableEq, Repr

/-- The guard engine (R75). The flash timer is stopped when `flash` is `none`. -/
structure GuardEngine where
  fns : Vector FnGuard 4
  lamps : Vector Lamp 8
  flash : Option Half
  deriving DecidableEq, Repr

/-! ## Field inputs -/

/-- A discrete input: its accepted level (`none` without a use, R94) and its debounce timer (R93). -/
structure Discrete where
  accepted : Option Bool
  debounce : Timer
  deriving DecidableEq, Repr

/-- The pair states of a function end (R96). -/
inductive PairState where
  | agreed
  | pending
  | disagreed
  deriving DecidableEq, Repr

/-- One end of a function (R96). -/
structure EndPair where
  state : PairState
  discrepancy : Timer
  deriving DecidableEq, Repr

/-- What the field inputs hold for one function slot (R96, R98, R100). `lastRaw` is the unclamped position of the
latest conversion. -/
structure FnField where
  openEnd : EndPair
  closedEnd : EndPair
  endState : EndState
  position : Nat
  lastRaw : Option Int
  deriving DecidableEq, Repr

/-- The field inputs (chapter 6). `lines` is what stands on the pins as the station last saw them. -/
structure FieldInputs where
  lines : FieldLines
  di : Vector Discrete 16
  fns : Vector FnField 4
  /-- The last pressure reading in bar, if there has been one since reset (R102). -/
  pressure : Option Nat
  stopLoopClosed : Bool
  closing : Timer
  supplyOk : Bool
  lowTimer : Timer
  recovery : Timer
  deriving DecidableEq, Repr

/-! ## Function controllers and valve drive -/

/-- A function controller (R108). `released` is the grant release RELEASED. -/
structure Fn where
  motion : Motion
  target : Option Dir
  fault : FaultCode
  lostEnd : Option Dir
  released : Bool
  grantWait : Timer
  pressurise : Timer
  stroke : Timer
  stall : Timer
  stallRef : Option Nat
  wrongRef : Option Nat
  seat : Timer
  deriving DecidableEq, Repr

/-- A pulse generator: off, or running with its high and low time in µs, in its high or its low part, with the level
it was last handed (R137). -/
inductive PulseGen where
  | off
  | running (high low : Nat) (inHigh : Bool) (handed : Nat)
  deriving DecidableEq, Repr

/-- The peak-and-hold phases (R138). -/
inductive Phase where
  | off
  | pullIn
  | hold
  deriving DecidableEq, Repr

/-- What the valve drive holds for one function slot (R128). -/
structure Drive where
  level : Nat
  prop : PulseGen
  phase : Phase
  pullIn : Timer
  sol : PulseGen
  deriving DecidableEq, Repr

/-! ## Panel -/

/-- What a panel holds (R142 to R145). `held` is never RELEASE or RESET; `none` is the held intent NONE.
`refreshKind` is the kind and target that the send which started the refresh timer carried. -/
structure Panel where
  armOpen : Bool
  armClose : Bool
  armStop : Bool
  armReset : Bool
  armJogOpen : Bool
  armJogClose : Bool
  held : Option IntentKind
  refresh : Timer
  refreshKind : Option IntentKind
  selection : Option (StationId × FnId)
  deriving DecidableEq, Repr

/-! ## Intent and trip unit -/

/-- An entry of the intent table (R146). -/
structure IntentEntry where
  kind : IntentKind
  lease : Timer
  deriving DecidableEq, Repr

/-- The intent and trip unit (chapter 9, R56). The table and the trip list are indexed by station number, which is
what "at most one entry for each" means (R146, R151). `effective` is `none` for NONE. -/
structure IntentTrip where
  table : Vector (Option IntentEntry) 16
  effective : Option IntentKind
  trips : Vector (Option StopClass) 16
  restartHold : Bool
  tripAsserted : Bool
  resetWindow : Timer
  tripRepeat : Timer
  lastTrip : Option TripReason
  deriving DecidableEq, Repr

/-! ## Flow arbiter -/

/-- A pump machine (R156). -/
structure Pump where
  state : PumpState
  runUp : Timer
  deriving DecidableEq, Repr

/-- A claim of the claim queue (R156). Granted are the claims that the grant list names. -/
structure Claim where
  station : StationId
  fn : FnId
  units : Nat
  priority : Nat
  deriving DecidableEq, Repr

/-- The flow arbiter (R156). The idle timer's duration is in seconds. -/
structure Flow where
  a : Pump
  b : Pump
  capacity : Nat
  queue : List Claim
  grants : List (StationId × FnId)
  idle : Timer
  deriving DecidableEq, Repr

/-! ## The station -/

/-- THE MODEL'S OWN field: the orders the manual leaves open within one event (assumption 4). `order` numbers the 24
orders in which the four functions take their notices; `guardFirst` says whether the guard engine takes an event
before the function controllers. Nothing constrains it, and no command changes it. -/
structure Choice where
  order : Fin 24
  guardFirst : Bool
  deriving DecidableEq, Repr

/-- One station. `pending` is the model's queue of commands that wait, first in, first out. -/
structure State where
  pending : List Instr
  choice : Choice
  life : Life
  resetCause : ResetCause
  station : StationId
  bitRate : BitRate
  header : Option Header
  report : FaultReport
  setup : Option Setup
  joinWindow : Timer
  announceTimer : Timer
  goodFrames : Nat
  loop : Loop
  pub : Publisher
  image : Vector Entry 16
  guard : GuardEngine
  field : FieldInputs
  fns : Vector Fn 4
  drive : Vector Drive 4
  dump : Bool
  panel : Panel
  unit : IntentTrip
  flow : Flow
  deriving DecidableEq, Repr

/-- The faults of a step. There is none: every hazard of this part is a state of it (a fault code, a trip, a
lost frame), so no command ends a run. -/
inductive Fault : Type
  deriving DecidableEq, Repr

/-- The refusals of a step. -/
inductive Refusal where
  /-- Raised by `exec`'s arm of a command that has no meaning yet. Safe: nothing can be proved of what it does. -/
  | notModelled (mnemonic : String)
  deriving DecidableEq, Repr

/-! ## The values after reset -/

/-- No line has been seen: every discrete line low, every reading 0, the stop loop open, the supply below 19.0 V
(DESIGN CHOICE, assumption 3: the levels of the outside are no state of the station). -/
def FieldLines.atReset : FieldLines :=
  { di := Vector.replicate 16 false, ai := Vector.replicate 4 0, stopLoopClosed := false, supply := .below19 }

/-- R37, R2: no line state, an empty pending set, both counts 0, LONE clear, no wait, no frame followed. -/
def Loop.atReset : Loop :=
  { line := none, idleRule := .join, follow := .nothing, trip := .empty, intent := .empty, status := .empty,
    announce := .empty, send := none, wait := false, heardSlot := none, aborts := 0, unheard := 0, lone := false }

/-- R52. -/
def Publisher.atReset : Publisher :=
  { edition := 0, lastSent := none, refresh := none, inhibitTimer := none, deferred := false, inhibit := false }

/-- R57: every entry after reset. -/
def Entry.atReset : Entry :=
  { state := .absent, role := none, fpMatch := .notChecked, age := none, byte := none, record := none }

/-- R75: the results of a direction after a reset, which has discarded the list and with it every term. -/
def Permits.blank : Permits := { values := [], start := false, proceed := false, holdCause := .none }

/-- R75: what the guard engine holds for a function slot after a reset, and for an unconfigured slot. Its pair term is false:
R75 and R84 name no value of it there (assumption 41). -/
def FnGuard.blank : FnGuard :=
  { mode := .normal, pairTerm := false, opening := .blank, closing := .blank, blocking := Config.noBlocking }

/-- R75: a lamp after a reset, which has discarded its conditions, and a lamp beyond the count. -/
def Lamp.blank : Lamp := { onValues := [], flashValues := [], state := .off }

/-- R75: the engine after a reset: every permit false, every hold cause none, every mode NORMAL, every blocking term 15, every
lamp OFF, the flash timer stopped. -/
def GuardEngine.blank : GuardEngine :=
  { fns := Vector.replicate 4 .blank, lamps := Vector.replicate 8 .blank, flash := none }

/-- R94: no accepted level, the debounce timer stopped. -/
def Discrete.atReset : Discrete := { accepted := none, debounce := none }

/-- R96: an end at a good load. -/
def EndPair.agreed : EndPair := { state := .agreed, discrepancy := none }

/-- R96, R42, R100: the ends AGREED, the end state UNKNOWN, the position 1023 and no conversion. -/
def FnField.atReset : FnField :=
  { openEnd := .agreed, closedEnd := .agreed, endState := .unknown, position := Config.noPosition, lastRaw := none }

/-- R94, R102, R103, R106, over the lines as they stand. -/
def FieldInputs.afterReset (lines : FieldLines) : FieldInputs :=
  { lines := lines, di := Vector.replicate 16 .atReset, fns := Vector.replicate 4 .atReset, pressure := none,
    stopLoopClosed := false, closing := none, supplyOk := false, lowTimer := none, recovery := none }

/-- R108: a function controller after every reset. -/
def Fn.atReset : Fn :=
  { motion := .none, target := none, fault := .none, lostEnd := none, released := true, grantWait := none,
    pressurise := none, stroke := none, stall := none, stallRef := none, wrongRef := none, seat := none }

/-- R128: level 0, the generators and the phase off, the pull-in timer stopped. -/
def Drive.off : Drive := { level := 0, prop := .off, phase := .off, pullIn := none, sol := .off }

/-- R142, R144: no button armed, no held intent, no refresh, no selection. -/
def Panel.atReset : Panel :=
  { armOpen := false, armClose := false, armStop := false, armReset := false, armJogOpen := false,
    armJogClose := false, held := none, refresh := none, refreshKind := none, selection := none }

/-- R146, R150, R151, R2, R56: both collections empty, the flags clear, the timers stopped, no TRIP queued yet. -/
def IntentTrip.atReset : IntentTrip :=
  { table := Vector.replicate 16 none, effective := none, trips := Vector.replicate 16 none, restartHold := false,
    tripAsserted := false, resetWindow := none, tripRepeat := none, lastTrip := none }

/-- R156: both machines OFF, the capacity 0, the queue and the list empty, the timers stopped. -/
def Flow.atReset : Flow :=
  { a := ⟨.off, none⟩, b := ⟨.off, none⟩, capacity := 0, queue := [], grants := [], idle := none }

/-- No load fault to report. -/
def FaultReport.blank : FaultReport := { cls := .none, role := .unused, fingerprint := 0 }

/-- The station right after a power-on (R2, R3): every block initialised, the reset cause POWER_ON. The station
number and the bit rate before the straps are sampled, the levels of the lines and the model's own `choice` are the
model's values (DESIGN CHOICE, assumptions 3 and 4). -/
def State.reset : State :=
  { pending := [], choice := { order := 0, guardFirst := false }, life := .reset, resetCause := .powerOn,
    station := 0, bitRate := .k100, header := none, report := .blank, setup := none, joinWindow := none,
    announceTimer := none, goodFrames := 0, loop := .atReset, pub := .atReset,
    image := Vector.replicate 16 .atReset, guard := .blank, field := .afterReset FieldLines.atReset,
    fns := Vector.replicate 4 .atReset, drive := Vector.replicate 4 .off, dump := false, panel := .atReset,
    unit := .atReset, flow := .atReset }

end Sys2Proof.Machine
end

