-- ==== Sys2Proof/Machine/Frames.lean ====
section
/-! DEFINITION. The contents of the four frame kinds: their codes, their layouts (sections 3.1 to 3.5) as an encoder
for what a station sends, and the well-formedness check of R39 as a decoder for what it absorbs. -/

namespace Sys2Proof.Machine

/-! ## Codes -/

/-- The code of a role (section 1.5). -/
def Role.code : Role → Nat
  | .unused => 0
  | .motion => 1
  | .pump => 2
  | .panelCommand => 3
  | .panelStop => 4
  | .monitor => 5

/-- The role of a code; a code above 5 has none (section 1.5). -/
def roleOf : Nat → Option Role
  | 0 => some .unused
  | 1 => some .motion
  | 2 => some .pump
  | 3 => some .panelCommand
  | 4 => some .panelStop
  | 5 => some .monitor
  | _ => none

/-- The code of a reset cause (R3). -/
def causeCode : ResetCause → Nat
  | .powerOn => 0
  | .pin => 1
  | .supplyDip => 2

/-- The reset cause of a code; 3 is not produced (R3). -/
def causeOf : Nat → Option ResetCause
  | 0 => some .powerOn
  | 1 => some .pin
  | 2 => some .supplyDip
  | _ => none

/-- The code of a load fault class (R11). -/
def LoadFault.code : LoadFault → Nat
  | .none => 0
  | .format => 1
  | .fingerprint => 2
  | .range => 3
  | .calibration => 4
  | .terms => 5
  | .subscription => 6

/-- The class of a code, 0 to 6 (R11). -/
def loadFaultOf : Nat → Option LoadFault
  | 0 => some .none
  | 1 => some .format
  | 2 => some .fingerprint
  | 3 => some .range
  | 4 => some .calibration
  | 5 => some .terms
  | 6 => some .subscription
  | _ => none

/-- The code of a motion state (R41). -/
def Motion.code : Motion → Nat
  | .none => 0
  | .rest => 1
  | .awaitFlow => 2
  | .pressurise => 3
  | .travel => 4
  | .creep => 5
  | .seat => 6
  | .stopping => 7
  | .heldFault => 8

/-- The motion state of a code, 0 to 8 (R39). -/
def motionOf : Nat → Option Motion
  | 0 => some .none
  | 1 => some .rest
  | 2 => some .awaitFlow
  | 3 => some .pressurise
  | 4 => some .travel
  | 5 => some .creep
  | 6 => some .seat
  | 7 => some .stopping
  | 8 => some .heldFault
  | _ => none

/-- The code of an end state (R41). -/
def EndState.code : EndState → Nat
  | .atClosed => 0
  | .atOpen => 1
  | .between => 2
  | .unknown => 3

/-- The end state of a code, 0 to 3. -/
def endStateOf : Nat → Option EndState
  | 0 => some .atClosed
  | 1 => some .atOpen
  | 2 => some .between
  | 3 => some .unknown
  | _ => none

/-- The fault codes of the fault table (section 3.3). -/
def FaultCode.code : FaultCode → Nat
  | .none => 0
  | .holdLost => 1
  | .grantLost => 2
  | .peerLost => 3
  | .stopped => 4
  | .strokeTimeout => 5
  | .stall => 6
  | .noPressure => 7
  | .noFlow => 8
  | .sensorDisagree => 9
  | .transducer => 10
  | .skew => 11
  | .wrongDirection => 12
  | .endLost => 13

/-- The fault of a code, 0 to 13 (R39). -/
def faultOf : Nat → Option FaultCode
  | 0 => some .none
  | 1 => some .holdLost
  | 2 => some .grantLost
  | 3 => some .peerLost
  | 4 => some .stopped
  | 5 => some .strokeTimeout
  | 6 => some .stall
  | 7 => some .noPressure
  | 8 => some .noFlow
  | 9 => some .sensorDisagree
  | 10 => some .transducer
  | 11 => some .skew
  | 12 => some .wrongDirection
  | 13 => some .endLost
  | _ => none

/-- Which codes are latched: 5 to 12 (section 7.11). -/
def FaultCode.latched (c : FaultCode) : Bool := 5 ≤ c.code && c.code ≤ 12

/-- The code of a pump state (R43). -/
def PumpState.code : PumpState → Nat
  | .off => 0
  | .starting => 1
  | .running => 2
  | .tripped => 3

/-- The pump state of a code, 0 to 3. -/
def pumpStateOf : Nat → Option PumpState
  | 0 => some .off
  | 1 => some .starting
  | 2 => some .running
  | 3 => some .tripped
  | _ => none

/-- The code of a frame kind (R23). -/
def FrameKind.code : FrameKind → Nat
  | .trip => 0
  | .intent => 1
  | .status => 2
  | .announce => 3

/-- A flag at a bit place. -/
def flagAt (b : Bool) (place : Nat) : Nat := if b then 2 ^ place else 0

/-! ## What a station sends -/

/-- The station byte from its fields (R40, section 3.5). -/
def stationByteOf (active asserted loopClosed supplyOk lone hold : Bool) (cause : ResetCause) : Byte :=
  byte (flagAt active 7 + flagAt asserted 6 + flagAt loopClosed 5 + flagAt supplyOk 4 + flagAt lone 3 + flagAt hold 2 +
    causeCode cause)

/-- The four bytes of a function record (section 3.5). -/
def FnRecord.encode (r : FnRecord) : List Byte :=
  [byte (r.motion.code * 16 + r.endState.code * 4 + r.priority),
   byte (r.fault.code * 16 + r.blocking),
   byte (r.units * 4 + r.position / 256),
   byte (r.position % 256)]

/-- A station and function in bits 5 to 0 of a byte (section 3.5). -/
def pairCode (n : StationId) (f : FnId) : Nat := n.val * 4 + f.val

/-- The eight grant bytes: the valid ones first, in grant order, then zeros (R43). -/
def grantBytes (gs : List (StationId × FnId)) : List Byte :=
  gs.map (fun g => byte (128 + pairCode g.1 g.2)) ++ List.replicate (8 - gs.length) 0

/-- The panel flags byte (R44, section 3.5). -/
def panelFlagsByte (underway commandKey maintKey : Bool) : Byte :=
  byte (flagAt underway 7 + flagAt commandKey 6 + flagAt maintKey 5)

/-- The DATA bytes of a STATUS after its station byte (R41, R43, R44). -/
def Record.encode : Record → List Byte
  | .motion fns => fns[0].encode ++ fns[1].encode ++ fns[2].encode ++ fns[3].encode
  | .pump a b capacity grants =>
      byte (a.code * 4 + b.code) :: byte capacity :: byte grants.length :: grantBytes grants
  | .panel u c m n f => [panelFlagsByte u c m, byte (pairCode n f)]

/-- The DATA bytes of a STATUS. -/
def encodeStatus (b : Byte) (r : Record) : List Byte := b :: r.encode

/-- The class that a reason fixes (R45). -/
def TripReason.cls : TripReason → StopClass
  | .stopLoopOpen => .eStop
  | .functionFault _ => .cStop
  | .fieldSupplyLow => .cStop

/-- The code of a stop class (R45). -/
def StopClass.code : StopClass → Nat
  | .eStop => 0
  | .cStop => 1

/-- The code of a reason (R45). -/
def TripReason.code : TripReason → Nat
  | .stopLoopOpen => 0
  | .functionFault _ => 1
  | .fieldSupplyLow => 2

/-- The originating function: 0 to 3 for a FUNCTION_FAULT and 7 otherwise (R45). -/
def TripReason.origin : TripReason → Nat
  | .functionFault f => f.val
  | _ => 7

/-- The DATA bytes of a TRIP (section 3.5). -/
def TripReason.encode (t : TripReason) : List Byte := [byte (t.cls.code * 128 + t.code), byte t.origin]

/-- The code of an intent kind (R46). -/
def IntentKind.code : IntentKind → Nat
  | .release => 0
  | .toOpen => 1
  | .toClose => 2
  | .stop => 3
  | .reset => 4
  | .single _ _ _ => 5

/-- The target byte: zero but for SINGLE (R46). -/
def IntentKind.target : IntentKind → Nat
  | .single n f .toOpen => pairCode n f
  | .single n f .toClose => 128 + pairCode n f
  | _ => 0

/-- The DATA bytes of an INTENT (section 3.5). -/
def IntentFrame.encode (i : IntentFrame) : List Byte := [byte (flagAt i.underway 7 + i.kind.code), byte i.kind.target]

/-- The DATA bytes of an ANNOUNCE (section 3.5). -/
def AnnounceFrame.encode (a : AnnounceFrame) : List Byte :=
  byte a.role.code :: (bytesOf32 a.fingerprint ++
    [byte (causeCode a.cause), byte (flagAt a.ask 7 + flagAt a.configFault 6 + a.cls.code)])

/-! ## What a station absorbs: the well-formedness of R39 -/

/-- A position field: 0 to 1000, or 1023 (R39). -/
def positionOk (p : Nat) : Bool := p ≤ 1000 || p == Config.noPosition

/-- A blocking term field: 0 to 7, or 15 (R39). -/
def blockingOk (b : Nat) : Bool := b ≤ 7 || b == Config.noBlocking

/-- A function record from its four bytes, or none if a field of it is outside its values. -/
def readFnRecord (b0 b1 b2 b3 : Byte) : Option FnRecord :=
  match motionOf (field b0 4 4), endStateOf (field b0 2 2), faultOf (field b1 4 4) with
  | some m, some e, some c =>
      let position := field b2 0 2 * 256 + b3.toNat
      if positionOk position && blockingOk (field b1 0 4) && field b2 2 6 ≤ 32 then
        some { motion := m, endState := e, priority := field b0 0 2, fault := c, blocking := field b1 0 4,
               units := field b2 2 6, position := position }
      else none
  | _, _, _ => none

/-- The grant bytes: the first `n` valid, the rest zero, bit 6 always zero (R43). -/
def readGrants : (n : Nat) → List Byte → Option (List (StationId × FnId))
  | _, [] => some []
  | 0, b :: bs => if b = 0 then readGrants 0 bs else none
  | n + 1, b :: bs =>
      if bit b 7 && !bit b 6 then
        match readGrants n bs with
        | some gs => some ((stationOf (field b 2 4), fnOf (field b 0 2)) :: gs)
        | none => none
      else none

/-- The payload after the station byte, by the layout the length selects (R39, R59). -/
def readRecord (bs : List Byte) : Option Record :=
  match bs with
  | [a0, a1, a2, a3, b0, b1, b2, b3, c0, c1, c2, c3, d0, d1, d2, d3] =>
      match readFnRecord a0 a1 a2 a3, readFnRecord b0 b1 b2 b3, readFnRecord c0 c1 c2 c3, readFnRecord d0 d1 d2 d3 with
      | some f0, some f1, some f2, some f3 => some (.motion #v[f0, f1, f2, f3])
      | _, _, _, _ => none
  | p :: cap :: n :: g0 :: g1 :: g2 :: g3 :: g4 :: g5 :: g6 :: [g7] =>
      match pumpStateOf (field p 2 2), pumpStateOf (field p 0 2),
            readGrants n.toNat [g0, g1, g2, g3, g4, g5, g6, g7] with
      | some a, some b, some gs =>
          if field p 4 4 = 0 ∧ cap.toNat ≤ 64 ∧ n.toNat ≤ 8 then some (.pump a b cap.toNat gs) else none
      | _, _, _ => none
  | [fl, sel] =>
      if field fl 0 5 = 0 ∧ field sel 6 2 = 0 then
        some (.panel (bit fl 7) (bit fl 6) (bit fl 5) (stationOf (field sel 2 4)) (fnOf (field sel 0 2)))
      else none
  | _ => none

/-- A STATUS as its station byte and record, or none if it is not well-formed (R39): ACTIVE must be set and the reset
cause must be one that is produced. -/
def decodeStatus (data : List Byte) : Option (Byte × Record) :=
  match data with
  | [] => none
  | b :: rest =>
      if bit b 7 && (causeOf (field b 0 2)).isSome then (readRecord rest).map (fun r => (b, r)) else none

/-- A TRIP, or none if it is not well-formed (R39, R45). -/
def decodeTrip (data : List Byte) : Option TripReason :=
  match data with
  | [b0, b1] =>
      if field b0 2 5 ≠ 0 ∨ field b1 3 5 ≠ 0 then none
      else
        match field b0 0 2, bit b0 7, field b1 0 3 with
        | 0, false, 7 => some .stopLoopOpen
        | 1, true, f => if f < 4 then some (.functionFault (fnOf f)) else none
        | 2, true, 7 => some .fieldSupplyLow
        | _, _, _ => none
  | _ => none

/-- An INTENT, or none if it is not well-formed (R39, R46): the target is zero but for SINGLE. -/
def decodeIntent (data : List Byte) : Option IntentFrame :=
  match data with
  | [b0, b1] =>
      if field b0 3 4 ≠ 0 ∨ bit b1 6 = true then none
      else
        let plain := fun (k : IntentKind) => if b1 = 0 then some { kind := k, underway := bit b0 7 } else none
        match field b0 0 3 with
        | 0 => plain .release
        | 1 => plain .toOpen
        | 2 => plain .toClose
        | 3 => plain .stop
        | 4 => plain .reset
        | 5 => some { kind := .single (stationOf (field b1 2 4)) (fnOf (field b1 0 2))
                        (if bit b1 7 then .toClose else .toOpen)
                      underway := bit b0 7 }
        | _ => none
  | _ => none

/-- An ANNOUNCE, or none if it is not well-formed (R39, R47). -/
def decodeAnnounce (data : List Byte) : Option AnnounceFrame :=
  match data with
  | [r, f0, f1, f2, f3, c, fl] =>
      match roleOf r.toNat, causeOf (field c 0 2), loadFaultOf (field fl 0 3) with
      | some role, some cause, some cls =>
          if field c 2 6 = 0 ∧ field fl 3 3 = 0 then
            some { role := role, fingerprint := be32 [f0, f1, f2, f3] 0, cause := cause, ask := bit fl 7,
                   configFault := bit fl 6, cls := cls }
          else none
      | _, _, _ => none
  | _ => none

/-- The roles a STATUS record fits (R60). -/
def Record.fits : Record → Role → Bool
  | .motion _, .motion => true
  | .pump _ _ _ _, .pump => true
  | .panel _ _ _ _ _, .panelCommand => true
  | .panel _ _ _ _ _, .panelStop => true
  | _, _ => false

end Sys2Proof.Machine
end

