-- ==== Sys2Proof/Machine/ImageLoad.lean ====
section
/-! DEFINITION. The configuration image: its layout (sections 1.5 and 1.6) and its checks (R4 to R11). -/

namespace Sys2Proof.Machine

/-! ## The header -/

/-- The header from its seven bytes (section 1.5). -/
def readHeader (bytes : List Byte) : Header :=
  { format := byteAt bytes 0, length := be16 bytes 1, fingerprint := be32 bytes 3 }

/-- The two header checks (R4). -/
def Header.passes (h : Header) : Bool :=
  h.format.toNat == Config.formatNumber && (Config.minImage ≤ h.length && h.length ≤ Config.maxImage)

/-! ## The walk of R6 -/

/-- A function record as the walk finds it: its first 66 bytes and its terms, five bytes each. -/
inductive RawFn where
  | unconfigured
  | configured (bytes : List Byte) (openTerms closeTerms : List (List Byte))
  deriving DecidableEq, Repr

/-- A lamp's terms as the walk finds them. -/
structure RawLamp where
  on : List (List Byte)
  flash : List (List Byte)
  deriving DecidableEq, Repr

/-- A section as the walk finds it. `fixed` holds the bytes between the role byte and the lamp block that belong to no
function record. -/
structure RawSection where
  role : Role
  fixed : List Byte
  fns : List RawFn
  lamps : List RawLamp
  deriving DecidableEq, Repr

/-- `n` terms of five bytes, and what follows them. -/
def rawTerms : Nat → List Byte → Except LoadFault (List (List Byte) × List Byte)
  | 0, bs => .ok ([], bs)
  | n + 1, bs =>
      if bs.length < 5 then .error .format
      else match rawTerms n (bs.drop 5) with
      | .error e => .error e
      | .ok (ts, rest) => .ok (bs.take 5 :: ts, rest)

/-- One function record: its size follows from its kind and its term counts; a kind above 2 and a count above 8 are
out of range (R6). A record of fewer than 66 bytes is FORMAT before its counts are looked at, and a count out of range is RANGE
before its terms are measured (assumption 35). -/
def rawFn (bs : List Byte) : Except LoadFault (RawFn × List Byte) :=
  match bs with
  | [] => .error .format
  | k :: rest =>
      if k = 0 then .ok (.unconfigured, rest)
      else if 2 < k.toNat then .error .range
      else if bs.length < 66 then .error .format
      else
        let nOpen := natAt bs 64
        let nClose := natAt bs 65
        if 8 < nOpen ∨ 8 < nClose then .error .range
        else match rawTerms nOpen (bs.drop 66) with
        | .error e => .error e
        | .ok (os, rest1) =>
            match rawTerms nClose rest1 with
            | .error e => .error e
            | .ok (cs, rest2) => .ok (.configured (bs.take 66) os cs, rest2)

/-- `n` function records in turn. -/
def rawFns : Nat → List Byte → Except LoadFault (List RawFn × List Byte)
  | 0, bs => .ok ([], bs)
  | n + 1, bs =>
      match rawFn bs with
      | .error e => .error e
      | .ok (f, rest) =>
          match rawFns n rest with
          | .error e => .error e
          | .ok (fs, rest1) => .ok (f :: fs, rest1)

/-- One lamp of a lamp block: two term counts of 0 to 4, then the terms (section 1.5). Fewer than two bytes are FORMAT, and a
count out of range is RANGE before the terms are measured (assumption 35). -/
def rawLamp (bs : List Byte) : Except LoadFault (RawLamp × List Byte) :=
  if bs.length < 2 then .error .format
  else if 4 < natAt bs 0 ∨ 4 < natAt bs 1 then .error .range
  else match rawTerms (natAt bs 0) (bs.drop 2) with
  | .error e => .error e
  | .ok (on, rest) =>
      match rawTerms (natAt bs 1) rest with
      | .error e => .error e
      | .ok (fl, rest1) => .ok ({ on := on, flash := fl }, rest1)

/-- `n` lamps in turn. -/
def rawLampList : Nat → List Byte → Except LoadFault (List RawLamp × List Byte)
  | 0, bs => .ok ([], bs)
  | n + 1, bs =>
      match rawLamp bs with
      | .error e => .error e
      | .ok (l, rest) =>
          match rawLampList n rest with
          | .error e => .error e
          | .ok (ls, rest1) => .ok (l :: ls, rest1)

/-- A lamp block: a count of 0 to 8, then the lamps; it must be the section's last bytes (R6). -/
def rawLamps (bs : List Byte) : Except LoadFault (List RawLamp) :=
  match bs with
  | [] => .error .format
  | n :: rest =>
      if 8 < n.toNat then .error .range
      else match rawLampList n.toNat rest with
      | .error e => .error e
      | .ok (ls, []) => .ok ls
      | .ok (_, _ :: _) => .error .format

/-- A section with `n` fixed bytes and then a lamp block. -/
def rawFixed (role : Role) (n : Nat) (bs : List Byte) : Except LoadFault RawSection :=
  if bs.length < n then .error .format
  else match rawLamps (bs.drop n) with
  | .error e => .error e
  | .ok ls => .ok { role := role, fixed := bs.take n, fns := [], lamps := ls }

/-- The contents of a section after its role byte, parsed by its role (R6). -/
def rawBody (role : Role) (bs : List Byte) : Except LoadFault RawSection :=
  match role with
  | .unused => if bs = [] then .ok { role := .unused, fixed := [], fns := [], lamps := [] } else .error .format
  | .motion =>
      match bs with
      | [] => .error .format
      | p :: rest =>
          match rawFns 4 rest with
          | .error e => .error e
          | .ok (fs, rest1) =>
              match rawLamps rest1 with
              | .error e => .error e
              | .ok ls => .ok { role := .motion, fixed := [p], fns := fs, lamps := ls }
  | .pump => rawFixed .pump 5 bs
  | .panelCommand => rawFixed .panelCommand 13 bs
  | .panelStop => rawFixed .panelStop 3 bs
  | .monitor => rawFixed .monitor 0 bs

/-- What the walk leaves: the sections, or the class of its first failure; and the role of the station's own section
if the walk reached that role byte and its code lay in 0 to 5 (R12). -/
structure Walk where
  result : Except LoadFault (List RawSection)
  ownRole : Option Role

/-- The walk over the sections from `index` on, `left` of them still to come (R6). -/
def walkFrom (own : StationId) : (left index : Nat) → List Byte → Walk
  | 0, _, bs => { result := if bs = [] then .ok [] else .error .format, ownRole := none }
  | left + 1, index, bs =>
      let len := be16 bs 0
      if bs.length < 3 ∨ len < 3 ∨ bs.length < len then { result := .error .format, ownRole := none }
      else
        match roleOf (natAt bs 2) with
        | none => { result := .error .range, ownRole := none }
        | some role =>
            let here := if index = own.val then some role else none
            match rawBody role ((bs.take len).drop 3) with
            | .error e => { result := .error e, ownRole := here }
            | .ok sec =>
                let later := walkFrom own left (index + 1) (bs.drop len)
                { result := match later.result with
                    | .error e => .error e
                    | .ok ss => .ok (sec :: ss)
                  ownRole := here.or later.ownRole }

/-- The walk of all sixteen sections of the bytes that follow the timing block (R6). -/
def walk (own : StationId) (bs : List Byte) : Walk := walkFrom own 16 0 bs

/-! ## The range check of R7 -/

/-- Whether a number lies in a range, both ends included. -/
def within (lo hi n : Nat) : Bool := lo ≤ n && n ≤ hi

/-- The timing block from its thirteen bytes (section 1.5). -/
def readTiming (bs : List Byte) : Timing :=
  { refresh := natAt bs 0, changeInhibit := natAt bs 1, stale := be16 bs 2, intentRefresh := natAt bs 4,
    intentLease := be16 bs 5, debounce := natAt bs 7, discrepancy := be16 bs 8, positionStep := natAt bs 10,
    pwm := be16 bs 11 }

/-- The ranges of the timing block (section 1.6). -/
def Timing.inRange (t : Timing) : Bool :=
  within 20 200 t.refresh && within 2 20 t.changeInhibit && within (2 * t.refresh) 1000 t.stale &&
  within 50 200 t.intentRefresh && within (2 * t.intentRefresh) 1000 t.intentLease && within 2 50 t.debounce &&
  within 50 2000 t.discrepancy && within 5 50 t.positionStep && within 500 4000 t.pwm && t.pwm % 50 == 0

/-- A motion profile from its 27 bytes (section 1.6). -/
def readProfile (bs : List Byte) : Profile :=
  { pressureThreshold := be16 bs 0, pressuriseTimeout := be16 bs 2, grantWait := natAt bs 4, strokeLimit := natAt bs 5,
    stallWindow := be16 bs 6, stallDelta := natAt bs 8, seatTime := be16 bs 9, pullIn := natAt bs 11,
    holdDuty := be16 bs 12, travelLevel := be16 bs 14, creepLevel := be16 bs 16, creepZone := be16 bs 18,
    ramp := natAt bs 20, stopRamp := natAt bs 21, skewDeadband := natAt bs 22, skewGain := natAt bs 23,
    skewTrip := natAt bs 24, claimUnits := natAt bs 25, claimPriority := natAt bs 26 }

/-- The ranges of a motion profile (section 1.6). -/
def Profile.inRange (p : Profile) : Bool :=
  within 10 350 p.pressureThreshold && within 500 5000 p.pressuriseTimeout && within 2 60 p.grantWait &&
  within 1 120 p.strokeLimit && within 200 5000 p.stallWindow && within 1 50 p.stallDelta &&
  within 0 500 p.seatTime && within 20 200 p.pullIn && within 200 1000 p.holdDuty &&
  within 100 1000 p.travelLevel && within 50 p.travelLevel p.creepLevel && within 0 300 p.creepZone &&
  within 1 100 p.ramp && within 1 100 p.stopRamp && within 0 50 p.skewDeadband && within 0 64 p.skewGain &&
  within 20 200 p.skewTrip && within 1 32 p.claimUnits && within 0 3 p.claimPriority

/-- The selector of a code and its argument; a code above 8 and an argument beyond the selector's range have none (R7). -/
def readSelector (code arg : Nat) : Option Selector :=
  match code with
  | 0 => if arg = 0 then some .stationFlags else none
  | 1 => if arg < 4 then some (.fnMotion (fnOf arg)) else none
  | 2 => if arg < 4 then some (.fnEnd (fnOf arg)) else none
  | 3 => if arg < 4 then some (.fnFault (fnOf arg)) else none
  | 4 => if arg < 4 then some (.fnPosition (fnOf arg)) else none
  | 5 => if arg = 0 then some .panelFlags else none
  | 6 => if arg = 0 then some (.pumpState .a) else if arg = 1 then some (.pumpState .b) else none
  | 7 => if arg = 0 then some .pumpCapacity else none
  | 8 => if arg < 16 then some (.localInput (Fin.ofNat 16 arg)) else none
  | _ => none

/-- How many codes the enumeration of a selector has; the byte and number selectors have an empty one (R7, R79). -/
def Selector.codes : Selector → Nat
  | .fnMotion _ => 9
  | .fnEnd _ => 4
  | .fnFault _ => 14
  | .pumpState _ => 4
  | .localInput _ => 2
  | _ => 0

/-- A term record as a term, or none if a field of it is out of range (section 1.5, R7). -/
def readTerm (bs : List Byte) : Option Term :=
  let b0 := byteAt bs 0
  let b1 := byteAt bs 1
  let b2 := byteAt bs 2
  match readSelector (field b0 0 4) (field b1 4 4) with
  | none => none
  | some sel =>
      let op : Option Operator :=
        match field b1 2 2 with
        | 0 => if be16 bs 3 < 2 ^ sel.codes then some (.member (byteAt bs 3 ++ byteAt bs 4)) else none
        | 1 => some (.maskedEqual (byteAt bs 3) (byteAt bs 4))
        | 2 => if be16 bs 3 ≤ 1023 then some (.atLeast (be16 bs 3)) else none
        | _ => if be16 bs 3 ≤ 1023 then some (.below (be16 bs 3)) else none
      match op with
      | none => none
      | some o =>
          if field b2 1 7 ≠ 0 then none
          else some { station := stationOf (field b0 4 4), selector := sel, operator := o, hold := bit b1 1,
                      safe := bit b1 0, invert := bit b2 0 }

/-- Every element read, or none if one of them is out of range. -/
def readAll {α β : Type} (read : α → Option β) : List α → Option (List β)
  | [] => some []
  | x :: xs =>
      match read x, readAll read xs with
      | some y, some ys => some (y :: ys)
      | _, _ => none

/-- A DI or sensor entry: presence flag, three zero bits, DI number; none if a zero bit is set (section 1.5, R7). -/
def readEntry (b : Byte) : Option (Option InputId) :=
  if field b 4 3 ≠ 0 then none
  else if bit b 7 then some (some (Fin.ofNat 16 (field b 0 4)))
  else some none

/-- The pairing byte: bit 7 present, bit 6 zero, then station and function (section 1.5). -/
def readPairing (b : Byte) : Option (StationId × FnId) :=
  if bit b 7 then some (stationOf (field b 2 4), fnOf (field b 0 2)) else none

/-- The kind of a configured record (section 1.5). -/
def readKind (bs : List Byte) : FnKind := if natAt bs 0 = 1 then .positioned else .endOnly

/-- A configured function record as its setup, or none if a field of it is out of range (R7). For an END_ONLY
function c0 and c1 are not checked (R8). -/
def readFnSetup (bs : List Byte) (os cs : List (List Byte)) : Option FnSetup :=
  let kind := readKind bs
  let op := readProfile ((bs.drop 10).take 27)
  let cp := readProfile ((bs.drop 37).take 27)
  match readEntry (byteAt bs 2), readEntry (byteAt bs 3), readEntry (byteAt bs 4), readEntry (byteAt bs 5),
        readAll readTerm os, readAll readTerm cs with
  | some (some oa), some ob, some (some ca), some cb, some ots, some cts =>
      if bit (byteAt bs 1) 6 || !op.inRange || !cp.inRange ||
         (kind == .positioned && !(within 0 4095 (be16 bs 6) && within 0 4095 (be16 bs 8))) then none
      else some { kind := kind, pair := readPairing (byteAt bs 1), openA := oa, openB := ob, closedA := ca,
                  closedB := cb, c0 := be16 bs 6, c1 := be16 bs 8, openProfile := op, closeProfile := cp,
                  openTerms := ots, closeTerms := cts }
  | _, _, _, _, _, _ => none

/-- A function record of the own section, or none if a field of it is out of range. -/
def readFn : RawFn → Option (Option FnSetup)
  | .unconfigured => some none
  | .configured bs os cs => (readFnSetup bs os cs).map some

/-- The lamp block of the own section. -/
def readLamp (l : RawLamp) : Option LampSetup :=
  match readAll readTerm l.on, readAll readTerm l.flash with
  | some o, some f => some { on := o, flash := f }
  | _, _ => none

/-- No panel input mapped. -/
def PanelInputs.blank : PanelInputs :=
  { openB := none, closeB := none, stop := none, reset := none, commandKey := none, maintKey := none,
    underway := none, jogOpen := none, jogClose := none, select0 := none, select1 := none, select2 := none,
    select3 := none }

/-- The DI map of a panel, in the order of its role (section 1.5). -/
def panelInputs (role : Role) (es : List (Option InputId)) : PanelInputs :=
  let e := fun i => es.getD i none
  match role with
  | .panelCommand =>
      { openB := e 0, closeB := e 1, stop := e 2, reset := e 3, commandKey := e 4, maintKey := e 5, underway := e 6,
        jogOpen := e 7, jogClose := e 8, select0 := e 9, select1 := e 10, select2 := e 11, select3 := e 12 }
  | .panelStop => { PanelInputs.blank with stop := e 0, reset := e 1, underway := e 2 }
  | _ => PanelInputs.blank

/-- A section with nothing in it. -/
def OwnSection.blank : OwnSection :=
  { role := .unused, pumpStation := 0, fns := Vector.replicate 4 none, lamps := [], unitsPerPump := 0, runUpMs := 0,
    idleStopS := 0, panel := PanelInputs.blank }

/-- Four slots from a list; the walk gives a MOTION section exactly four records. -/
def fourOf {α : Type} (d : α) (xs : List α) : Vector α 4 :=
  #v[xs.getD 0 d, xs.getD 1 d, xs.getD 2 d, xs.getD 3 d]

/-- The own section as the station keeps it, or none if a field of it is out of range (R7). -/
def readOwn (s : RawSection) : Option OwnSection :=
  match readAll readLamp s.lamps with
  | none => none
  | some lamps =>
      let base := { OwnSection.blank with role := s.role, lamps := lamps }
      match s.role with
      | .unused => none
      | .motion =>
          match readAll readFn s.fns with
          | none => none
          | some fs =>
              if within 0 15 (natAt s.fixed 0) then
                some { base with pumpStation := stationOf (natAt s.fixed 0), fns := fourOf none fs }
              else none
      | .pump =>
          if within 1 32 (natAt s.fixed 0) && within 500 10000 (be16 s.fixed 1) && within 5 600 (be16 s.fixed 3) then
            some { base with unitsPerPump := natAt s.fixed 0, runUpMs := be16 s.fixed 1, idleStopS := be16 s.fixed 3 }
          else none
      | .panelCommand => (readAll readEntry s.fixed).map (fun es => { base with panel := panelInputs .panelCommand es })
      | .panelStop => (readAll readEntry s.fixed).map (fun es => { base with panel := panelInputs .panelStop es })
      | .monitor => some base

/-! ## What is kept of every section (R11) -/

/-- The kind of a record of any section. -/
def RawFn.kind : RawFn → Option FnKind
  | .unconfigured => none
  | .configured bs _ _ => some (readKind bs)

/-- The pairing of a record of any section. -/
def RawFn.pairing : RawFn → Option (StationId × FnId)
  | .unconfigured => none
  | .configured bs _ _ => readPairing (byteAt bs 1)

/-- The role, function kinds and pairings of a section. -/
def RawSection.brief (s : RawSection) : Brief :=
  { role := s.role, kinds := fourOf none (s.fns.map RawFn.kind), pairs := fourOf none (s.fns.map RawFn.pairing) }

/-- A section of which nothing is known. -/
def Brief.blank : Brief :=
  { role := .unused, kinds := Vector.replicate 4 none, pairs := Vector.replicate 4 none }

/-- Sixteen briefs from the walk's sections. -/
def briefsOf (ss : List RawSection) : Vector Brief 16 :=
  let b := fun i => (ss.map RawSection.brief).getD i Brief.blank
  #v[b 0, b 1, b 2, b 3, b 4, b 5, b 6, b 7, b 8, b 9, b 10, b 11, b 12, b 13, b 14, b 15]

/-! ## Calibration, references and subscriptions (R8 to R10) -/

/-- The four function slots. -/
def slots : List FnId := [0, 1, 2, 3]

/-- The sixteen station numbers. -/
def stations : List StationId := [0, 1, 2, 3, 4, 5, 6, 7, 8, 9, 10, 11, 12, 13, 14, 15]

/-- The sixteen discrete inputs. -/
def inputs : List InputId := [0, 1, 2, 3, 4, 5, 6, 7, 8, 9, 10, 11, 12, 13, 14, 15]

/-- The configured functions of a section. -/
def OwnSection.configured (o : OwnSection) : List FnSetup := slots.filterMap (fun f => o.fns[f])

/-- R8: a POSITIONED function has a span of at least 500. -/
def calibrated (f : FnSetup) : Bool := f.kind == .endOnly || Config.minSpan ≤ apart f.c0 f.c1

/-- Every term of a section, of guard lists and lamp conditions alike. -/
def OwnSection.terms (o : OwnSection) : List Term :=
  o.configured.flatMap (fun f => f.openTerms ++ f.closeTerms) ++ o.lamps.flatMap (fun l => l.on ++ l.flash)

/-- The function a selector names, for the four FN_ selectors. -/
def Selector.fn : Selector → Option FnId
  | .fnMotion f => some f
  | .fnEnd f => some f
  | .fnFault f => some f
  | .fnPosition f => some f
  | _ => none

/-- Whether a selector is LOCAL_INPUT. -/
def Selector.isLocal : Selector → Bool
  | .localInput _ => true
  | _ => false

/-- R9 for one term. An FN_ term on an own section that is not MOTION is a misfit of role, which R9 does not refuse
(assumption 6). -/
def termHolds (own : StationId) (o : OwnSection) (briefs : Vector Brief 16) (t : Term) : Bool :=
  !(t.station == own && o.role == .motion && (match t.selector.fn with
      | some f => o.fns[f].isNone
      | none => false)) &&
  !(t.selector.isLocal && t.station != own) &&
  !(briefs[t.station].role == .unused) &&
  !(t.station != own && briefs[t.station].role == .monitor)

/-- R9 for one function's pairing. -/
def pairingHolds (own : StationId) (briefs : Vector Brief 16) (f : FnId) (x : FnSetup) : Bool :=
  match x.pair with
  | none => true
  | some (n, g) =>
      x.kind == .positioned && !(n == own && g == f) && briefs[n].kinds[g] == some .positioned &&
      briefs[n].pairs[g] == some (own, f)

/-- R9: every reference of the own section holds. -/
def referencesHold (own : StationId) (o : OwnSection) (briefs : Vector Brief 16) : Bool :=
  o.terms.all (termHolds own o briefs) &&
  slots.all (fun f => match o.fns[f] with
    | some x => pairingHolds own briefs f x
    | none => true) &&
  (o.role != .motion || briefs[o.pumpStation].role == .pump)

/-- R10: the subscription set, in order of station number. -/
def subscriptions (own : StationId) (o : OwnSection) (briefs : Vector Brief 16) : List StationId :=
  stations.filter (fun n => n != own &&
    (o.terms.any (fun t => t.station == n) ||
     o.configured.any (fun f => match f.pair with
       | some (m, _) => m == n
       | none => false) ||
     (o.role == .motion && o.pumpStation == n) ||
     (o.role == .pump && briefs[n].role == .motion)))

/-! ## The load -/

/-- The outcome of the checks: the role byte the walk reached, and the setup or the class of the first failure. -/
structure LoadResult where
  ownRole : Option Role
  result : Except LoadFault Setup

/-- The checks in their order over the bytes after the header (R5 to R11). -/
def loadImage (own : StationId) (h : Header) (body : List Byte) : LoadResult :=
  if crc32 body ≠ h.fingerprint then { ownRole := none, result := .error .fingerprint }
  else
    let w := walk own (body.drop Config.timingBytes)
    match w.result with
    | .error e => { ownRole := w.ownRole, result := .error e }
    | .ok ss =>
        let t := readTiming body
        let briefs := briefsOf ss
        match (ss[own.val]?).bind readOwn with
        | none => { ownRole := w.ownRole, result := .error .range }
        | some o =>
            if !t.inRange then { ownRole := w.ownRole, result := .error .range }
            else if !o.configured.all calibrated then { ownRole := w.ownRole, result := .error .calibration }
            else if !referencesHold own o briefs then { ownRole := w.ownRole, result := .error .terms }
            else
              let sub := subscriptions own o briefs
              if Config.maxSubscription < sub.length then { ownRole := w.ownRole, result := .error .subscription }
              else { ownRole := w.ownRole,
                     result := .ok { timing := t, own := o, subscription := sub, fingerprint := h.fingerprint,
                                     briefs := briefs } }

end Sys2Proof.Machine
end

