-- ==== Sys2Proof/Machine/Receive.lean ====
section
/-! DEFINITION. The receive path of R20 to R25 over what the station sees on the line, and what a sender drives
(section 2.2, R31). -/

namespace Sys2Proof.Machine

/-- One nominal bit time in ticks of the 8 MHz tick (R1, R17). -/
def bitTicks : BitRate → Nat
  | .k100 => 80
  | .k50 => 160

/-- The bit rate that BR selects: low 50 kbit/s, open or high 100 kbit/s (R1). -/
def brRate : BrPin → BitRate
  | .low => .k50
  | .unconnected => .k100
  | .high => .k100

/-- Whether the line is dominant `t` ticks after the wave's first edge. -/
def dominantAt : Wave → Nat → Bool
  | [], _ => false
  | g :: w, t => if t < g.ticks then g.dominant else dominantAt w (t - g.ticks)

/-- The first tick not before `start` at which the line is dominant; `at_` is where the wave begins. -/
def nextDominant : Wave → (at_ start : Nat) → Option Nat
  | [], _, _ => none
  | g :: w, at_, start =>
      if g.dominant = true ∧ start < at_ + g.ticks then some (max at_ start)
      else nextDominant w (at_ + g.ticks) start

/-- The first tick not before `start` at which the line is recessive; past its end a wave is recessive. -/
def nextRecessive : Wave → (at_ start : Nat) → Nat
  | [], at_, start => max at_ start
  | g :: w, at_, start =>
      if g.dominant = false ∧ start < at_ + g.ticks then max at_ start
      else nextRecessive w (at_ + g.ticks) start

/-- What the receive path makes of a dominant run and what follows it: for a good frame its content and its heard slot. -/
inductive Verdict where
  /-- The wave does not begin with a dominant edge, so there is no run to examine. -/
  | noRun
  | dropped (reason : DropReason)
  | good (frame : Frame) (slot : HeardSlot)
  deriving DecidableEq, Repr

/-- The value of the eight data bits of a cell that begins at `e`, most significant first, dominant for 0 (R17, R22). -/
def cellValue (w : Wave) (b e : Nat) : (bits : Nat) → Nat
  | 0 => 0
  | k + 1 => cellValue w b e k * 2 + (if dominantAt w (e + (k + 1) * b + b / 2) then 0 else 1)

/-- The cell after the one that began at `prev`: its start-bit edge and its byte, or FRAMING (R22). -/
def readCell (w : Wave) (b prev : Nat) : Except DropReason (Nat × Byte) :=
  match nextDominant w 0 (prev + 9 * b + b / 2) with
  | none => .error .framing
  | some e =>
      if prev + 11 * b < e then .error .framing
      else if dominantAt w (e + b / 2) = false then .error .framing
      else if dominantAt w (e + 9 * b + b / 2) then .error .framing
      else .ok (e, byte (cellValue w b e 8))

/-- `n` cells in turn, and the start-bit edge of the last. -/
def readCells (w : Wave) (b : Nat) : (n prev : Nat) → Except DropReason (Nat × List Byte)
  | 0, prev => .ok (prev, [])
  | n + 1, prev =>
      match readCell w b prev with
      | .error r => .error r
      | .ok (e, x) =>
          match readCells w b n e with
          | .error r => .error r
          | .ok (last, xs) => .ok (last, x :: xs)

/-- The frame from its SYNC start-bit edge `e0` on, with the measured bit time `b` (R22 to R24). The start-bit edge of its
low CRC cell fixes the heard slot: one bit time `b`, ten of them after that edge (R26). -/
def readFrame (w : Wave) (b e0 : Nat) : Verdict :=
  if dominantAt w (e0 + 9 * b + b / 2) then .dropped .framing
  else match readCells w b 2 e0 with
  | .error r => .dropped r
  | .ok (e2, head) =>
      let id := natAt head 0
      let header := natAt head 1
      let n := header % 32
      if Config.maxData < n then .dropped .length
      else match readCells w b n e2 with
      | .error r => .dropped r
      | .ok (e3, data) =>
          match readCells w b 2 e3 with
          | .error r => .dropped r
          | .ok (e, check) =>
              if check = crc16Cells (head ++ data) then
                .good { kind := id / 16, station := stationOf (id % 16), edition := header / 32, data := data }
                  { start := e + 10 * b, length := b }
              else .dropped .crc

/-- The SYNC measurement from the SYNC start-bit edge (R21): the third dominant edge must come between 15/16 and 17/16
of the nominal 8 bit times, and gives the bit time, rounded half up. -/
def readSync (bt : Nat) (w : Wave) (e0 : Nat) : Verdict :=
  match nextDominant w 0 (nextRecessive w 0 e0) with
  | none => .dropped .syncError
  | some e1 =>
      match nextDominant w 0 (nextRecessive w 0 e1) with
      | none => .dropped .syncError
      | some e2 =>
          let n := e2 - e0
          if 16 * n < 15 * (8 * bt) ∨ 17 * (8 * bt) < 16 * n then .dropped .syncError
          else readFrame w (roundHalfUp n 8) e0

/-- The verdict on a wave at a station of a bit rate: the start mark (R20), the SYNC cell (R21), the cells (R22), the
length (R23) and the check (R24). -/
def receive (rate : BitRate) (w : Wave) : Verdict :=
  let bt := bitTicks rate
  if dominantAt w 0 = false then .noRun
  else
    let mark := nextRecessive w 0 0
    if mark / bt < Config.minMarkBits then .dropped .shortMark
    else if Config.maxMarkBits < mark / bt then .dropped .longMark
    else match nextDominant w 0 mark with
    | none => .dropped .syncError
    | some e0 =>
        if e0 < mark + bt ∨ mark + 3 * bt < e0 then .dropped .syncError
        else readSync bt w e0

/-- The heard slot of the good frame that a wave brings at a bit rate (R26). -/
def heardAt (rate : BitRate) (w : Wave) : Option HeardSlot :=
  match receive rate w with
  | .good _ slot => some slot
  | _ => none

/-! ## What a sender drives -/

/-- The ID byte (R23). -/
def idByte (kind station : Nat) : Byte := byte (kind * 16 + station)

/-- The HEADER byte (R23). -/
def headerByte (edition len : Nat) : Byte := byte (edition * 32 + len)

/-- ID, HEADER, DATA and CRC of a frame (R24, R31). -/
def frameBytes (kind station edition : Nat) (data : List Byte) : List Byte :=
  let covered := idByte kind station :: headerByte edition data.length :: data
  covered ++ crc16Cells covered

/-- The levels of a cell, one for each bit time, true for dominant: start bit, data most significant first, stop bit. -/
def cellLevels (b : Byte) : List Bool :=
  [true, !bit b 7, !bit b 6, !bit b 5, !bit b 4, !bit b 3, !bit b 2, !bit b 1, !bit b 0, false]

/-- The levels of a frame from its start mark to its last CRC cell (section 2.2). -/
def frameLevels (bytes : List Byte) : List Bool :=
  List.replicate Config.markBits true ++ List.replicate Config.releaseBits false ++
    cellLevels (byte Config.syncByte) ++ bytes.flatMap cellLevels

/-- A list of levels on the line at the nominal bit time of a rate (R17). -/
def driveWave (rate : BitRate) (levels : List Bool) : Wave :=
  levels.map (fun d => { dominant := d, ticks := bitTicks rate })

end Sys2Proof.Machine
end

