-- ==== Sys2Proof/Machine/Flags.lean ====
section
/-! DEFINITION. What the station's state shows at a moment: the flags, views and conditions that the rules compute
from it (the station byte, the own record, the image as blocks read it, the ends, the demands, the output gate, the
outputs). Nothing here changes a state. -/

namespace Sys2Proof.Machine

/-! ## The loaded configuration -/

/-- A timing block of zeros. -/
def Timing.blank : Timing :=
  { refresh := 0, changeInhibit := 0, stale := 0, intentRefresh := 0, intentLease := 0, debounce := 0,
    discrepancy := 0, positionStep := 0, pwm := 0 }

/-- What a station without a configuration reads of it: role UNUSED, no function, no lamp. -/
def Setup.blank : Setup :=
  { timing := Timing.blank, own := OwnSection.blank, subscription := [], fingerprint := 0,
    briefs := Vector.replicate 16 Brief.blank }

/-- The loaded configuration. -/
def State.cfg (s : State) : Setup := s.setup.getD Setup.blank

/-- The timing block. -/
def State.timing (s : State) : Timing := s.cfg.timing

/-- The station's role. -/
def State.role (s : State) : Role := s.cfg.own.role

/-- The setup of a function slot, if the section configures it. -/
def State.fnSetup (s : State) (f : FnId) : Option FnSetup := s.cfg.own.fns[f]

/-- The profile of a direction (section 1.5). -/
def FnSetup.profile (x : FnSetup) : Dir → Profile
  | .toOpen => x.openProfile
  | .toClose => x.closeProfile

/-- The guard list of a direction (R75). -/
def FnSetup.terms (x : FnSetup) : Dir → List Term
  | .toOpen => x.openTerms
  | .toClose => x.closeTerms

/-- A profile of zeros, for a function without a target direction (R129: no profile is read). -/
def Profile.blank : Profile :=
  { pressureThreshold := 0, pressuriseTimeout := 0, grantWait := 0, strokeLimit := 0, stallWindow := 0,
    stallDelta := 0, seatTime := 0, pullIn := 0, holdDuty := 0, travelLevel := 0, creepLevel := 0, creepZone := 0,
    ramp := 0, stopRamp := 0, skewDeadband := 0, skewGain := 0, skewTrip := 0, claimUnits := 0, claimPriority := 0 }

/-- The motion profile of the direction in which a function is moving (R108, R129). -/
def State.profile (s : State) (f : FnId) : Profile :=
  match s.fnSetup f, (s.fns[f]).target with
  | some x, some d => x.profile d
  | _, _ => Profile.blank

/-- Whether a slot is a configured POSITIONED function. -/
def State.isPositioned (s : State) (f : FnId) : Bool :=
  match s.fnSetup f with
  | some x => x.kind == .positioned
  | none => false

/-- The states in which the field inputs, the image and the tables are followed (sections 4.6, 6.1, 9.2). -/
def State.running (s : State) : Bool :=
  match s.life with
  | .joining => true
  | .active => true
  | .withdrawn => true
  | _ => false

/-- Whether the station is ACTIVE. -/
def State.isActive (s : State) : Bool := s.life == .active

/-- Whether the station's role is one of the two panel roles. -/
def State.isPanel (s : State) : Bool := s.role == .panelCommand || s.role == .panelStop

/-- The motion states in which a function has left REST and holds a claim (R41, R111). -/
def Motion.claims : Motion → Bool
  | .awaitFlow => true
  | .pressurise => true
  | .travel => true
  | .creep => true
  | .seat => true
  | .stopping => true
  | _ => false

/-- The motion states in which outputs may be energised: PRESSURISE to STOPPING (R112, R140). -/
def Motion.moving : Motion → Bool
  | .pressurise => true
  | .travel => true
  | .creep => true
  | .seat => true
  | .stopping => true
  | _ => false

/-- The states in which a function's mode follows the effective intent (R82). -/
def Motion.atRest : Motion → Bool
  | .none => true
  | .rest => true
  | .heldFault => true
  | _ => false

/-! ## Discrete inputs -/

/-- Whether a list of sensor or panel entries names an input. -/
def names (i : InputId) (es : List (Option InputId)) : Bool := es.any (fun e => e == some i)

/-- The sensor entries of a function. -/
def FnSetup.sensors (x : FnSetup) : List (Option InputId) := [some x.openA, x.openB, some x.closedA, x.closedB]

/-- The panel entries but STOP. -/
def PanelInputs.others (p : PanelInputs) : List (Option InputId) :=
  [p.openB, p.closeB, p.reset, p.commandKey, p.maintKey, p.underway, p.jogOpen, p.jogClose, p.select0, p.select1,
   p.select2, p.select3]

/-- The inputs with a pull-up, active-low use: the pump overloads and STOP (R92). -/
def State.activeLow (s : State) (i : InputId) : Bool :=
  (s.role == .pump && (i == 1 || i == 3)) || names i [s.cfg.own.panel.stop]

/-- The inputs with a pull-down, active-high use (R92). -/
def State.activeHighUse (s : State) (i : InputId) : Bool :=
  (s.role == .pump && (i == 0 || i == 2)) || names i s.cfg.own.panel.others ||
  s.cfg.own.configured.any (fun x => names i x.sensors) ||
  s.cfg.own.terms.any (fun t => t.selector == .localInput i)

/-- Whether an input has a use (R92). -/
def State.used (s : State) (i : InputId) : Bool := s.activeLow i || s.activeHighUse i

/-- The bias of an input. -/
inductive Bias where
  | none
  | pullUp
  | pullDown
  deriving DecidableEq, Repr

/-- The bias that the station puts on an input: a pull-up, active-low use wins; unbiased without a use and in RESET,
LOADING and CONFIG_FAULT (R92). -/
def State.bias (s : State) (i : InputId) : Bias :=
  if !s.running then .none
  else if s.activeLow i then .pullUp
  else if s.activeHighUse i then .pullDown
  else .none

/-- The input level of R93: the line level after polarity, true for ACTIVE. -/
def State.inputLevel (s : State) (i : InputId) : Bool := s.field.lines.di[i] != s.activeLow i

/-- Whether an input is accepted ACTIVE. -/
def State.accepted (s : State) (i : InputId) : Bool := (s.field.di[i]).accepted == some true

/-- Whether a panel entry names an input that is accepted ACTIVE; an absent entry is never active (section 9.1). -/
def State.entryActive (s : State) : Option InputId → Bool
  | some i => s.accepted i
  | none => false

/-! ## Function ends -/

/-- Sensor A of an end. -/
def FnSetup.sensorA (x : FnSetup) : Dir → InputId
  | .toOpen => x.openA
  | .toClose => x.closedA

/-- Sensor B of an end. -/
def FnSetup.sensorB (x : FnSetup) : Dir → Option InputId
  | .toOpen => x.openB
  | .toClose => x.closedB

/-- The pair of an end. -/
def FnField.endPair (x : FnField) : Dir → EndPair
  | .toOpen => x.openEnd
  | .toClose => x.closedEnd

/-- An end is made when its pair state is AGREED and every configured sensor of it is accepted ACTIVE (R96). -/
def State.made (s : State) (f : FnId) (d : Dir) : Bool :=
  match s.fnSetup f with
  | none => false
  | some x =>
      ((s.field.fns[f]).endPair d).state == .agreed && s.accepted (x.sensorA d) &&
      (match x.sensorB d with
        | some b => s.accepted b
        | none => true)

/-- The end state that the two ends give (R98); UNKNOWN for an unconfigured slot. -/
def State.endStateNow (s : State) (f : FnId) : EndState :=
  if (s.fnSetup f).isNone then .unknown
  else if ((s.field.fns[f]).openEnd).state = .disagreed ∨ ((s.field.fns[f]).closedEnd).state = .disagreed then .unknown
  else
    match s.made f .toOpen, s.made f .toClose with
    | true, true => .unknown
    | true, false => .atOpen
    | false, true => .atClosed
    | false, false => .between

/-- Whether an end of the function is DISAGREED (R97). -/
def State.disagreed (s : State) (f : FnId) : Bool :=
  ((s.field.fns[f]).openEnd).state == .disagreed || ((s.field.fns[f]).closedEnd).state == .disagreed

/-- Whether an unclamped position lies in the fault band's inside, -30 to 1030 (R101). -/
def inBand (p : Int) : Bool := Config.bandLow ≤ p && p ≤ Config.bandHigh

/-- The clamped position (R130). -/
def clampPosition (p : Int) : Nat := min p.toNat 1000

/-- Whether the latest conversion of a POSITIONED function lies out of band (R101). -/
def State.outOfBand (s : State) (f : FnId) : Bool :=
  match (s.field.fns[f]).lastRaw with
  | some p => !inBand p
  | none => false

/-! ## Intents and demands -/

/-- The other entries of the table agree with a kind and target (R149). -/
def agreeWith (k : IntentKind) (es : List IntentKind) : Bool := es.all (fun e => e == k)

/-- The effective intent of a list of entries: STOP wins, an empty table gives NONE, agreement gives the common kind
and target, and disagreement gives NONE (R149). -/
def effectiveOf (es : List IntentKind) : Option IntentKind :=
  if es.any (fun e => e == .stop) then some .stop
  else
    match es with
    | [] => none
    | k :: rest => if agreeWith k rest then some k else none

/-- The kinds in the intent table, in order of station number. -/
def IntentTrip.kinds (u : IntentTrip) : List IntentKind :=
  stations.filterMap (fun n => (u.table[n]).map IntentEntry.kind)

/-- The demand of a function in a direction (R109). -/
def State.demands (s : State) (f : FnId) (d : Dir) : Bool :=
  (s.fnSetup f).isSome && !s.made f d &&
  (match s.unit.effective, d with
    | some .toOpen, .toOpen => true
    | some .toClose, .toClose => true
    | some (.single n g e), d => n == s.station && g == f && e == d
    | _, _ => false)

/-- The direction in which a function has a demand, if it has one (R109). -/
def State.demand (s : State) (f : FnId) : Option Dir :=
  if s.demands f .toOpen then some .toOpen
  else if s.demands f .toClose then some .toClose
  else none

/-- Whether the effective intent is a SINGLE of this function (R82). -/
def State.singled (s : State) (f : FnId) : Bool :=
  match s.unit.effective with
  | some (.single n g _) => n == s.station && g == f
  | _ => false

/-! ## Stops and outputs -/

/-- The trip list's classes, in order of originator. -/
def IntentTrip.classes (u : IntentTrip) : List StopClass := stations.filterMap (fun n => u.trips[n])

/-- Whether the trip list holds an E_STOP entry. -/
def State.eStopHeld (s : State) : Bool := s.unit.classes.any (fun c => c == .eStop)

/-- Whether the trip list is empty. -/
def State.tripFree (s : State) : Bool := s.unit.classes.isEmpty

/-- The output gate (R139). -/
def State.gateOpen (s : State) : Bool :=
  s.isActive && s.field.stopLoopClosed && s.field.supplyOk && !s.eStopHeld

/-- Whether any function of the station is in PRESSURISE to STOPPING (R140). -/
def State.anyMoving (s : State) : Bool := slots.any (fun f => (s.fns[f]).motion.moving)

/-- The dump valve's state as R140 computes it. -/
def State.dumpNow (s : State) : Bool := s.gateOpen && s.anyMoving

/-- Whether a pulse generator's output is on at this moment (R137). -/
def PulseGen.isOn : PulseGen → Bool
  | .off => false
  | .running _ _ inHigh _ => inHigh

/-- Whether the direction solenoid of a function is energised, fully or by pulses (R112, R138). -/
def State.solenoidEnergised (s : State) (f : FnId) (d : Dir) : Bool :=
  s.gateOpen && (s.drive[f]).phase != .off && (s.fns[f]).target == some d

/-- The level on a solenoid output at this moment: fully on in PULL_IN, pulsed in HOLD (R138). -/
def State.solenoidOut (s : State) (f : FnId) (d : Dir) : Bool :=
  s.solenoidEnergised f d && ((s.drive[f]).phase == .pullIn || ((s.drive[f]).sol).isOn)

/-- The level on a proportional output at this moment (R137). -/
def State.proportionalOut (s : State) (f : FnId) : Bool := s.gateOpen && ((s.drive[f]).prop).isOn

/-- The machine of a pump. -/
def Flow.pump (x : Flow) : PumpId → Pump
  | .a => x.a
  | .b => x.b

/-- Whether the arbiter asks for a contactor: its machine is in STARTING or RUNNING (R157, R158). -/
def PumpState.asks : PumpState → Bool
  | .starting => true
  | .running => true
  | _ => false

/-- A contactor output of a PUMP station (R138, R139). -/
def State.contactorOut (s : State) (p : PumpId) : Bool :=
  s.gateOpen && s.role == .pump && ((s.flow.pump p).state).asks

/-- The output SO(n): the OPEN solenoid of Fn on SO(2n), the CLOSE solenoid on SO(2n + 1) (R112); at a PUMP station
SO0 and SO1 are the contactors (R138). -/
def State.so (s : State) (n : Fin 8) : Bool :=
  if s.role = .pump then
    (if n = 0 then s.contactorOut .a else if n = 1 then s.contactorOut .b else false)
  else s.solenoidOut (fnOf (n.val / 2)) (if n.val % 2 = 0 then .toOpen else .toClose)

/-- The dump valve output DV (R140). -/
def State.dv (s : State) : Bool := s.gateOpen && s.dump

/-- The lamp output LOn (R90, R91). -/
def State.lamp (s : State) (n : Fin 8) : Bool :=
  s.isActive &&
  (match (s.guard.lamps[n]).state with
    | .off => false
    | .on => true
    | .flash => s.guard.flash == some .lit)

/-! ## The own record -/

/-- The station byte (R40). -/
def State.stationByte (s : State) : Byte :=
  stationByteOf s.isActive s.unit.tripAsserted s.field.stopLoopClosed s.field.supplyOk s.loop.lone s.unit.restartHold
    s.resetCause

/-- The function record of a slot (R41, R42): the claim of the direction it moves in, from AWAIT_FLOW to STOPPING. -/
def State.fnRecord (s : State) (f : FnId) : FnRecord :=
  let x := s.fns[f]
  let claiming := x.motion.claims
  { motion := x.motion, endState := (s.field.fns[f]).endState,
    priority := if claiming then (s.profile f).claimPriority else 0, fault := x.fault,
    blocking := (s.guard.fns[f]).blocking, units := if claiming then (s.profile f).claimUnits else 0,
    position := (s.field.fns[f]).position }

/-- A panel's flags and selection (R44, R143). -/
def State.panelRecord (s : State) : Record :=
  let p := s.cfg.own.panel
  let sel := s.panel.selection.getD (0, 0)
  .panel (s.entryActive p.underway) (s.entryActive p.commandKey) (s.entryActive p.maintKey) sel.1 sel.2

/-- The payload that the station's role publishes after its station byte; MONITOR publishes none (R58). -/
def State.ownRecord (s : State) : Option Record :=
  match s.role with
  | .motion => some (.motion #v[s.fnRecord 0, s.fnRecord 1, s.fnRecord 2, s.fnRecord 3])
  | .pump => some (.pump s.flow.a.state s.flow.b.state s.flow.capacity s.flow.grants)
  | .panelCommand => some s.panelRecord
  | .panelStop => some s.panelRecord
  | _ => none

/-! ## The image as blocks read it -/

/-- The own entry: its state follows the life cycle and its content mirrors the station (R58). -/
def State.ownEntry (s : State) : Entry :=
  match s.life with
  | .joining => { state := .known, role := some s.role, fpMatch := .matched, age := none, byte := some s.stationByte,
                  record := s.ownRecord }
  | .withdrawn => { state := .known, role := some s.role, fpMatch := .matched, age := none,
                    byte := some s.stationByte, record := s.ownRecord }
  | .active => { state := .fresh, role := some s.role, fpMatch := .matched, age := none, byte := some s.stationByte,
                 record := s.ownRecord }
  | _ => Entry.atReset

/-- The entry of a station number as every block reads it (R57, R58). -/
def State.entry (s : State) (n : StationId) : Entry := if n = s.station then s.ownEntry else s.image[n]

/-- Whether an entry is FRESH. -/
def State.isFresh (s : State) (n : StationId) : Bool := (s.entry n).state == .fresh

/-- A function record of an entry, while it is FRESH. -/
def State.peerFn (s : State) (n : StationId) (f : FnId) : Option FnRecord :=
  if s.isFresh n then
    match (s.entry n).record with
    | some (.motion fns) => some fns[f]
    | _ => none
  else none

/-- The grant list of a pump station's entry, while it is FRESH (R71). -/
def State.peerGrants (s : State) (n : StationId) : Option (List (StationId × FnId)) :=
  if s.isFresh n then
    match (s.entry n).record with
    | some (.pump _ _ _ gs) => some gs
    | _ => some []
  else none

/-- Whether the function reads its grant: its pump station's entry is FRESH and the list holds it (R71). -/
def State.holdsGrant (s : State) (f : FnId) : Bool :=
  match s.peerGrants s.cfg.own.pumpStation with
  | some gs => gs.contains (s.station, f)
  | none => false

/-- The release test of R111: the pump's entry is FRESH and its list does not hold this station and slot. -/
def State.grantGone (s : State) (f : FnId) : Bool :=
  match s.peerGrants s.cfg.own.pumpStation with
  | some gs => !gs.contains (s.station, f)
  | none => false

/-- The peer position q of a paired function, while the peer's entry is FRESH and q is valid (R133). -/
def State.peerPosition (s : State) (f : FnId) : Option Nat :=
  match (s.fnSetup f).bind FnSetup.pair with
  | none => none
  | some (n, g) =>
      match s.peerFn n g with
      | some r => if r.position = Config.noPosition then none else some r.position
      | none => none

/-! ## Causes and faults -/

/-- Whether a fault code is one that raises a trip: STALL, SKEW or WRONG_DIRECTION (R55). -/
def FaultCode.raisesTrip : FaultCode → Bool
  | .stall => true
  | .skew => true
  | .wrongDirection => true
  | _ => false

/-- The first trip cause that is present, in the order of R55. -/
def State.tripCause (s : State) : Option TripReason :=
  if !s.field.stopLoopClosed then some .stopLoopOpen
  else if !s.field.supplyOk then some .fieldSupplyLow
  else
    match slots.find? (fun f => (s.fns[f]).fault.raisesTrip) with
    | some f => some (.functionFault f)
    | none => none

/-- Whether any function of the station holds a latched fault (R153). -/
def State.anyLatched (s : State) : Bool := slots.any (fun f => (s.fns[f]).fault.latched)

/-- The distance to target: 1000 - p toward OPEN, p toward CLOSE (R117, R131). -/
def distance (d : Dir) (p : Nat) : Nat :=
  match d with
  | .toOpen => 1000 - p
  | .toClose => p

/-! ## The selection of a panel (R143) -/

/-- The selectable functions: the configured functions of every MOTION section, by station and slot. -/
def Setup.selectable (c : Setup) : List (StationId × FnId) :=
  stations.flatMap (fun n =>
    if (c.briefs[n]).role = .motion then
      slots.filterMap (fun f => if ((c.briefs[n]).kinds[f]).isSome then some (n, f) else none)
    else [])

/-- The number that the SELECT inputs form, SELECT3 the most significant (R143). -/
def State.selectNumber (s : State) : Nat :=
  let p := s.cfg.own.panel
  flagAt (s.entryActive p.select3) 3 + flagAt (s.entryActive p.select2) 2 + flagAt (s.entryActive p.select1) 1 +
    flagAt (s.entryActive p.select0) 0

/-- The selection of a PANEL_COMMAND station; no other role has one (R143). -/
def State.selectionNow (s : State) : Option (StationId × FnId) :=
  if s.role = .panelCommand then s.cfg.selectable[s.selectNumber]? else none

/-- The movement buttons that are effective, each with the intent it gives (R144). -/
def State.movements (s : State) : List IntentKind :=
  let p := s.cfg.own.panel
  let pressed := fun (armed : Bool) (e : Option InputId) => armed && s.entryActive e
  let jog := fun (d : Dir) => match s.panel.selection with
    | some (n, f) => [IntentKind.single n f d]
    | none => []
  (if pressed s.panel.armOpen p.openB && s.entryActive p.commandKey then [IntentKind.toOpen] else []) ++
  (if pressed s.panel.armClose p.closeB && s.entryActive p.commandKey then [IntentKind.toClose] else []) ++
  (if pressed s.panel.armJogOpen p.jogOpen && s.entryActive p.maintKey then jog .toOpen else []) ++
  (if pressed s.panel.armJogClose p.jogClose && s.entryActive p.maintKey then jog .toClose else [])

/-- The held intent that the buttons, keys and selection give in ACTIVE; NONE is `none` (R144). -/
def State.heldNow (s : State) : Option IntentKind :=
  if !s.isActive || !s.isPanel then none
  else if s.panel.armStop && s.entryActive s.cfg.own.panel.stop then some .stop
  else
    match s.movements with
    | [] => none
    | [k] => some k
    | _ => some .stop

end Sys2Proof.Machine
end

