-- ==== Sys2Proof/Machine/Guards.lean ====
section
/-! DEFINITION. The guard engine's computations (chapter 5): the value of a term, the permits, hold causes, blocking
terms and lamp states that the present state gives. -/

namespace Sys2Proof.Machine

/-- The kinds of value a term reads (section 5.2). -/
inductive TermReading where
  | code (n : Nat)
  | flags (b : Byte)
  | number (n : Nat)
  deriving DecidableEq, Repr

/-- Whether a selector fits a role (R76). -/
def Selector.fits : Selector → Role → Bool
  | .stationFlags, r => r != .unused
  | .fnMotion _, r => r == .motion
  | .fnEnd _, r => r == .motion
  | .fnFault _, r => r == .motion
  | .fnPosition _, r => r == .motion
  | .panelFlags, r => r == .panelCommand || r == .panelStop
  | .pumpState _, r => r == .pump
  | .pumpCapacity, r => r == .pump
  | .localInput _, _ => true

/-- The value that a term reads of a FRESH entry (R76, R77). -/
def State.reads (s : State) (e : Entry) (sel : Selector) : Option TermReading :=
  match sel, e.record with
  | .stationFlags, _ => e.byte.map .flags
  | .localInput i, _ => some (.code (if s.accepted i then 1 else 0))
  | .fnMotion f, some (.motion fns) => some (.code (fns[f]).motion.code)
  | .fnEnd f, some (.motion fns) => some (.code (fns[f]).endState.code)
  | .fnFault f, some (.motion fns) => some (.code (fns[f]).fault.code)
  | .fnPosition f, some (.motion fns) => some (.number (fns[f]).position)
  | .panelFlags, some (.panel u c m _ _) => some (.flags (panelFlagsByte u c m))
  | .pumpState .a, some (.pump a _ _ _) => some (.code a.code)
  | .pumpState .b, some (.pump _ b _ _) => some (.code b.code)
  | .pumpCapacity, some (.pump _ _ cap _) => some (.number cap)
  | _, _ => none

/-- The operator applied to the value read (R79 to R81). The enumeration of a byte or number selector is empty, so
MEMBER is false for it. -/
def Operator.apply : Operator → TermReading → Bool
  | .member codes, .code n => codes.getLsbD n
  | .member _, .flags _ => false
  | .member _, .number _ => false
  | .maskedEqual m v, .code n => (byte n &&& m) == (v &&& m)
  | .maskedEqual m v, .flags b => (b &&& m) == (v &&& m)
  | .maskedEqual m v, .number n => (byte n &&& m) == (v &&& m)
  | .atLeast t, .code n => t ≤ n
  | .atLeast t, .flags b => t ≤ b.toNat
  | .atLeast t, .number n => t ≤ n
  | .below t, .code n => n < t
  | .below t, .flags b => b.toNat < t
  | .below t, .number n => n < t

/-- Whether a term can be answered from an entry: it is FRESH, the selector fits its role, and a position read is not
1023 (R78). -/
def State.answerable (s : State) (t : Term) : Option TermReading :=
  let e := s.entry t.station
  if e.state ≠ .fresh then none
  else
    match e.role with
    | none => none
    | some r =>
        if t.selector.fits r then
          match t.selector, s.reads e t.selector with
          | .fnPosition _, some (.number p) => if p = Config.noPosition then none else some (.number p)
          | _, v => v
        else none

/-- The value of a term (R78): false where it cannot be answered, whatever its invert flag. -/
def State.termValue (s : State) (t : Term) : Bool :=
  match s.answerable t with
  | none => false
  | some v => t.operator.apply v != t.invert

/-- The implicit pair term; true for an unpaired function, which carries none (R84). -/
def State.pairValue (s : State) (f : FnId) : Bool :=
  match (s.fnSetup f).bind FnSetup.pair with
  | none => true
  | some _ => (s.peerPosition f).isSome

/-- Whether a term applies in a mode (R82). -/
def Term.applies (t : Term) (m : Mode) : Bool := m == .normal || t.safe

/-- The index of the first listed term that satisfies a test on the term and its value. -/
def firstIndex (test : Term → Bool → Bool) : List Term → List Bool → (index : Nat) → Option Nat
  | t :: ts, v :: vs, i => if test t v then some i else firstIndex test ts vs (i + 1)
  | _, _, _ => none

/-- The permits of one direction (R83). -/
def permitsOf (terms : List Term) (values : List Bool) (mode : Mode) (pair : Bool) : Permits :=
  let falseTerm := firstIndex (fun t v => t.applies mode && !v) terms values 0
  let falseHold := firstIndex (fun t v => t.applies mode && t.hold && !v) terms values 0
  { values := values
    start := falseTerm.isNone && pair
    proceed := falseHold.isNone && pair
    holdCause := if !pair then .pair
      else match falseHold with
        | some i => .term i
        | none => .none }

/-- The mode that the engine holds for a function: fixed from leaving REST to the return (R82). -/
def State.modeNow (s : State) (f : FnId) : Mode :=
  if (s.fns[f]).motion.atRest then (if s.singled f then .single else .normal) else (s.guard.fns[f]).mode

/-- The blocking term (R85). A function in AWAITING_RELEASE whose guard refuses its demand shows the index, as R85 and the example
of section 11.5 have it, although R111 says 15 of that state (assumption 52). -/
def State.blockingNow (s : State) (f : FnId) (x : FnSetup) (mode : Mode) (opening closing : List Bool) : Nat :=
  if (s.fns[f]).motion ≠ .rest then Config.noBlocking
  else
    let first := fun (d : Dir) (vs : List Bool) =>
      (firstIndex (fun t v => t.applies mode && !v) (x.terms d) vs 0).getD Config.noBlocking
    match s.demand f with
    | some .toOpen => first .toOpen opening
    | some .toClose => first .toClose closing
    | none => Config.noBlocking

/-- What the engine computes for a function slot (R83 to R86); an unconfigured slot has no lists. -/
def State.fnGuardNow (s : State) (f : FnId) : FnGuard :=
  match s.fnSetup f with
  | none => FnGuard.blank
  | some x =>
      let mode := s.modeNow f
      let pair := s.pairValue f
      let ov := x.openTerms.map s.termValue
      let cv := x.closeTerms.map s.termValue
      { mode := mode, pairTerm := pair, opening := permitsOf x.openTerms ov mode pair,
        closing := permitsOf x.closeTerms cv mode pair, blocking := s.blockingNow f x mode ov cv }

/-- A condition holds when it has a term and every term of it is true (R89). -/
def conditionHolds (values : List Bool) : Bool := !values.isEmpty && values.all id

/-- A lamp as its conditions give it (R89). -/
def State.lampNow (s : State) (n : Nat) : Lamp :=
  match s.cfg.own.lamps[n]? with
  | none => Lamp.blank
  | some l =>
      let on := l.on.map s.termValue
      let fl := l.flash.map s.termValue
      { onValues := on, flashValues := fl,
        state := if conditionHolds fl then .flash else if conditionHolds on then .on else .off }

/-- The engine after evaluating everything (R86): a term that nothing has touched keeps its value. -/
def State.guardNow (s : State) : GuardEngine :=
  { fns := #v[s.fnGuardNow 0, s.fnGuardNow 1, s.fnGuardNow 2, s.fnGuardNow 3]
    lamps := #v[s.lampNow 0, s.lampNow 1, s.lampNow 2, s.lampNow 3, s.lampNow 4, s.lampNow 5, s.lampNow 6, s.lampNow 7]
    flash := s.guard.flash }

/-! ## Outside ACTIVE (R75, R88) -/

/-- The values of the terms of a list before its first evaluation. R75 gives each term a value from the end of a good load and
names none for this time: the model holds it false (assumption 41). -/
def unevaluated (terms : List Term) : List Bool := terms.map (fun _ => false)

/-- A function slot at the end of a good load (R75). -/
def FnGuard.loaded : Option FnSetup → FnGuard
  | none => FnGuard.blank
  | some x => { FnGuard.blank with
      opening := { Permits.blank with values := unevaluated x.openTerms }
      closing := { Permits.blank with values := unevaluated x.closeTerms } }

/-- A lamp at the end of a good load (R75). -/
def Lamp.loaded : Option LampSetup → Lamp
  | none => Lamp.blank
  | some l => { Lamp.blank with onValues := unevaluated l.on, flashValues := unevaluated l.flash }

/-- The engine at the end of a good load: the results are as after the reset, and every term of the lists it now holds has a
value (R75). -/
def GuardEngine.loaded (o : OwnSection) : GuardEngine :=
  let lamp := fun (n : Nat) => Lamp.loaded (o.lamps[n]?)
  { fns := #v[.loaded o.fns[0], .loaded o.fns[1], .loaded o.fns[2], .loaded o.fns[3]]
    lamps := #v[lamp 0, lamp 1, lamp 2, lamp 3, lamp 4, lamp 5, lamp 6, lamp 7]
    flash := none }

/-- The results of a direction at the exit from ACTIVE: both permits false, no hold cause. R88 names no change of the terms'
values, which stay as last computed (assumption 41). -/
def Permits.cleared (p : Permits) : Permits := { Permits.blank with values := p.values }

/-- A function slot at the exit from ACTIVE (R88). Its pair term stays as last computed (assumption 41). -/
def FnGuard.cleared (g : FnGuard) : FnGuard :=
  { FnGuard.blank with pairTerm := g.pairTerm, opening := g.opening.cleared, closing := g.closing.cleared }

/-- A lamp at the exit from ACTIVE: OFF (R88). -/
def Lamp.cleared (l : Lamp) : Lamp := { l with state := .off }

/-- The engine at the exit from ACTIVE (R88): every permit false, every hold cause none, every mode NORMAL, every blocking term
15, every lamp OFF, the flash timer stopped. -/
def GuardEngine.cleared (g : GuardEngine) : GuardEngine :=
  { fns := #v[g.fns[0].cleared, g.fns[1].cleared, g.fns[2].cleared, g.fns[3].cleared]
    lamps := #v[g.lamps[0].cleared, g.lamps[1].cleared, g.lamps[2].cleared, g.lamps[3].cleared, g.lamps[4].cleared,
                g.lamps[5].cleared, g.lamps[6].cleared, g.lamps[7].cleared]
    flash := none }

/-- The permits of a direction. -/
def FnGuard.permits (g : FnGuard) : Dir → Permits
  | .toOpen => g.opening
  | .toClose => g.closing

end Sys2Proof.Machine
end

