-- ==== Sys2Proof/Machine/Operands.lean ====
section
/-! DEFINITION. How the operands of the commands are read (assumption 1): the bytes of the configuration memory, the
ticks of a run, the wave of a frame and the line levels. -/

namespace Sys2Proof.Machine

/-- The seven header bytes that the memory gave; bytes it did not give read as 0xFF (R4). -/
def headerOperand (bytes : List Byte) : List Byte := takeBytes Config.headerBytes bytes

/-- The bytes from offset 7 to offset length - 1 that the memory gave (R4). -/
def imageOperand (h : Header) (bytes : List Byte) : List Byte := takeBytes (h.length - Config.headerBytes) bytes

/-- A number of ticks in whole nominal bit times (R17). -/
def wholeBits (rate : BitRate) (ticks : Nat) : Nat := ticks / bitTicks rate

/-- The recessive bit times that make the line IDLE by a rule (R18, R19). -/
def IdleRule.limit : IdleRule → Nat
  | .join => Config.joinIdleBits
  | .noFrame => Config.noFrameIdleBits
  | .endGap => Config.endGapBits
  | .afterStuck => Config.afterStuckBits

/-- Data bit j + 1 of a byte in its cell, most significant first: true where the sender drives recessive (R17). -/
def cellBit (b : Byte) (j : Fin 8) : Bool := bit b (7 - j.val)

/-- Whether a drop is one that ends a sender's own frame before its ID cell (R33). -/
def dropsOwn : DropReason → Bool
  | .shortMark => true
  | .longMark => true
  | .syncError => true
  | .framing => true
  | .length => false
  | .crc => false

/-- Whether a frame is dropped after its start mark was accepted: every drop but those of the mark itself (R20). -/
def dropsAfterMark : DropReason → Bool
  | .shortMark => false
  | .longMark => false
  | .syncError => true
  | .framing => true
  | .length => true
  | .crc => true

/-- A level on one discrete line. -/
def lineInput (x : FieldLines) (i : InputId) (high : Bool) : FieldLines := { x with di := x.di.set i high }

/-- A reading on one analog position line. -/
def lineReading (x : FieldLines) (f : FnId) (raw : Reading) : FieldLines := { x with ai := x.ai.set f raw }

end Sys2Proof.Machine
end

