-- ==== Sys2Proof/Machine/Ops.lean ====
section
/-! DEFINITION. The named operations that the meanings share: updates of one block, the pending set, the publisher's
causes, the guard evaluation, and what the function controllers do at a change. -/

namespace Sys2Proof.Machine

/-! ## One block at a time -/

/-- Change the loop interface. -/
def State.onLoop (g : Loop → Loop) (s : State) : State := { s with loop := g s.loop }

/-- Change the publisher. -/
def State.onPub (g : Publisher → Publisher) (s : State) : State := { s with pub := g s.pub }

/-- Change the field inputs. -/
def State.onField (g : FieldInputs → FieldInputs) (s : State) : State := { s with field := g s.field }

/-- Change the intent and trip unit. -/
def State.onUnit (g : IntentTrip → IntentTrip) (s : State) : State := { s with unit := g s.unit }

/-- Change the flow arbiter. -/
def State.onFlow (g : Flow → Flow) (s : State) : State := { s with flow := g s.flow }

/-- Change the panel. -/
def State.onPanel (g : Panel → Panel) (s : State) : State := { s with panel := g s.panel }

/-- Change one function controller. -/
def State.onFn (f : FnId) (g : Fn → Fn) (s : State) : State := { s with fns := s.fns.set f (g s.fns[f]) }

/-- Change one function's valve drive. -/
def State.onDrive (f : FnId) (g : Drive → Drive) (s : State) : State :=
  { s with drive := s.drive.set f (g s.drive[f]) }

/-- Change what the field inputs hold for one function. -/
def State.onFnField (f : FnId) (g : FnField → FnField) (s : State) : State :=
  s.onField (fun x => { x with fns := x.fns.set f (g x.fns[f]) })

/-- Change one entry of the image. -/
def State.onEntry (n : StationId) (g : Entry → Entry) (s : State) : State :=
  { s with image := s.image.set n (g s.image[n]) }

/-- An operation on each function slot in turn. -/
def State.eachFn (op : FnId → State → State) (s : State) : State := op 3 (op 2 (op 1 (op 0 s)))

/-! ## The pending set (R27, R38) -/

/-- The kinds a station queues in its life cycle state and role (R38). -/
def State.mayQueue (s : State) : FrameKind → Bool
  | .announce => s.life == .joining || s.isActive || s.life == .configFault
  | .trip => s.isActive && s.role == .motion
  | .intent => s.isActive && s.isPanel
  | .status => s.isActive && (s.role == .motion || s.role == .pump || s.isPanel)

/-- A TRIP or INTENT request on its slot (R27). -/
def Slot.request {α : Type} (c : α) : Slot α → Slot α
  | .empty => .waiting c
  | .waiting _ => .waiting c
  | .inFlight own _ => .inFlight own (some c)

/-- A STATUS request on its slot: only an EMPTY slot changes (R27). -/
def statusRequest : Slot Unit → Slot Unit
  | .empty => .waiting ()
  | x => x

/-- An ANNOUNCE request on its slot; `begun` says that the ID cell of the frame in flight has begun (R27). -/
def announceRequest (ask begun : Bool) : Slot Bool → Slot Bool
  | .empty => .waiting ask
  | .waiting a => .waiting (a || ask)
  | .inFlight a successor =>
      if !begun then .inFlight (a || ask) successor
      else if ask && !a then .inFlight a (some true)
      else .inFlight a successor

/-- The slot after a completed send (R27, R34). -/
def Slot.completed {α : Type} : Slot α → Slot α
  | .inFlight _ (some c) => .waiting c
  | .inFlight _ none => .empty
  | x => x

/-- The slot after an arbitration loss or an abort (R27). -/
def Slot.returned {α : Type} : Slot α → Slot α
  | .inFlight own successor => .waiting (successor.getD own)
  | x => x

/-- Whether a slot is WAITING. -/
def Slot.isWaiting {α : Type} : Slot α → Bool
  | .waiting _ => true
  | _ => false

/-- Whether the frame in flight has begun its ID cell. -/
def Loop.idBegun (x : Loop) : Bool :=
  match x.send with
  | some m => m.idBegun
  | none => false

/-- Queue a TRIP and remember it as the last queued (R55, R56). -/
def State.queueTrip (r : TripReason) (s : State) : State :=
  if s.mayQueue .trip then
    (s.onLoop (fun x => { x with trip := x.trip.request r })).onUnit (fun u => { u with lastTrip := some r })
  else s

/-- Queue an INTENT with the UNDERWAY copy of this moment (R46, R145). -/
def State.queueIntent (k : IntentKind) (s : State) : State :=
  if s.mayQueue .intent then
    s.onLoop (fun x => { x with
      intent := x.intent.request { kind := k, underway := s.entryActive s.cfg.own.panel.underway } })
  else s

/-- Queue an ANNOUNCE (R54, R12). -/
def State.queueAnnounce (ask : Bool) (s : State) : State :=
  if s.mayQueue .announce then
    s.onLoop (fun x => { x with announce := announceRequest ask x.idBegun x.announce })
  else s

/-- Request a STATUS from the pending set (R48). -/
def State.requestStatus (s : State) : State := s.onLoop (fun x => { x with status := statusRequest x.status })

/-- A cause for a STATUS: requested at once, or deferred while the inhibit is in force (R48, R49). -/
def State.statusCause (s : State) : State :=
  if s.mayQueue .status then
    (if s.pub.inhibit then s.onPub (fun p => { p with deferred := true }) else s.requestStatus)
  else s

/-! ## The causes of R48 -/

/-- The fields of a record other than positions. -/
def FnRecord.fields (r : FnRecord) : List Nat :=
  [r.motion.code, r.endState.code, r.priority, r.fault.code, r.blocking, r.units]

/-- The published fields other than positions (R48). The model takes each field of a function record by itself, a grant byte
as one field, and a panel's flags byte and its selection byte as one field each (assumption 37). -/
def Record.fields : Record → List Nat
  | .motion fns => fns[0].fields ++ fns[1].fields ++ fns[2].fields ++ fns[3].fields
  | .pump a b capacity grants => a.code :: b.code :: capacity :: grants.length :: (grantBytes grants).map BitVec.toNat
  | .panel u c m n f => [(panelFlagsByte u c m).toNat, pairCode n f]

/-- The published positions. -/
def Record.positions : Record → List Nat
  | .motion fns => [fns[0].position, fns[1].position, fns[2].position, fns[3].position]
  | _ => []

/-- Some field has just changed and differs from the last-sent copy (R48, Change). -/
def fieldCause : (old new copy : List Nat) → Bool
  | o :: os, n :: ns, c :: cs => (n != o && n != c) || fieldCause os ns cs
  | _, _, _ => false

/-- Some position has just changed and differs from the copy by the position step, or in its validity (R48). -/
def positionCause (step : Nat) : (old new copy : List Nat) → Bool
  | o :: os, n :: ns, c :: cs =>
      (n != o && n != c && (n == Config.noPosition || c == Config.noPosition || step ≤ apart n c)) ||
        positionCause step os ns cs
  | _, _, _ => false

/-- Whether the change from `old` to `new` is a cause (R48). Without a last-sent copy every field differs. The station byte is
one field (assumption 37), and a change back to the copy's value is no cause, also while a STATUS with another value is past
its ID cell (assumption 45). -/
def isCause (old new : State) : Bool :=
  match old.ownRecord, new.ownRecord with
  | some ro, some rn =>
      match new.pub.lastSent.bind decodeStatus with
      | none => new.stationByte != old.stationByte || rn != ro
      | some (cb, rc) =>
          (new.stationByte != old.stationByte && new.stationByte != cb) ||
            fieldCause ro.fields rn.fields rc.fields ||
            positionCause new.timing.positionStep ro.positions rn.positions rc.positions
  | _, _ => false

/-- An operation whose effect on the own status the publisher examines at once (R48, R58). -/
def State.act (op : State → State) (s : State) : State :=
  let s' := op s
  if isCause s s' then s'.statusCause else s'

/-! ## The guard evaluation (R86) -/

/-- Evaluate every term, permit, hold cause, blocking term and lamp; in ACTIVE only (R86, R88). -/
def State.evaluate (s : State) : State :=
  if s.isActive then s.act (fun x => { x with guard := x.guardNow }) else s

/-! ## Motion: entries to the states (chapter 7) -/

/-- Every motion timer stopped and both references absent. -/
def Fn.quiet (x : Fn) : Fn :=
  { x with grantWait := none, pressurise := none, stroke := none, stall := none, stallRef := none, wrongRef := none,
           seat := none }

/-- Entry to REST or HELD_FAULT: target none, outputs off, and where a claim is withdrawn the grant release is
AWAITING_RELEASE and tested at once (R108, R111, R112). -/
def State.toIdle (m : Motion) (f : FnId) (s : State) : State :=
  let release := if (s.fns[f]).motion.claims then s.grantGone f else (s.fns[f]).released
  (s.onFn f (fun x => { x.quiet with motion := m, target := none, released := release })).onDrive f (fun _ => Drive.off)

/-- The end of STOPPING (R122). -/
def State.endStopping (f : FnId) (s : State) : State :=
  s.act (State.toIdle (if (s.fns[f]).fault.latched then .heldFault else .rest) f)

/-- Entry to STOPPING with a fault code; a level already 0 ends it at once (R120, R122). The guards are evaluated in the state
that results, not at the passage (R87, assumption 42). -/
def State.enterStopping (f : FnId) (code : FaultCode) (s : State) : State :=
  let s1 := s.act (State.onFn f (fun x => { x.quiet with motion := .stopping, fault := code }))
  if (s1.drive[f]).level = 0 then s1.endStopping f else s1

/-- An immediate stop of one function (R123); in ACTIVE a latched code goes on to HELD_FAULT (R125). -/
def State.immediateStop (f : FnId) (s : State) : State :=
  let x := s.fns[f]
  if x.motion.moving then
    let code := if x.fault.latched then x.fault else .stopped
    let s1 := s.act (fun t => (t.toIdle .rest f).onFn f (fun y => { y with fault := code }))
    if code.latched && s1.isActive then s1.act (State.onFn f (fun y => { y with motion := .heldFault })) else s1
  else if x.motion = .awaitFlow then s.act (State.toIdle .rest f)
  else s

/-- Every function stopped at once and every valve output off (R104, R107, R123, R139). -/
def State.stopNow (s : State) : State :=
  let s1 := s.eachFn State.immediateStop
  { s1 with drive := Vector.replicate 4 Drive.off }

/-- A C_STOP entry or LONE at one function: AWAIT_FLOW returns to REST without a fault, PRESSURISE to CREEP enter
STOPPING with STOPPED; SEAT and STOPPING take neither (R114, R120, R121, R122). -/
def State.halt (f : FnId) (s : State) : State :=
  match (s.fns[f]).motion with
  | .awaitFlow => s.act (State.toIdle .rest f)
  | .pressurise => s.enterStopping f .stopped
  | .travel => s.enterStopping f .stopped
  | .creep => s.enterStopping f .stopped
  | _ => s

/-- Leaving REST in a direction (R110). -/
def State.leaveRest (f : FnId) (d : Dir) (s : State) : State :=
  let p := match s.fnSetup f with
    | some x => x.profile d
    | none => Profile.blank
  s.act (State.onFn f (fun x =>
    { x with motion := .awaitFlow, target := some d, fault := if x.fault.latched then x.fault else .none,
             lostEnd := none, grantWait := some (p.grantWait * 1000) }))

/-- Entry to PRESSURISE (R113, R138). -/
def State.enterPressurise (f : FnId) (s : State) : State :=
  let p := s.profile f
  s.act (fun t => (t.onFn f (fun x =>
    { x with motion := .pressurise, grantWait := none, pressurise := some p.pressuriseTimeout })).onDrive f
      (fun _ => { Drive.off with phase := .pullIn, pullIn := some p.pullIn }))

/-- Entry to TRAVEL, and on into CREEP within the creep zone (R117). -/
def State.enterTravel (f : FnId) (s : State) : State :=
  let p := s.profile f
  s.act (State.onFn f (fun x =>
    let base := { x with motion := .travel, pressurise := none, stroke := some (p.strokeLimit * 1000) }
    match s.isPositioned f, x.target with
    | true, some d =>
        let away := distance d (s.field.fns[f]).position
        { base with
          motion := if 0 < p.creepZone ∧ away ≤ p.creepZone then .creep else .travel
          stallRef := some away, wrongRef := some away, stall := some p.stallWindow }
    | _, _ => base))

/-- The end of SEAT: REST with the fault code left at NONE, or STOPPING if a latched fault is held (R121). A SEAT that goes on into
STOPPING keeps its solenoid phase and its level (assumption 48). -/
def State.endSeat (f : FnId) (s : State) : State :=
  if (s.fns[f]).fault.latched then s.enterStopping f (s.fns[f]).fault else s.act (State.toIdle .rest f)

/-- Entry to SEAT; a seat time of 0 ends it at its entry (R121), without an evaluation at the passage (assumption 42). -/
def State.enterSeat (f : FnId) (s : State) : State :=
  let t := (s.profile f).seatTime
  let s1 := s.act (State.onFn f (fun x => { x.quiet with motion := .seat, seat := some t }))
  if t = 0 then s1.endSeat f else s1

/-! ## Guard results and demands at a function -/

/-- The conditions for leaving REST in a direction (R110). -/
def State.mayLeave (s : State) (f : FnId) (d : Dir) : Bool :=
  (s.fns[f]).motion == .rest && s.demands f d && ((s.guard.fns[f]).permits d).start && s.isActive && !s.loop.lone &&
  !s.unit.restartHold && s.tripFree && s.field.stopLoopClosed && s.field.supplyOk && !(s.fns[f]).fault.latched &&
  (s.fns[f]).released

/-- The fault code of a false permit to continue (R83, R120). -/
def Permits.lossCode (p : Permits) : FaultCode :=
  match p.holdCause with
  | .pair => .peerLost
  | _ => .holdLost

/-- What a function in PRESSURISE, TRAVEL or CREEP does when its permit to continue is false, if it is (R120). -/
def State.permitStop (s : State) (f : FnId) (d : Dir) : Option State :=
  let p := (s.guard.fns[f]).permits d
  if p.proceed then none else some (s.enterStopping f p.lossCode)

/-- What such a function does when its demand has ceased: SEAT where its target end is made in TRAVEL or CREEP, and
else STOPPING with its code unchanged (R120, R121). -/
def State.demandStop (s : State) (f : FnId) (d : Dir) : Option State :=
  if s.demands f d then none
  else if s.made f d && (s.fns[f]).motion != .pressurise then some (s.enterSeat f)
  else some (s.enterStopping f (s.fns[f]).fault)

/-- What a function in PRESSURISE, TRAVEL or CREEP does about its permit and its demand. With `choice.guardFirst` a lost
permit is taken before a lost demand. -/
def State.stopFor (s : State) (f : FnId) (d : Dir) : Option State :=
  if s.choice.guardFirst then (s.permitStop f d).or (s.demandStop f d)
  else (s.demandStop f d).or (s.permitStop f d)

/-- What a function controller does in the present state of its permits and its demand, if it does anything (R87,
R109, R110, R114, R120, R121). -/
def State.react (s : State) (f : FnId) : Option State :=
  match (s.fns[f]).motion, (s.fns[f]).target with
  | .rest, _ =>
      if s.mayLeave f .toOpen then some (s.leaveRest f .toOpen)
      else if s.mayLeave f .toClose then some (s.leaveRest f .toClose)
      else none
  | .awaitFlow, some d =>
      if s.demands f d && ((s.guard.fns[f]).permits d).start then none else some (s.act (State.toIdle .rest f))
  | .pressurise, some d => s.stopFor f d
  | .travel, some d => s.stopFor f d
  | .creep, some d => s.stopFor f d
  | _, _ => none

/-- The element of a list at a place, taken out of it. -/
def pick (i : Nat) (xs : List FnId) : List FnId × List FnId := ((xs[i]?).toList, xs.eraseIdx i)

/-- The order in which the four functions take their notices (assumption 4): the order of number `choice.order`. -/
def Choice.functions (c : Choice) : List FnId :=
  let r1 := pick (c.order.val / 6) slots
  let r2 := pick (c.order.val / 2 % 3) r1.2
  let r3 := pick (c.order.val % 2) r2.2
  r1.1 ++ r2.1 ++ r3.1 ++ r3.2

/-- One round of guard results: each function in turn acts once, and every change is evaluated before the next. A function so
acts on its permits as the evaluation after the one before it left them, not on those that its notice carried when several were
handed out at once: R87 leaves that open, and the model chooses (assumption 50). The flag says whether any function acted. -/
def State.sweep : List FnId → State → State × Bool
  | [], s => (s, false)
  | f :: fs, s =>
      match s.react f with
      | none => State.sweep fs s
      | some s1 => ((State.sweep fs s1.evaluate).1, true)

/-- Rounds until no function acts, or until the bound (assumption 5). -/
def State.settleRounds : Nat → State → State
  | 0, s => s
  | n + 1, s =>
      match State.sweep s.choice.functions s with
      | (s1, true) => State.settleRounds n s1
      | (s1, false) => s1

/-- The guard evaluation of an event and all that follows from its results (R86, R87). The engine evaluates in ACTIVE
only (R88). -/
def State.settle (s : State) : State :=
  if s.isActive then State.settleRounds Config.settleRounds s.evaluate else s

/-! ## The flow arbiter (chapter 10) -/

/-- The claims that the records of the FRESH entries show, by station and slot (R162). -/
def State.shownClaims (s : State) : List Claim :=
  stations.flatMap (fun n => slots.filterMap (fun f =>
    match s.peerFn n f with
    | some r => if 0 < r.units then some { station := n, fn := f, units := r.units, priority := r.priority } else none
    | none => none))

/-- Whether a claim is the one of a station and slot. -/
def Claim.is (c : Claim) (g : StationId × FnId) : Bool := c.station == g.1 && c.fn == g.2

/-- The station and slot of a claim. -/
def Claim.key (c : Claim) : StationId × FnId := (c.station, c.fn)

/-- A new claim's place: after every claim of its priority or a higher one (R163). -/
def insertClaim (c : Claim) : List Claim → List Claim
  | [] => [c]
  | x :: xs => if x.priority < c.priority then c :: x :: xs else x :: insertClaim c xs

/-- Enter the claims that are shown and not held, while there is room (R162). -/
def enterClaims : (shown queue : List Claim) → List Claim
  | [], q => q
  | c :: cs, q =>
      if q.any (fun x => x.is c.key) then enterClaims cs q
      else if q.length < Config.maxClaims then enterClaims cs (insertClaim c q)
      else enterClaims cs q

/-- The align step: claims leave with their grants, and shown claims enter (R162). -/
def Flow.align (shown : List Claim) (x : Flow) : Flow :=
  let stay := x.queue.filter (fun c => shown.contains c)
  { x with queue := enterClaims shown stay, grants := x.grants.filter (fun g => stay.any (fun c => c.is g)) }

/-- The claim of a grant. -/
def claimOf (queue : List Claim) (g : StationId × FnId) : Option Claim := queue.find? (fun c => c.is g)

/-- The units of a grant's claim. -/
def unitsOf (queue : List Claim) (g : StationId × FnId) : Nat :=
  match claimOf queue g with
  | some c => c.units
  | none => 0

/-- The sum of the granted units. -/
def grantedUnits (queue : List Claim) (gs : List (StationId × FnId)) : Nat := (gs.map (unitsOf queue)).sum

/-- The priority of a grant's claim. -/
def priorityOf (queue : List Claim) (g : StationId × FnId) : Nat :=
  match claimOf queue g with
  | some c => c.priority
  | none => 0

/-- The grant to take back: of the lowest priority, and among those the youngest (R165). -/
def victim (queue : List Claim) : List (StationId × FnId) → Option (StationId × FnId)
  | [] => none
  | g :: gs =>
      match victim queue gs with
      | none => some g
      | some v => if priorityOf queue g < priorityOf queue v then some g else some v

/-- The revoke step (R165); as many grants may go as there are. -/
def revoke (queue : List Claim) (capacity : Nat) : (fuel : Nat) → List (StationId × FnId) → List (StationId × FnId)
  | 0, gs => gs
  | n + 1, gs =>
      if grantedUnits queue gs ≤ capacity then gs
      else
        match victim queue gs with
        | none => gs
        | some v => revoke queue capacity n (gs.erase v)

/-- Why a walk of the queue stopped (R166). -/
inductive WalkStop where
  | atEnd
  | forList
  | forCapacity
  deriving DecidableEq, Repr

/-- The walk of the queue that grants waiting claims while they fit (R166). `used` is the sum of the granted units. -/
def grantWalk (capacity : Nat) : (rest : List Claim) → (gs : List (StationId × FnId)) → (used : Nat) →
    List (StationId × FnId) × WalkStop
  | [], gs, _ => (gs, .atEnd)
  | c :: cs, gs, used =>
      if gs.contains c.key then grantWalk capacity cs gs used
      else if Config.maxGrants ≤ gs.length then (gs, .forList)
      else if used + c.units ≤ capacity then grantWalk capacity cs (gs ++ [c.key]) (used + c.units)
      else (gs, .forCapacity)

/-- Whether a machine is in a state. -/
def Flow.anyIn (x : Flow) (st : PumpState) : Bool := x.a.state == st || x.b.state == st

/-- Set one machine. -/
def Flow.setPump (x : Flow) (p : PumpId) (m : Pump) : Flow :=
  match p with
  | .a => { x with a := m }
  | .b => { x with b := m }

/-- The number of machines in RUNNING. -/
def Flow.runningCount (x : Flow) : Nat :=
  (if x.a.state = .running then 1 else 0) + (if x.b.state = .running then 1 else 0)

/-- The capacity: the units per pump for each machine in RUNNING (R160). -/
def Flow.recount (units : Nat) (x : Flow) : Flow := { x with capacity := units * x.runningCount }

/-- The idle timer follows the grant list and the machines (R161). -/
def Flow.followIdle (seconds : Nat) (x : Flow) : Flow :=
  if x.grants.isEmpty && x.anyIn .running then { x with idle := some (x.idle.getD seconds) }
  else { x with idle := none }

/-- The overload input of a pump (section 10.2). -/
def overloadInput : PumpId → InputId
  | .a => 1
  | .b => 3

/-- The running input of a pump (section 10.2). -/
def runningInput : PumpId → InputId
  | .a => 0
  | .b => 2

/-- Whether a machine may be chosen by a start decision: OFF with its overload input accepted INACTIVE (R167). -/
def State.startable (s : State) (p : PumpId) : Bool :=
  (s.flow.pump p).state == .off && (s.field.di[overloadInput p]).accepted == some false

/-- The start step (R167): pump A when it may be started, else pump B. -/
def State.startPump (s : State) (x : Flow) : Flow :=
  if !s.gateOpen || x.anyIn .starting then x
  else if s.startable .a then x.setPump .a { state := .starting, runUp := some s.cfg.own.runUpMs }
  else if s.startable .b then x.setPump .b { state := .starting, runUp := some s.cfg.own.runUpMs }
  else x

/-- The grant computation's four steps and the idle timer after them (R164). -/
def State.computed (s : State) : Flow :=
  let x1 := s.flow.align s.shownClaims
  let x2 := { x1 with grants := revoke x1.queue x1.capacity x1.grants.length x1.grants }
  let x3 :=
    if s.unit.restartHold || s.loop.lone then x2
    else
      let walked := grantWalk x2.capacity x2.queue x2.grants (grantedUnits x2.queue x2.grants)
      let granted := { x2 with grants := walked.1 }
      if walked.2 = .forCapacity then s.startPump granted else granted
  x3.followIdle s.cfg.own.idleStopS

/-- The grant computation of an ACTIVE PUMP station (R164); no other station has one (R156). -/
def State.arbitrate (s : State) : State :=
  if s.isActive && s.role == .pump then s.act (fun t => { t with flow := t.computed }) else s

/-- A machine enters a state, its run-up timer stopped, and the capacity follows (R158, R160). -/
def State.pumpEnters (p : PumpId) (st : PumpState) (s : State) : State :=
  s.act (State.onFlow (fun x => (x.setPump p { state := st, runUp := none }).recount s.cfg.own.unitsPerPump))

/-- The closing of the gate at one machine: STARTING and RUNNING enter OFF (R159). -/
def State.pumpGateStop (p : PumpId) (s : State) : State :=
  if ((s.flow.pump p).state).asks then s.pumpEnters p .off else s

/-- The gate of a PUMP station has opened or closed between `old` and `s`: the machines follow a closing, and the grant
computation runs (R159, R164). -/
def State.gateEdge (old s : State) : State :=
  if s.role = .pump then
    (if old.gateOpen && !s.gateOpen then ((s.pumpGateStop .a).pumpGateStop .b).arbitrate
     else if !old.gateOpen && s.gateOpen then s.arbitrate
     else s)
  else s

/-! ## Trips (sections 9.3, 9.4) -/

/-- What a TRIP of a class does to an originator's entry, and the class that the list gains by it (R151). -/
def tripEntry : (held : Option StopClass) → (arrived : StopClass) → Option StopClass × Option StopClass
  | none, c => (some c, some c)
  | some .cStop, .eStop => (some .eStop, some .eStop)
  | some h, _ => (some h, none)

/-- The effects of an entry gained (R155): an E_STOP closes the gate and stops at once, a C_STOP stops by ramps. -/
def State.tripGained (old : State) (gained : Option StopClass) (s : State) : State :=
  match gained with
  | none => s
  | some .eStop => State.gateEdge old s.stopNow
  | some .cStop => s.eachFn State.halt

/-- A trip of an originator enters the list (R151, R152, R155). -/
def State.enterTrip (n : StationId) (c : StopClass) (s : State) : State :=
  let e := tripEntry (s.unit.trips[n]) c
  State.tripGained s e.2 (s.onUnit (fun u => { u with trips := u.trips.set n e.1 }))

/-- A trip cause of the station's own rises, in ACTIVE (R55, R152): TRIP_ASSERTED is set, the own list takes the class
of the first present cause, and a MOTION station queues that TRIP. -/
def State.raiseCause (s : State) : State :=
  if s.isActive then
    match s.tripCause with
    | none => s
    | some r =>
        ((s.act (State.onUnit (fun u => { u with tripAsserted := true }))).enterTrip s.station r.cls).queueTrip r
  else s

/-- Whether a trip entry may be removed at a check: the reset window runs, and the originator's entry is FRESH with
TRIP_ASSERTED clear (R154). -/
def State.removable (s : State) (n : StationId) : Bool :=
  s.unit.resetWindow.isSome && s.isFresh n &&
  (match (s.entry n).byte with
    | some b => !bit b 6
    | none => false)

/-- The removal check for one originator (R154). -/
def State.removeTrip (n : StationId) (s : State) : State :=
  if s.removable n then s.onUnit (fun u => { u with trips := u.trips.set n none }) else s

/-- The removal check over some originators, and what an opening of the gate by it does (R154, R155). -/
def State.removeTrips (ns : List StationId) (s : State) : State :=
  State.gateEdge s (ns.foldl (fun t n => t.removeTrip n) s)

/-! ## Latched faults (R125) -/

/-- The rank of a latched code (R125). -/
def FaultCode.rank : FaultCode → Nat
  | .transducer => 3
  | .sensorDisagree => 2
  | _ => 1

/-- The code a function shows when a latched fault is detected (R125). -/
def shownFault (held detected : FaultCode) : FaultCode :=
  if held.latched ∧ detected.rank ≤ held.rank then held else detected

/-- A latched fault is detected: the code shown, the state moved by the table of R125, and STALL, SKEW and
WRONG_DIRECTION handed on as a rising trip cause (R119). -/
def State.takeLatched (f : FnId) (code : FaultCode) (s : State) : State :=
  let shown := shownFault (s.fns[f]).fault code
  let s1 := s.act (State.onFn f (fun x => { x with fault := shown }))
  let s2 :=
    match (s.fns[f]).motion with
    | .rest => if s.isActive then s1.act (State.toIdle .heldFault f) else s1
    | .awaitFlow => s1.act (State.toIdle .heldFault f)
    | .pressurise => s1.enterStopping f shown
    | .travel => s1.enterStopping f shown
    | .creep => s1.enterStopping f shown
    | _ => s1
  if code.raisesTrip then s2.raiseCause else s2

/-! ## Positions (R100, R101, R130) -/

/-- The unclamped position of a reading (R130). -/
def unclamped (x : FnSetup) (raw : Reading) : Int :=
  roundHalfAway (((raw.toNat : Int) - (x.c0 : Int)) * 1000) ((x.c1 : Int) - (x.c0 : Int))

/-- The tests of a moving POSITIONED function at a new position: wrong direction, then stall reference and creep zone
(R118, R119). A supervision fault is taken before a passage of the creep zone. -/
def State.supervise (f : FnId) (s : State) : State :=
  let x := s.fns[f]
  if x.motion = .travel ∨ x.motion = .creep then
    match x.target with
    | none => s
    | some d =>
        let away := distance d (s.field.fns[f]).position
        let p := s.profile f
        if x.wrongRef.any (fun r => r + Config.wrongWayLimit < away) then s.takeLatched f .wrongDirection
        else
          let progress := x.stallRef.any (fun r => away + p.stallDelta ≤ r)
          s.act (State.onFn f (fun y => { y with
            stallRef := if progress then some away else y.stallRef
            stall := if progress then some p.stallWindow else y.stall
            motion := if 0 < p.creepZone ∧ away ≤ p.creepZone then .creep else .travel }))
  else s

/-- A conversion of a POSITIONED function's analog input (R100, R101, R129 stage 1). The controller's tests at a new position,
and TRANSDUCER out of band, come before the guard evaluation of the same event (assumption 43). -/
def State.convert (f : FnId) (x : FnSetup) (raw : Reading) (s : State) : State :=
  let p := unclamped x raw
  let s1 := s.onFnField f (fun y => { y with lastRaw := some p })
  if (s.fns[f]).fault = .transducer then s1
  else if !inBand p then
    (s1.act (State.onFnField f (fun y => { y with position := Config.noPosition }))).takeLatched f .transducer
  else if clampPosition p = (s.field.fns[f]).position then s1
  else (s1.act (State.onFnField f (fun y => { y with position := clampPosition p }))).supervise f

/-! ## The ends of a function (R96 to R99) -/

/-- END_LOST of a function in REST at a change of its end state, and its clearing (R99, R124). -/
def Fn.endChanged (old new : EndState) (x : Fn) : Fn :=
  let lost : Option Dir :=
    match old, new with
    | .atOpen, .between => some .toOpen
    | .atClosed, .between => some .toClose
    | _, _ => none
  let back : Bool :=
    match new, x.lostEnd with
    | .atOpen, some .toOpen => true
    | .atClosed, some .toClose => true
    | _, _ => false
  if x.motion = .rest ∧ lost.isSome then
    { x with lostEnd := lost, fault := if x.fault.latched then x.fault else .endLost }
  else if back then { x with lostEnd := none, fault := if x.fault = .endLost then .none else x.fault }
  else x

/-- Derive the end state of a function again (R98, R99). -/
def State.refreshEnd (f : FnId) (s : State) : State :=
  let old := (s.field.fns[f]).endState
  let new := s.endStateNow f
  if new = old then s
  else s.act (fun t => (t.onFnField f (fun y => { y with endState := new })).onFn f (Fn.endChanged old new))

/-- The pair of an end with both sensors after an accepted change that leaves them equal or differing (R96). -/
def EndPair.changed (discrepancy : Nat) (differ : Bool) (p : EndPair) : EndPair :=
  match p.state, differ with
  | .agreed, true => { state := .pending, discrepancy := some discrepancy }
  | .agreed, false => p
  | .pending, true => p
  | .pending, false => { state := .agreed, discrepancy := none }
  | .disagreed, true => p
  | .disagreed, false => { state := .agreed, discrepancy := none }

/-- An accepted change of an input at one end of a function (R96). -/
def State.endInput (i : InputId) (f : FnId) (d : Dir) (s : State) : State :=
  match s.fnSetup f with
  | none => s
  | some x =>
      match x.sensorB d with
      | none => s
      | some b =>
          if x.sensorA d = i ∨ b = i then
            let differ := s.accepted (x.sensorA d) != s.accepted b
            s.onFnField f (fun y =>
              let p := (y.endPair d).changed s.timing.discrepancy differ
              match d with
              | .toOpen => { y with openEnd := p }
              | .toClose => { y with closedEnd := p })
          else s

/-- An accepted change of an input at both ends of a function, and the end state after it (R95, R98). Where one input serves both
ends, R95 gives them no order and R98 derives the end state at each change: the model changes both ends and derives it once, so no
end state between the two shows (assumption 56). -/
def State.endInputs (i : InputId) (f : FnId) (s : State) : State :=
  ((s.endInput i f .toOpen).endInput i f .toClose).refreshEnd f

/-! ## RESET at a function (R126) -/

/-- Whether the cause of a shown latched code is gone (R126). -/
def State.causeGone (s : State) (f : FnId) : Bool :=
  match (s.fns[f]).fault with
  | .sensorDisagree => !s.disagreed f
  | .transducer => !s.outOfBand f
  | _ => true

/-- Take a condition fault again, where its condition holds (R126). -/
def State.retake (f : FnId) (s : State) : State :=
  let s1 :=
    if s.outOfBand f then
      (s.act (State.onFnField f (fun y => { y with position := Config.noPosition }))).takeLatched f .transducer
    else s
  if s1.disagreed f then s1.takeLatched f .sensorDisagree else s1

/-- A RESET arrival at a function that holds a latched code in HELD_FAULT or REST (R126). -/
def State.clearFault (f : FnId) (s : State) : State :=
  let x := s.fns[f]
  if (x.motion = .heldFault ∨ x.motion = .rest) ∧ x.fault.latched ∧ s.causeGone f then
    let cleared := s.act (fun t =>
      (t.onFnField f (fun y => { y with
        position := match x.fault, y.lastRaw with
          | .transducer, some p => clampPosition p
          | _, _ => y.position })).onFn f (fun y => { y with motion := .rest, fault := .none }))
    cleared.retake f
  else s

/-! ## RESET arrivals (R150) -/

/-- A RESET arrival at one pump machine (R158). -/
def State.pumpReset (p : PumpId) (s : State) : State :=
  if (s.flow.pump p).state = .tripped ∧ (s.field.di[overloadInput p]).accepted = some false then
    s.pumpEnters p .off
  else s

/-- RESTART_HOLD cleared, TRIP_ASSERTED tested after the controllers' clearing, in ACTIVE (R150, R153). -/
def State.resetFlags (s : State) : State :=
  if s.isActive then
    let s1 := s.act (State.onUnit (fun u => { u with restartHold := false }))
    if s1.field.stopLoopClosed && s1.field.supplyOk && !s1.anyLatched then
      s1.act (State.onUnit (fun u => { u with tripAsserted := false }))
    else s1
  else s

/-- Whether the arbiter's own events, a change of a machine or of RESTART_HOLD, lie between two states (R164). -/
def arbiterEvent (old new : State) : Bool :=
  new.flow.a.state != old.flow.a.state || new.flow.b.state != old.flow.b.state ||
  new.unit.restartHold != old.unit.restartHold

/-- A RESET arrival (R150). The arbiter computes once, after both machines and RESTART_HOLD (R164, assumption 46). -/
def State.resetArrival (s : State) : State :=
  let s1 := s.eachFn State.clearFault
  let s2 := ((s1.pumpReset .a).pumpReset .b).resetFlags
  let s3 := s2.onUnit (fun u => { u with resetWindow := some s.timing.intentLease })
  let s4 := if arbiterEvent s s3 then s3.arbitrate else s3
  (s4.removeTrips stations).settle

/-! ## Intents (R147, R149) -/

/-- The intent table after one entry is written, and the effective intent it gives (R149). -/
def State.writeIntent (n : StationId) (e : Option IntentEntry) (s : State) : State :=
  s.onUnit (fun u =>
    let u1 := { u with table := u.table.set n e }
    { u1 with effective := effectiveOf u1.kinds })

/-- The kinds that a role allows (R147). -/
def Role.allows : Role → IntentKind → Bool
  | .panelCommand, _ => true
  | .panelStop, .release => true
  | .panelStop, .stop => true
  | .panelStop, .reset => true
  | _, _ => false

/-- The kind that enters the table: OPEN and SINGLE of a panel that reports the ship underway become STOP (R147). -/
def IntentFrame.entered (i : IntentFrame) : IntentKind :=
  match i.underway, i.kind with
  | true, .toOpen => .stop
  | true, .single _ _ _ => .stop
  | _, k => k

/-- An INTENT of a station is judged and taken (R146, R147). -/
def State.takeIntent (n : StationId) (i : IntentFrame) (s : State) : State :=
  let e := s.entry n
  match e.role with
  | none => s
  | some r =>
      if e.state = .fresh ∧ r.allows i.kind then
        match i.entered with
        | .release => (s.writeIntent n none).settle
        | .reset => s.resetArrival
        | k => (s.writeIntent n (some { kind := k, lease := some s.timing.intentLease })).settle
      else s

/-! ## Notices of the image (section 4.5) -/

/-- The release test of a function in REST or HELD_FAULT at a change notice for the pump station (R111). -/
def State.releaseAt (f : FnId) (s : State) : State :=
  if (s.fns[f]).motion = .rest ∨ (s.fns[f]).motion = .heldFault then
    if s.holdsGrant f then s.onFn f (fun x => { x with released := false })
    else if s.grantGone f then s.onFn f (fun x => { x with released := true })
    else s
  else s

/-- A change notice for the pump station at one function that has left REST (R113, R120). -/
def State.pumpNoticeAt (f : FnId) (s : State) : State :=
  match (s.fns[f]).motion with
  | .awaitFlow => if s.holdsGrant f then s.enterPressurise f else s
  | .pressurise => if s.holdsGrant f then s else s.enterStopping f .grantLost
  | .travel => if s.holdsGrant f then s else s.enterStopping f .grantLost
  | .creep => if s.holdsGrant f then s else s.enterStopping f .grantLost
  | _ => s

/-- Whether a station is the one whose grant list this station's functions read (R71). -/
def State.isPumpOf (s : State) (n : StationId) : Bool := s.role == .motion && n == s.cfg.own.pumpStation

/-- The release tests of a MOTION station at a change notice of its pump station. They come before everything else that
the notice causes, so that no function leaves REST at an event at which the list already holds it (R111, R113). -/
def State.releaseNotice (n : StationId) (s : State) : State := if s.isPumpOf n then s.eachFn State.releaseAt else s

/-- The functions of a MOTION station take a change notice of their pump station (R71). Every function takes it before the guards
are evaluated over what the first ones did: R87 leaves that order open, and the model chooses (assumption 55). -/
def State.pumpNotice (n : StationId) (s : State) : State :=
  if s.isPumpOf n then s.choice.functions.foldl (fun t f => t.pumpNoticeAt f) s else s

/-- The arbiter takes a change notice of a MOTION station (R72, R164). -/
def State.claimNotice (n : StationId) (s : State) : State :=
  if (s.cfg.briefs[n]).role = .motion then s.arbitrate else s

/-- A change notice, and a restart notice with it, for a station whose entry is whole (R69 to R72). The guard engine
and the controllers take it in the order `choice.guardFirst` gives (assumption 4). -/
def State.changeNotice (n : StationId) (s : State) : State :=
  let s1 := s.releaseNotice n
  let s2 := if s1.choice.guardFirst then s1.settle else s1
  ((s2.pumpNotice n).claimNotice n).settle

/-- LONE has changed (R36): the controllers, the arbiter and the guard engine take it. No guard evaluation comes between two
controllers (assumption 55). -/
def State.loneChanged (s : State) : State :=
  let s1 := if s.choice.guardFirst then s.settle else s
  let s2 := if s1.loop.lone then s1.eachFn State.halt else s1
  s2.arbitrate.settle

/-! ## Pulse generation (R137) -/

/-- The high time of a level for a PWM period, both in µs (R137). -/
def highTime (pwm level : Nat) : Nat :=
  let h := roundHalfUp (level * pwm) 1000
  if 0 < h ∧ h < Config.minHighUs then Config.minHighUs else h

/-- A new pulse period at a level above 0. -/
def PulseGen.start (pwm level : Nat) : PulseGen :=
  .running (highTime pwm level) (pwm - highTime pwm level) true level

/-- The generator takes a level (R137): a rise from 0 starts a period at once, a fall to 0 ends it at once, and any
other level waits for the next period. -/
def PulseGen.hand (pwm level : Nat) (g : PulseGen) : PulseGen :=
  if level = 0 then .off
  else
    match g with
    | .off => PulseGen.start pwm level
    | .running h l inHigh _ => .running h l inHigh level

/-- The high time or the low time has run out (R137). A level of 1000 runs as periods with a low time of 0, at whose ends the level
last handed is taken: R137 gives that level no period, and the model chooses (assumption 53). -/
def PulseGen.expire (pwm : Nat) (g : PulseGen) : PulseGen :=
  match g with
  | .off => .off
  | .running h l true lv => if l = 0 then PulseGen.start pwm lv else .running h l false lv
  | .running _ _ false lv => PulseGen.start pwm lv

/-! ## Sends (chapter 2) -/

/-- One nominal bit time of the station. -/
def State.bt (s : State) : Nat := bitTicks s.bitRate

/-- The states in which the receive path follows frames and a line state is kept (R18, R37). -/
def State.follows (s : State) : Bool := s.running || s.life == .configFault

/-- The states in which a station may send (R37). -/
def State.maySend (s : State) : Bool := s.life == .configFault || s.life == .joining || s.isActive

/-- Whether some slot is WAITING. -/
def Loop.anyWaiting (x : Loop) : Bool :=
  x.trip.isWaiting || x.intent.isWaiting || x.status.isWaiting || x.announce.isWaiting

/-- Make the WAITING slot of the lowest kind IN_FLIGHT, with a start mark of a length (R28, R30). The content of a
TRIP or INTENT is the slot's; the rest is taken when the ID cell begins (R31). -/
def Loop.start (markTicks : Nat) (x : Loop) : Loop :=
  let begun := fun (k : FrameKind) (data : List Byte) =>
    some { kind := k, markTicks := markTicks, idBegun := false, edition := 0, data := data, bytes := [] : Send }
  match x.trip, x.intent, x.status, x.announce with
  | .waiting c, _, _, _ => { x with trip := .inFlight c none, send := begun .trip c.encode }
  | _, .waiting c, _, _ => { x with intent := .inFlight c none, send := begun .intent c.encode }
  | _, _, .waiting c, _ => { x with status := .inFlight c none, send := begun .status [] }
  | _, _, _, .waiting c => { x with announce := .inFlight c none, send := begun .announce [] }
  | _, _, _, _ => x

/-- The slot of the frame in flight goes back to WAITING and the sender drives no more (R32, R33). -/
def Loop.giveBack (x : Loop) : Loop :=
  { x with trip := x.trip.returned, intent := x.intent.returned, status := x.status.returned,
           announce := x.announce.returned, send := none }

/-- A STATUS that had begun its ID cell ends in a loss or an abort: the inhibit ends and the deferred flag is cleared
without a request (R49). -/
def State.statusLost (s : State) : State :=
  match s.loop.send with
  | some m =>
      if m.kind = .status ∧ m.idBegun then s.onPub (fun p => { p with inhibit := false, deferred := false }) else s
  | none => s

/-! ## The life cycle (chapter 1) -/

/-- Entry to WITHDRAWN at one function (R15, R127). -/
def State.withdrawFn (f : FnId) (s : State) : State :=
  if (s.fns[f]).motion = .heldFault then s.onFn f (fun x => { x with motion := .rest }) else s.immediateStop f

/-- Entry to WITHDRAWN (R15, R36, R52, R56, R88, R142, R145, R156). The term values stay as last computed (assumption 41). -/
def State.enterWithdrawn (s : State) : State :=
  let s1 := { s with life := .withdrawn, joinWindow := none, goodFrames := 0 }
  let s2 := s1.eachFn State.withdrawFn
  { s2 with
    drive := Vector.replicate 4 Drive.off
    loop := { s2.loop with trip := .empty, intent := .empty, status := .empty, announce := .empty, send := none,
                           wait := false, lone := false }
    pub := { s2.pub with refresh := none, inhibitTimer := none, deferred := false, inhibit := false }
    guard := s2.guard.cleared
    panel := { Panel.atReset with selection := s2.panel.selection }
    unit := { s2.unit with tripRepeat := none }
    flow := Flow.atReset }

/-- Entry to JOINING, from LOADING or from WITHDRAWN (R13, R52, R54). -/
def State.enterJoining (s : State) : State :=
  let s1 := { s with
    life := .joining, joinWindow := none, goodFrames := 0
    loop := { s.loop with line := some .busy, idleRule := .join, follow := .nothing, aborts := 0, unheard := 0 }
    pub := { s.pub with lastSent := none, refresh := none, inhibitTimer := none, deferred := false, inhibit := false } }
  s1.queueAnnounce true

/-- Entry to CONFIG_FAULT with a load fault (R11, R12). The ANNOUNCE is queued when the line first becomes IDLE. -/
def State.enterConfigFault (r : FaultReport) (s : State) : State :=
  { s with life := .configFault, report := r, header := none,
           loop := { s.loop with line := some .busy, idleRule := .join, follow := .nothing } }

/-- A button's armed flag at the entry to ACTIVE: set where the button is accepted INACTIVE (R142). A button that no
input stands for is never active and stays unarmed. -/
def State.armedAtEntry (s : State) : Option InputId → Bool
  | some i => !s.accepted i
  | none => false

/-- The function slots at the entry to ACTIVE: a latched code in REST goes to HELD_FAULT (R125, R127). -/
def State.holdLatched (f : FnId) (s : State) : State :=
  if (s.fns[f]).motion = .rest ∧ (s.fns[f]).fault.latched then s.act (State.toIdle .heldFault f) else s

/-- How many of the station's own trip causes are present: each rises at the entry to ACTIVE (R14, R55). -/
def State.presentCauses (s : State) : Nat :=
  (if s.field.stopLoopClosed then 0 else 1) + (if s.field.supplyOk then 0 else 1) +
    (slots.filter (fun f => (s.fns[f]).fault.raisesTrip)).length

/-- A number of risings in turn. -/
def State.raiseCauses : Nat → State → State
  | 0, s => s
  | n + 1, s => State.raiseCauses n s.raiseCause

/-- The TRIP queued at the entry to ACTIVE with TRIP_ASSERTED already set (R56). -/
def State.requeueTrip (s : State) : State :=
  match s.tripCause.or s.unit.lastTrip with
  | some r => s.queueTrip r
  | none => s

/-- Entry to ACTIVE (R14): RESTART_HOLD set, LONE clear, the own entry FRESH, STATUS queued, the buttons armed, trip
causes that are present rise, the flash timer starts in its lit half, and everything is evaluated. -/
def State.enterActive (s : State) : State :=
  let p := s.cfg.own.panel
  let s1 := { s with
    life := .active, joinWindow := none
    loop := { s.loop with lone := false }
    unit := { s.unit with restartHold := true }
    guard := { s.guard with flash := some .lit }
    panel := { s.panel with
      armOpen := s.armedAtEntry p.openB, armClose := s.armedAtEntry p.closeB, armStop := s.armedAtEntry p.stop,
      armReset := s.armedAtEntry p.reset, armJogOpen := s.armedAtEntry p.jogOpen,
      armJogClose := s.armedAtEntry p.jogClose, held := none } }
  let s2 := s1.statusCause.eachFn State.holdLatched
  let s3 := if s.unit.tripAsserted then s2.requeueTrip else s2
  ((State.raiseCauses s3.presentCauses s3).arbitrate).settle

/-- The line becomes STUCK (R19): no run and no frame is followed. A run of that length is no start mark, so a wait of R29
stays in force (assumption 13). -/
def State.stick (s : State) : State :=
  s.onLoop (fun x => { x with line := some .stuck, follow := .nothing, heardSlot := none })

/-- An abort of the send in flight (R33, R35): in JOINING and ACTIVE the eighth withdraws the station. -/
def State.abort (s : State) : State :=
  let s1 := s.statusLost.onLoop (fun x => { x.giveBack with aborts := min (x.aborts + 1) Config.abortLimit })
  if s1.loop.aborts = Config.abortLimit ∧ (s1.life = .joining ∨ s1.life = .active) then s1.enterWithdrawn else s1

/-- The end of the followed good frame of a wave: the line is IDLE after the end gap, no wait remains, and in JOINING and
ACTIVE the station has driven the frame's heard slot (R18, R26, R29). -/
def State.frameEnd (w : Wave) (s : State) : State :=
  s.onLoop (fun x => { x with
    line := some .busy, idleRule := if x.idleRule = .join then .join else .endGap, follow := .nothing, wait := false,
    heardSlot := if s.life = .joining ∨ s.life = .active then heardAt s.bitRate w else none })

/-- A good frame counts toward the sixteen that end WITHDRAWN (R16). -/
def State.countGood (s : State) : State :=
  if s.life = .withdrawn then
    (if s.goodFrames + 1 < Config.rejoinFrames then { s with goodFrames := s.goodFrames + 1 } else s.enterJoining)
  else s

/-- The good frame that a wave brings to a station which follows frames and sends none itself (R25). -/
def State.hears (s : State) (w : Wave) : Option Frame :=
  if s.follows && s.loop.send.isNone then
    match receive s.bitRate w with
    | .good f _ => some f
    | _ => none
  else none

/-- A good frame of a kind from another station: its end on the line, its delivery in JOINING, ACTIVE and WITHDRAWN,
and its count (R16, R25, R26). -/
def State.arrival (kind : FrameKind) (deliver : Frame → State → State) (w : Wave) (s : State) : State :=
  match s.hears w with
  | none => s
  | some f =>
      if f.kind = kind.code ∧ f.station ≠ s.station then
        (if s.running then (deliver f (s.frameEnd w)).countGood else s.frameEnd w)
      else s

/-- The end of every event: the dump valve is as its rule computes it (R140). -/
def State.finish (s : State) : State := { s with dump := s.dumpNow }

/-- The outcome of an event: every command has a next state. -/
def done (s : State) : Host.Outcome State Fault Refusal := .next s.finish

end Sys2Proof.Machine
end

