-- ==== Sys2Proof/Machine/Arrivals.lean ====
section
/-! DEFINITION. The arrivals of the four frame kinds (R25): STATUS and ANNOUNCE at the peer image (chapter 4), INTENT and
TRIP at the intent and trip unit (chapter 9). -/

namespace Sys2Proof.Machine

/-- The STATUS arrival notice to the intent and trip unit (R73, R154). -/
def State.statusNotice (n : StationId) (s : State) : State := (s.removeTrips [n]).settle

/-- An entry that has absorbed a STATUS: FRESH, with its content, its age timer started (R59, R62). -/
def Entry.absorb (stale : Nat) (b : Byte) (r : Option Record) (e : Entry) : Entry :=
  { e with state := .fresh, age := some stale, byte := some b, record := r }

/-- A STATUS arrival at an entry (R61 to R64). The record is kept for a subscribed sender only (R59). Where it causes a change
notice, that notice and all it brings come before the STATUS arrival notice (assumption 38). -/
def State.takeStatus (n : StationId) (b : Byte) (r : Record) (s : State) : State :=
  let e := s.image[n]
  let kept := if s.cfg.subscription.contains n then some r else none
  let unverified := fun (t : State) =>
    (t.onEntry n (fun e => { e with state := .unverified, age := some s.timing.stale })).queueAnnounce true
  let absorbed := s.onEntry n (Entry.absorb s.timing.stale b kept)
  match e.state with
  | .absent => unverified s
  | .unverified => unverified s
  | .known => (absorbed.changeNotice n).statusNotice n
  | .stale => (absorbed.changeNotice n).statusNotice n
  | .fresh =>
      if e.byte = some b ∧ e.record = kept then absorbed.statusNotice n
      else (absorbed.changeNotice n).statusNotice n
  | .foreign => s

/-- A delivered STATUS: discarded where it is not well-formed (R39) or does not fit its sender's section role (R60). -/
def State.statusDelivered (f : Frame) (s : State) : State :=
  match decodeStatus f.data with
  | some (b, r) => if r.fits (s.cfg.briefs[f.station]).role then s.takeStatus f.station b r else s
  | none => s

/-- STATUS_ARRIVAL (R63). -/
def execStatusArrival (w : Wave) (s : State) : Host.Outcome State Fault Refusal :=
  done (s.arrival .status State.statusDelivered w)

/-- Whether an ANNOUNCE of a station is refused (R65). -/
def State.refuses (s : State) (n : StationId) (a : AnnounceFrame) : Bool :=
  a.configFault || a.fingerprint != s.cfg.fingerprint || a.role != (s.cfg.briefs[n]).role

/-- The entry after an ANNOUNCE arrival (R65). Its role is the frame's, also where the frame is refused, as R65 says; R57 names
only accepted ones (assumption 40). -/
def Entry.announced (refused : Bool) (r : Role) : Entry :=
  { state := if refused then .foreign else .known, role := some r,
    fpMatch := if refused then .refused else .matched, age := none, byte := none, record := none }

/-- An ANNOUNCE arrival at an entry (R54, R65, R66): the answer to an ASK, but to none with CONFIG_FAULT set (R54; R65 says
otherwise, assumption 39), and a change notice where the state changes. -/
def State.takeAnnounce (n : StationId) (a : AnnounceFrame) (s : State) : State :=
  let e := Entry.announced (s.refuses n a) a.role
  let s1 := s.onEntry n (fun _ => e)
  let s2 := if a.ask && !a.configFault then s1.queueAnnounce false else s1
  if e.state = (s.image[n]).state then s2 else s2.changeNotice n

/-- A delivered ANNOUNCE, discarded where it is not well-formed (R39). Its edition is not looked at (assumption 36). -/
def State.announceDelivered (f : Frame) (s : State) : State :=
  match decodeAnnounce f.data with
  | some a => s.takeAnnounce f.station a
  | none => s

/-- ANNOUNCE_ARRIVAL (R65). -/
def execAnnounceArrival (w : Wave) (s : State) : Host.Outcome State Fault Refusal :=
  done (s.arrival .announce State.announceDelivered w)

/-- A delivered INTENT (R39, R147). Its edition is not looked at (assumption 36). -/
def State.intentDelivered (f : Frame) (s : State) : State :=
  match decodeIntent f.data with
  | some i => s.takeIntent f.station i
  | none => s

/-- INTENT_ARRIVAL (R147). -/
def execIntentArrival (w : Wave) (s : State) : Host.Outcome State Fault Refusal :=
  done (s.arrival .intent State.intentDelivered w)

/-- A delivered TRIP (R39, R151), taken whatever the sender's entry. Its edition is not looked at (assumption 36). -/
def State.tripDelivered (f : Frame) (s : State) : State :=
  match decodeTrip f.data with
  | some r => (s.enterTrip f.station r.cls).settle
  | none => s

/-- TRIP_ARRIVAL (R151). -/
def execTripArrival (w : Wave) (s : State) : Host.Outcome State Fault Refusal :=
  done (s.arrival .trip State.tripDelivered w)

end Sys2Proof.Machine
end

