-- ==== Sys2Proof/Machine/Control.lean ====
section
/-! DEFINITION. The valve drive's commands (chapter 8): the control period, the pressure conversion, and the timers of
peak-and-hold and of the pulse generators. -/

namespace Sys2Proof.Machine

/-- The base level at a distance (R132). -/
def baseLevel (p : Profile) (d : Nat) : Nat :=
  if p.creepZone = 0 ∨ p.creepZone < d then p.travelLevel
  else p.creepLevel + (p.travelLevel - p.creepLevel) * d / p.creepZone

/-- How far a function at `p` leads a peer at `q` in a direction; 0 where it does not lead (R133). -/
def lead (d : Dir) (p q : Nat) : Nat :=
  match d with
  | .toOpen => p - q
  | .toClose => q - p

/-- The level after skew correction, never below 0 (R133). -/
def skewed (prof : Profile) (base s : Nat) : Nat :=
  if prof.skewDeadband < s then base - prof.skewGain * (s - prof.skewDeadband) / 16 else base

/-- One step of a ramp toward a target at a rate (R135). -/
def rampStep (rate target lo : Nat) : Nat :=
  if lo < target then lo + min rate (target - lo) else lo - min rate (lo - target)

/-- The level Lk toward which a function in TRAVEL or CREEP ramps (R131 to R133). -/
def State.correctedLevel (s : State) (f : FnId) (d : Dir) : Nat :=
  let pos := (s.field.fns[f]).position
  let base := baseLevel (s.profile f) (distance d pos)
  match s.peerPosition f with
  | some q => skewed (s.profile f) base (lead d pos q)
  | none => base

/-- The skew trip test (R134): in TRAVEL and CREEP, with a peer position that is valid. -/
def State.skewTrips (s : State) (f : FnId) : Bool :=
  ((s.fns[f]).motion == .travel || (s.fns[f]).motion == .creep) &&
  (match s.peerPosition f with
    | some q => (s.profile f).skewTrip < apart (s.field.fns[f]).position q
    | none => false)

/-- The level that the ramp stage leaves, in the motion state of that moment (R129 stages 2 and 3, R135, R136). -/
def State.nextLevel (s : State) (f : FnId) : Nat :=
  let p := s.profile f
  let lo := (s.drive[f]).level
  match (s.fns[f]).motion, (s.fns[f]).target with
  | .travel, some d => rampStep p.ramp (s.correctedLevel f d) lo
  | .creep, some d => rampStep p.ramp (s.correctedLevel f d) lo
  | .seat, some _ => rampStep p.ramp p.creepLevel lo
  | .stopping, some _ => rampStep p.stopRamp 0 lo
  | _, _ => 0

/-- Stages 2 to 5 of a control period (R129): skew trip, ramp, output, and the report of a level at 0 in STOPPING. They run
in PRESSURISE to STOPPING only. -/
def State.driveStages (f : FnId) (s : State) : State :=
  let s1 := if s.skewTrips f then s.takeLatched f .skew else s
  if (s1.fns[f]).motion.moving then
    let lo := s1.nextLevel f
    let s2 := s1.onDrive f (fun x => { x with level := lo, prop := x.prop.hand s.timing.pwm lo })
    if (s1.fns[f]).motion = .stopping ∧ lo = 0 then s2.endStopping f else s2
  else s1

/-- CONTROL_PERIOD (R129): the position stage and what it causes, the controller's tests before the guards (assumption 43), then
the stages that follow in the state that results. -/
def execControlPeriod (f : FnId) (raw : Reading) (s : State) : Host.Outcome State Fault Refusal :=
  match s.fnSetup f with
  | some x =>
      if s.running ∧ x.kind = .positioned then
        let s1 := s.onField (fun y => { y with lines := lineReading y.lines f raw })
        done ((((s1.convert f x raw).settle).driveStages f).settle)
      else done s
  | none => done s

/-- The pressure of a reading, in bar (R102). -/
def bar (raw : Reading) : Nat := raw.toNat * 400 / 4095

/-- A pressure reading at a function in PRESSURISE (R116). -/
def State.takePressure (p : Nat) (f : FnId) (s : State) : State :=
  if (s.fns[f]).motion = .pressurise ∧ (s.profile f).pressureThreshold ≤ p then s.enterTravel f else s

/-- Whether any function is in PRESSURISE, which is when AP is converted (R102). -/
def State.anyPressurise (s : State) : Bool := slots.any (fun f => (s.fns[f]).motion == .pressurise)

/-- PRESSURE_CONVERSION (R102, R116): every function in PRESSURISE takes the reading before the guards are evaluated over what the
first ones did (assumption 55). -/
def execPressureConversion (raw : Reading) (s : State) : Host.Outcome State Fault Refusal :=
  if s.anyPressurise then
    let s1 := s.onField (fun x => { x with pressure := some (bar raw) })
    done ((s1.eachFn (State.takePressure (bar raw))).settle)
  else done s

/-- PULL_IN_EXPIRY (R138): the phase becomes HOLD and the solenoid generator starts a period at the hold duty. -/
def execPullInExpiry (f : FnId) (s : State) : Host.Outcome State Fault Refusal :=
  if (s.drive[f]).pullIn.isSome then
    done (s.onDrive f (fun x => { x with
      phase := .hold, pullIn := none, sol := PulseGen.start s.timing.pwm (s.profile f).holdDuty }))
  else done s

/-- PULSE_TIME_EXPIRY (R137): the output toggles, and a new period takes the level last handed. -/
def execPulseTimeExpiry (g : Generator) (s : State) : Host.Outcome State Fault Refusal :=
  match g with
  | .proportional f => done (s.onDrive f (fun x => { x with prop := x.prop.expire s.timing.pwm }))
  | .solenoid f => done (s.onDrive f (fun x => { x with sol := x.sol.expire s.timing.pwm }))

end Sys2Proof.Machine
end

