-- ==== Sys2Proof/Machine/Inputs.lean ====
section
/-! DEFINITION. The commands of the field inputs (chapter 6): discrete inputs, sensor pairs, the stop loop and the field
supply monitor; and what an accepted change does at a panel (section 9.1) and at a pump machine (section 10.2). -/

namespace Sys2Proof.Machine

/-! ## Discrete inputs -/

/-- The debounce of an input whose level has just changed (R93): started or restarted while it differs from the accepted
level, stopped when it equals it. -/
def State.followInput (i : InputId) (s : State) : State :=
  s.onField (fun x => { x with di := x.di.set i { x.di[i] with
    debounce := if (x.di[i]).accepted = some (s.inputLevel i) then none else some s.timing.debounce } })

/-- INPUT_LEVEL_CHANGE (R93): the line takes a level; an input with a use follows it in JOINING, ACTIVE and WITHDRAWN. -/
def execInputLevelChange (i : InputId) (high : Bool) (s : State) : Host.Outcome State Fault Refusal :=
  let s1 := s.onField (fun x => { x with lines := lineInput x.lines i high })
  if s.running ∧ s.used i ∧ s.field.lines.di[i] ≠ high then done (s1.followInput i) else done s1

/-- The accepted level of an input takes the input level (R93): an own status change where a panel flag follows it. -/
def State.acceptLevel (i : InputId) (s : State) : State :=
  s.act (State.onField (fun x => { x with
    di := x.di.set i { accepted := some (s.inputLevel i), debounce := none } }))

/-- The armed flag of a button at an accepted change of an input (R142): an accepted change to INACTIVE sets it. -/
def rearm (i : InputId) (active armed : Bool) (e : Option InputId) : Bool :=
  armed || (e == some i && !active)

/-- The armed flags at an accepted change (R142). -/
def State.rearmed (i : InputId) (s : State) : State :=
  let p := s.cfg.own.panel
  let r := rearm i (s.accepted i)
  s.onPanel (fun x => { x with
    armOpen := r x.armOpen p.openB, armClose := r x.armClose p.closeB, armStop := r x.armStop p.stop,
    armReset := r x.armReset p.reset, armJogOpen := r x.armJogOpen p.jogOpen,
    armJogClose := r x.armJogClose p.jogClose })

/-- The selection as the SELECT inputs now give it (R143). -/
def State.select (s : State) : State :=
  s.act (State.onPanel (fun x => { x with selection := s.selectionNow }))

/-- The held intent formed again, and the INTENT or RELEASE that its change queues (R144, R145). -/
def State.formHeld (s : State) : State :=
  let k := s.heldNow
  if k = s.panel.held then s
  else (s.onPanel (fun x => { x with held := k })).queueIntent (k.getD .release)

/-- A press of RESET: an accepted change to ACTIVE of the armed button, in ACTIVE (R142, R145). -/
def State.pressReset (i : InputId) (s : State) : State :=
  if s.isActive ∧ s.cfg.own.panel.reset = some i ∧ s.accepted i ∧ s.panel.armReset then s.queueIntent .reset else s

/-- An accepted change at a panel (R95, R142 to R145). Where one input serves a SELECT entry and a button, the selection is
formed before the held intent (assumption 44). -/
def State.panelInput (i : InputId) (s : State) : State :=
  if s.isPanel then (((s.rearmed i).select).pressReset i).formHeld else s

/-- An accepted change at one pump machine (R157, R158): an overload accepted ACTIVE, or a running input accepted
INACTIVE in RUNNING, makes it TRIPPED. -/
def State.pumpInputAt (i : InputId) (p : PumpId) (s : State) : State :=
  let m := (s.flow.pump p).state
  if (i = overloadInput p ∧ s.accepted i = true ∧ m.asks = true) ∨
     (i = runningInput p ∧ s.accepted i = false ∧ m = .running) then s.pumpEnters p .tripped
  else s

/-- An accepted change at a PUMP station's machines, and the grant computation where one of them moved (R95, R164). -/
def State.pumpInput (i : InputId) (s : State) : State :=
  if s.isActive ∧ s.role = .pump then
    let s1 := (s.pumpInputAt i .a).pumpInputAt i .b
    if arbiterEvent s s1 then s1.arbitrate else s1
  else s

/-- An accepted change of an input, handed to every user of it (R95). R95 and R86 give the users no order: the model takes the
sensor pairs first, then the pump machines, the panel and the guard engine, whatever the field `choice` holds (assumption 51). -/
def State.acceptedChange (i : InputId) (s : State) : State :=
  ((((s.acceptLevel i).eachFn (State.endInputs i)).pumpInput i).panelInput i).settle

/-- DEBOUNCE_EXPIRY (R93): the accepted level takes the input level. -/
def execDebounceExpiry (i : InputId) (s : State) : Host.Outcome State Fault Refusal :=
  if s.running ∧ s.used i ∧ (s.field.di[i]).debounce.isSome then done (s.acceptedChange i) else done s

/-! ## Sensor pairs -/

/-- One end of a function, changed. -/
def FnField.setEnd (d : Dir) (p : EndPair) (x : FnField) : FnField :=
  match d with
  | .toOpen => { x with openEnd := p }
  | .toClose => { x with closedEnd := p }

/-- DISCREPANCY_EXPIRY (R97): the end is DISAGREED, the end state follows, and the function takes SENSOR_DISAGREE. The controller
takes the fault before the guards are evaluated over the new end state: no rule orders the two, and the model chooses (assumption
54). -/
def execDiscrepancyExpiry (f : FnId) (e : Dir) (s : State) : Host.Outcome State Fault Refusal :=
  let p := (s.field.fns[f]).endPair e
  if s.running ∧ (s.fnSetup f).isSome ∧ p.state = .pending ∧ p.discrepancy.isSome then
    done ((((s.onFnField f (FnField.setEnd e { state := .disagreed, discrepancy := none })).refreshEnd f).takeLatched f
      .sensorDisagree).settle)
  else done s

/-! ## Stop loop -/

/-- A station-wide stop in ACTIVE (R104, R107): outputs off and functions to REST, the gate's closing, and the rising trip
cause. `old` is the station before the condition changed. -/
def State.stationStop (old s : State) : State :=
  if s.isActive then ((State.gateEdge old s.stopNow).raiseCause).settle else s

/-- STOP_LOOP_OPENING (R103, R104): accepted without debounce; its stop effects belong to ACTIVE. -/
def execStopLoopOpening (s : State) : Host.Outcome State Fault Refusal :=
  let s1 := s.onField (fun x => { x with lines := { x.lines with stopLoopClosed := false } })
  if s.running then
    if s.field.stopLoopClosed then
      done (State.stationStop s (s1.act (State.onField (fun x => { x with stopLoopClosed := false, closing := none }))))
    else done (s1.onField (fun x => { x with closing := none }))
  else done s1

/-- STOP_LOOP_READS_CLOSED (R103): in state OPEN the closing timer starts. -/
def execStopLoopReadsClosed (s : State) : Host.Outcome State Fault Refusal :=
  let s1 := s.onField (fun x => { x with lines := { x.lines with stopLoopClosed := true } })
  if s.running ∧ s.field.stopLoopClosed = false ∧ s.field.lines.stopLoopClosed = false then
    done (s1.onField (fun x => { x with closing := some s.timing.debounce }))
  else done s1

/-- STOP_LOOP_CLOSING_EXPIRY (R103, R105, R159): the state becomes CLOSED, and the gate may open. -/
def execStopLoopClosingExpiry (s : State) : Host.Outcome State Fault Refusal :=
  if s.running ∧ s.field.closing.isSome then
    done ((State.gateEdge s (s.act (State.onField (fun x => { x with stopLoopClosed := true, closing := none })))).settle)
  else done s

/-! ## Field supply -/

/-- The supply's band on the field lines. -/
def State.supplyBand (b : SupplyBand) (s : State) : State :=
  s.onField (fun x => { x with lines := { x.lines with supply := b } })

/-- SUPPLY_FALLS_BELOW_19V (R106): in OK the low timer starts; in LOW a recovery timer that runs stops, for the voltage is
below 20.0 V too. -/
def execSupplyFallsBelow19V (s : State) : Host.Outcome State Fault Refusal :=
  let s1 := s.supplyBand .below19
  if s.running ∧ s.field.lines.supply ≠ .below19 then
    if s.field.supplyOk then done (s1.onField (fun x => { x with lowTimer := some Config.lowMs }))
    else done (s1.onField (fun x => { x with recovery := none }))
  else done s1

/-- SUPPLY_BACK_AT_19V (R106): a low timer that runs stops. -/
def execSupplyBackAt19V (s : State) : Host.Outcome State Fault Refusal :=
  if s.field.lines.supply = .below19 then
    let s1 := s.supplyBand .from19to20
    if s.running ∧ s.field.supplyOk then done (s1.onField (fun x => { x with lowTimer := none })) else done s1
  else done s

/-- SUPPLY_RISES_TO_20V (R106): in LOW the recovery timer starts; in OK a low timer that runs stops, for the voltage is
above 19.0 V too. -/
def execSupplyRisesTo20V (s : State) : Host.Outcome State Fault Refusal :=
  let s1 := s.supplyBand .from20
  if s.running ∧ s.field.lines.supply ≠ .from20 then
    if s.field.supplyOk then done (s1.onField (fun x => { x with lowTimer := none }))
    else done (s1.onField (fun x => { x with recovery := some Config.recoveryMs }))
  else done s1

/-- SUPPLY_FALLS_BELOW_20V (R106): a recovery timer that runs stops. -/
def execSupplyFallsBelow20V (s : State) : Host.Outcome State Fault Refusal :=
  if s.field.lines.supply = .from20 then
    let s1 := s.supplyBand .from19to20
    if s.running ∧ s.field.supplyOk = false then done (s1.onField (fun x => { x with recovery := none })) else done s1
  else done s

/-- LOW_TIMER_EXPIRY (R106, R107): the monitor is LOW; its stop effects belong to ACTIVE. -/
def execLowTimerExpiry (s : State) : Host.Outcome State Fault Refusal :=
  if s.running ∧ s.field.lowTimer.isSome then
    done (State.stationStop s (s.act (State.onField (fun x => { x with supplyOk := false, lowTimer := none }))))
  else done s

/-- RECOVERY_TIMER_EXPIRY (R106, R107, R159): the monitor is OK, and the gate may open. -/
def execRecoveryTimerExpiry (s : State) : Host.Outcome State Fault Refusal :=
  if s.running ∧ s.field.recovery.isSome then
    done ((State.gateEdge s (s.act (State.onField (fun x => { x with supplyOk := true, recovery := none })))).settle)
  else done s

end Sys2Proof.Machine
end

