-- ==== Sys2Proof/Machine/Intents.lean ====
section
/-! DEFINITION. The timer commands of a panel and of the intent and trip unit (chapter 9). -/

namespace Sys2Proof.Machine

/-- INTENT_REFRESH_EXPIRY (R145): the held intent is queued again where it is still what that send carried. -/
def execIntentRefreshExpiry (s : State) : Host.Outcome State Fault Refusal :=
  if s.panel.refresh.isSome then
    let s1 := s.onPanel (fun p => { p with refresh := none, refreshKind := none })
    match s.panel.held with
    | some k => if s.panel.refreshKind = some k then done (s1.queueIntent k) else done s1
    | none => done s1
  else done s

/-- INTENT_LEASE_EXPIRY (R148): the entry is removed, and the effective intent computed again. -/
def execIntentLeaseExpiry (n : StationId) (s : State) : Host.Outcome State Fault Refusal :=
  if s.running ∧ ((s.unit.table[n]).bind IntentEntry.lease).isSome then done ((s.writeIntent n none).settle)
  else done s

/-- RESET_WINDOW_EXPIRY (R150, R154). -/
def execResetWindowExpiry (s : State) : Host.Outcome State Fault Refusal :=
  done (s.onUnit (fun u => { u with resetWindow := none }))

end Sys2Proof.Machine
end

