-- ==== Sys2Proof/Machine/LifeCycle.lean ====
section
/-! DEFINITION. The commands of the life cycle (chapter 1): reset, load, joining, and the two timers of CONFIG_FAULT and
WITHDRAWN. -/

namespace Sys2Proof.Machine

/-- RESET_CONDITION (R2, R3): every block takes its initial state and the arising condition writes the reset cause. The
queue of commands, the model's own `choice` and the levels outside the pins are no state of the station. -/
def execResetCondition (cause : ResetCause) (s : State) : Host.Outcome State Fault Refusal :=
  done { State.reset with pending := s.pending, choice := s.choice, resetCause := cause,
                          field := FieldInputs.afterReset s.field.lines }

/-- LEAVE_RESET (R1, R2): RESET is left for LOADING and the strap pins are sampled. -/
def execLeaveReset (st : StationId) (br : BrPin) (s : State) : Host.Outcome State Fault Refusal :=
  if s.life = .reset then done { s with life := .loading, station := st, bitRate := brRate br } else done s

/-- What CONFIG_FAULT publishes of the header's fingerprint (R12). -/
def Header.published (h : Header) : BitVec 32 := if h.format.toNat = Config.formatNumber then h.fingerprint else 0

/-- HEADER_READ_COMPLETE (R4): the two header checks; a failure ends the load with FORMAT. -/
def execHeaderReadComplete (bytes : List Byte) (s : State) : Host.Outcome State Fault Refusal :=
  if s.life = .loading ∧ s.header = none then
    let h := readHeader (headerOperand bytes)
    if h.passes then done { s with header := some h }
    else done (s.enterConfigFault { cls := .format, role := .unused, fingerprint := h.published })
  else done s

/-- The first accepted level of an input (R94): the input level present, for an input that has a use. -/
def State.firstLevel (i : InputId) (s : State) : State :=
  if s.used i then s.onField (fun x => { x with di := x.di.set i { accepted := some (s.inputLevel i), debounce := none } })
  else s

/-- A configured function at a good load: REST, the end state its ends give, and for a POSITIONED function its first
conversion (R98, R100, R108, R128). -/
def State.firstFn (f : FnId) (s : State) : State :=
  match s.fnSetup f with
  | none => s
  | some x =>
      let s1 := (s.onFn f (fun y => { y with motion := .rest })).onFnField f
        (fun y => { y with endState := s.endStateNow f })
      if x.kind = .positioned then s1.convert f x s.field.lines.ai[f] else s1

/-- The field inputs take the levels that stand on the lines at the entry to JOINING from LOADING (R94, R103, R106). -/
def State.firstInputs (lines : FieldLines) (s : State) : State :=
  let s1 := s.onField (fun x => { x with
    lines := lines, stopLoopClosed := lines.stopLoopClosed, supplyOk := lines.supply != .below19 })
  inputs.foldl (fun t i => t.firstLevel i) s1

/-- A good load (R11): what is kept of the image, the guard lists with it (R75), the first levels, ends, positions and selection,
and JOINING. -/
def State.goodLoad (c : Setup) (lines : FieldLines) (s : State) : State :=
  let s1 := { s with setup := some c, header := none, life := .joining, guard := .loaded c.own }
  let s2 := (s1.firstInputs lines).eachFn State.firstFn
  let s3 := s2.onPanel (fun p => { p with selection := s2.selectionNow })
  s3.enterJoining

/-- IMAGE_READ_COMPLETE (R5 to R11): the load checks in their order, and JOINING or CONFIG_FAULT. -/
def execImageReadComplete (bytes : List Byte) (lines : FieldLines) (s : State) : Host.Outcome State Fault Refusal :=
  match s.life, s.header with
  | .loading, some h =>
      let r := loadImage s.station h (imageOperand h bytes)
      match r.result with
      | .ok c => done (s.goodLoad c lines)
      | .error e => done (s.enterConfigFault { cls := e, role := r.ownRole.getD .unused, fingerprint := h.published })
  | _, _ => done s

/-- CONFIG_FAULT_ANNOUNCE_TIMER (R12): the expiry queues the next ANNOUNCE. -/
def execConfigFaultAnnounceTimer (s : State) : Host.Outcome State Fault Refusal :=
  if s.life = .configFault ∧ s.announceTimer.isSome then done ({ s with announceTimer := none }.queueAnnounce false)
  else done s

/-- JOIN_WINDOW_EXPIRY (R13, R14). -/
def execJoinWindowExpiry (s : State) : Host.Outcome State Fault Refusal :=
  if s.life = .joining ∧ s.joinWindow.isSome then done s.enterActive else done s

/-- WITHDRAWN_IDLE_TIMEOUT (R16): a line that stayed IDLE for one stale limit. -/
def execWithdrawnIdleTimeout (s : State) : Host.Outcome State Fault Refusal :=
  if s.life = .withdrawn ∧ s.loop.line = some .idle then done s.enterJoining else done s

end Sys2Proof.Machine
end

