-- ==== Sys2Proof/Machine/Line.lean ====
section
/-! DEFINITION. The commands of the line state and of frames that end without delivery (sections 2.1 to 2.4). -/

namespace Sys2Proof.Machine

/-- LINE_BUSY (R18, R20, R29): the first dominant edge on an IDLE line begins a run that is examined as a start mark. A wait
in force stays until that examination says whether a start mark began (assumption 13). -/
def execLineBusy (s : State) : Host.Outcome State Fault Refusal :=
  if s.follows ∧ s.loop.line = some .idle then
    done (s.onLoop (fun x => { x with
      line := some .busy, idleRule := .noFrame, follow := .run x.wait, heardSlot := none }))
  else done s

/-- LINE_IDLE (R18, R19, R12): no run or frame is followed and the recessive count of the rule in force is reached. The
first IDLE of CONFIG_FAULT queues its ANNOUNCE. -/
def execLineIdle (recessiveTicks : Nat) (s : State) : Host.Outcome State Fault Refusal :=
  if s.follows ∧ s.loop.line = some .busy ∧ s.loop.send = none ∧ s.loop.follow = .nothing ∧
      s.loop.idleRule.limit ≤ wholeBits s.bitRate recessiveTicks then
    let s1 := s.onLoop (fun x => { x with line := some .idle, idleRule := .noFrame })
    if s.life = .configFault ∧ s.loop.idleRule = .join then done (s1.queueAnnounce false) else done s1
  else done s

/-- LINE_STUCK (R19, R33): a dominant run of more than 40 bit times; a send in flight is aborted. -/
def execLineStuck (dominantTicks : Nat) (s : State) : Host.Outcome State Fault Refusal :=
  if s.follows ∧ s.loop.line ≠ none ∧ s.loop.line ≠ some .stuck ∧
      Config.stuckBits < wholeBits s.bitRate dominantTicks then
    if s.loop.send.isSome then done s.stick.abort else done s.stick
  else done s

/-- STUCK_END (R19): one full recessive bit time. The join count of R18 stays in force where no IDLE has been seen. -/
def execStuckEnd (recessiveTicks : Nat) (s : State) : Host.Outcome State Fault Refusal :=
  if s.follows ∧ s.loop.line = some .stuck ∧ 1 ≤ wholeBits s.bitRate recessiveTicks then
    done (s.onLoop (fun x => { x with
      line := some .busy, idleRule := if x.idleRule = .join then .join else .afterStuck }))
  else done s

/-- FRAME_DROPPED (R20 to R25, R29): no delivery and no heard slot; the no-frame case of R18 follows. A frame dropped after
its start mark ends the wait of R29; a run that was no start mark leaves it in force. -/
def execFrameDropped (w : Wave) (s : State) : Host.Outcome State Fault Refusal :=
  match receive s.bitRate w with
  | .dropped r =>
      if s.follows ∧ s.loop.send = none then
        done (s.onLoop (fun x => { x with
          line := if x.line = some .stuck then some .stuck else some .busy
          idleRule := if x.idleRule = .join then .join else .noFrame
          follow := .nothing, wait := x.wait && !dropsAfterMark r, heardSlot := none }))
      else done s
  | _ => done s

/-- UNDELIVERED_GOOD_FRAME (R23, R25, R26, R16): a good frame of kind 4 to 15 or with the own number, and in CONFIG_FAULT, where
nothing is delivered, every good frame. That such a frame of kind 0 to 3 ends on the line by this command and by its arrival
command alike is the model's choice (assumption 49). -/
def execUndeliveredGoodFrame (w : Wave) (s : State) : Host.Outcome State Fault Refusal :=
  match s.hears w with
  | some f => if 4 ≤ f.kind ∨ f.station = s.station ∨ s.running = false then done (s.frameEnd w).countGood else done s
  | none => done s

end Sys2Proof.Machine
end

