-- ==== Sys2Proof/Machine/MotionTimers.lean ====
section
/-! DEFINITION. The expiries of the motion timers of a function (sections 7.5 to 7.8). -/

namespace Sys2Proof.Machine

/-- GRANT_WAIT_EXPIRY (R115): in AWAIT_FLOW the function takes NO_FLOW and enters HELD_FAULT, its claim withdrawn. -/
def execGrantWaitExpiry (f : FnId) (s : State) : Host.Outcome State Fault Refusal :=
  if (s.fns[f]).motion = .awaitFlow ∧ (s.fns[f]).grantWait.isSome then done ((s.takeLatched f .noFlow).settle)
  else done s

/-- PRESSURISE_TIMEOUT (R116): NO_PRESSURE, through STOPPING into HELD_FAULT at this event. -/
def execPressuriseTimeout (f : FnId) (s : State) : Host.Outcome State Fault Refusal :=
  if (s.fns[f]).motion = .pressurise ∧ (s.fns[f]).pressurise.isSome then done ((s.takeLatched f .noPressure).settle)
  else done s

/-- Whether a function is in TRAVEL or CREEP. -/
def Motion.travels : Motion → Bool
  | .travel => true
  | .creep => true
  | _ => false

/-- STROKE_TIMEOUT (R119). -/
def execStrokeTimeout (f : FnId) (s : State) : Host.Outcome State Fault Refusal :=
  if (s.fns[f]).motion.travels ∧ (s.fns[f]).stroke.isSome then done ((s.takeLatched f .strokeTimeout).settle)
  else done s

/-- STALL_WINDOW_EXPIRY (R119): STALL, which is a rising trip cause. -/
def execStallWindowExpiry (f : FnId) (s : State) : Host.Outcome State Fault Refusal :=
  if (s.fns[f]).motion.travels ∧ (s.fns[f]).stall.isSome then done ((s.takeLatched f .stall).settle)
  else done s

/-- SEAT_TIMER_EXPIRY (R121). -/
def execSeatTimerExpiry (f : FnId) (s : State) : Host.Outcome State Fault Refusal :=
  if (s.fns[f]).motion = .seat ∧ (s.fns[f]).seat.isSome then done ((s.endSeat f).settle) else done s

end Sys2Proof.Machine
end

