-- ==== Sys2Proof/Machine/Publishing.lean ====
section
/-! DEFINITION. The timer commands of the publisher, the image and the flash timer (sections 3.6, 3.8, 4.4, 5.10). -/

namespace Sys2Proof.Machine

/-- CHANGE_INHIBIT_EXPIRY (R49): the inhibit ends, and a deferred cause is requested. -/
def execChangeInhibitExpiry (s : State) : Host.Outcome State Fault Refusal :=
  if s.pub.inhibitTimer.isSome then
    let s1 := s.onPub (fun p => { p with inhibitTimer := none, inhibit := false, deferred := false })
    if s.pub.deferred then done s1.requestStatus else done s1
  else done s

/-- REFRESH_EXPIRY (R51): a cause; the timer stays stopped until the next completion. -/
def execRefreshExpiry (s : State) : Host.Outcome State Fault Refusal :=
  if s.pub.refresh.isSome then done (s.onPub (fun p => { p with refresh := none })).statusCause else done s

/-- TRIP_REPEAT_EXPIRY (R56): while TRIP_ASSERTED is set the TRIP of the first present cause, or else the last queued
one, is queued again. -/
def execTripRepeatExpiry (s : State) : Host.Outcome State Fault Refusal :=
  if s.unit.tripRepeat.isSome then
    let s1 := s.onUnit (fun u => { u with tripRepeat := none })
    if s.unit.tripAsserted then done s1.requeueTrip else done s1
  else done s

/-- AGE_EXPIRY (R67, R69): FRESH becomes STALE and is handed on; UNVERIFIED returns to ABSENT and is not. -/
def execAgeExpiry (n : StationId) (s : State) : Host.Outcome State Fault Refusal :=
  if s.running ∧ (s.image[n]).age.isSome then
    match (s.image[n]).state with
    | .fresh =>
        done ((s.onEntry n (fun e =>
          { e with state := .stale, age := none, byte := none, record := none })).changeNotice n)
    | .unverified => done (s.onEntry n (fun e => { e with state := .absent, age := none }))
    | _ => done s
  else done s

/-- The other half of the flash timer (R90). -/
def Half.other : Half → Half
  | .lit => .dark
  | .dark => .lit

/-- FLASH_TIMER_EXPIRY (R90): the timer changes its half. -/
def execFlashTimerExpiry (s : State) : Host.Outcome State Fault Refusal :=
  done { s with guard := { s.guard with flash := s.guard.flash.map Half.other } }

end Sys2Proof.Machine
end

