-- ==== Sys2Proof/Machine/Pumps.lean ====
section
/-! DEFINITION. The timer commands of the flow arbiter (section 10.2). -/

namespace Sys2Proof.Machine

/-- RUN_UP_EXPIRY (R157, R160, R164): RUNNING where the running input is accepted ACTIVE, TRIPPED otherwise. -/
def execRunUpExpiry (p : PumpId) (s : State) : Host.Outcome State Fault Refusal :=
  if (s.flow.pump p).state = .starting ∧ (s.flow.pump p).runUp.isSome then
    done (((s.pumpEnters p (if s.accepted (runningInput p) then .running else .tripped)).arbitrate).settle)
  else done s

/-- A machine in RUNNING enters OFF at the idle stop (R161). -/
def State.idleStop (p : PumpId) (s : State) : State :=
  if (s.flow.pump p).state = .running then s.pumpEnters p .off else s

/-- IDLE_TIMER_EXPIRY (R161, R164): every RUNNING machine enters OFF. -/
def execIdleTimerExpiry (s : State) : Host.Outcome State Fault Refusal :=
  if s.flow.idle.isSome then
    done (((((s.onFlow (fun x => { x with idle := none })).idleStop .a).idleStop .b).arbitrate).settle)
  else done s

end Sys2Proof.Machine
end

