-- ==== Sys2Proof/Machine/Sending.lean ====
section
/-! DEFINITION. The commands of a station's own sends (section 2.6). -/

namespace Sys2Proof.Machine

/-- Whether a station is free to start a send but for the line (R28): its state allows it and a slot is WAITING while none
is IN_FLIGHT. -/
def State.hasToSend (s : State) : Bool := s.maySend && s.loop.send.isNone && s.loop.anyWaiting

/-- SEND_START (R28): the lowest waiting kind is IN_FLIGHT and a start mark of 12 bit times is driven. -/
def execSendStart (s : State) : Host.Outcome State Fault Refusal :=
  if s.hasToSend ∧ s.loop.line = some .idle ∧ s.loop.wait = false then
    done (s.onLoop (fun x => { x.start (Config.markBits * s.bt) with
      line := some .busy, idleRule := .noFrame, follow := .frame, heardSlot := none }))
  else done s

/-- Whether the line and the wait let a station become free `freeAfterEdge` ticks after an edge, which is less than one bit
time (R30). On a line that was IDLE at the edge, a station under the wait became free after the edge only; on a line that was
BUSY at the edge, no station was free at it, and the wait of R29 then lasts four bit times more. -/
def Loop.freeBy (freeAfterEdge : Nat) (x : Loop) : Bool :=
  match x.follow with
  | .frame => false
  | .run waitAtEdge => !waitAtEdge || 0 < freeAfterEdge
  | .nothing => !x.wait && 0 < freeAfterEdge

/-- Whether a late start is allowed (R30): the station was free at the edge or became free less than one bit time after
it, and the moment lies within that bit time. -/
def State.mayJoin (s : State) (sinceEdge freeAfterEdge : Nat) : Bool :=
  s.hasToSend && s.loop.line == some .busy && s.loop.freeBy freeAfterEdge && freeAfterEdge ≤ sinceEdge &&
  sinceEdge < s.bt

/-- LATE_START (R30): the mark is driven until 12 bit times after the edge. -/
def execLateStart (sinceEdge freeAfterEdge : Nat) (s : State) : Host.Outcome State Fault Refusal :=
  if s.mayJoin sinceEdge freeAfterEdge then
    done (s.onLoop (fun x => { x.start (Config.markBits * s.bt - sinceEdge) with
      idleRule := if x.idleRule = .join then .join else .noFrame, follow := .frame, wait := false }))
  else done s

/-- The content of an ANNOUNCE of this station (R47, R12). -/
def State.announceFrame (s : State) (ask : Bool) : AnnounceFrame :=
  if s.life = .configFault then
    { role := s.report.role, fingerprint := s.report.fingerprint, cause := s.resetCause, ask := false,
      configFault := true, cls := s.report.cls }
  else
    { role := s.role, fingerprint := s.cfg.fingerprint, cause := s.resetCause, ask := ask, configFault := false,
      cls := .none }

/-- The DATA of a STATUS of this station as its state stands (R50); a role without a payload sends none. -/
def State.statusData (s : State) : List Byte :=
  match s.ownRecord with
  | some r => encodeStatus s.stationByte r
  | none => []

/-- The edition chosen for a STATUS (R50). -/
def Publisher.choose (p : Publisher) (data : List Byte) : BitVec 3 :=
  if p.lastSent = some data then p.edition else p.edition + 1

/-- The ASK flag that the ANNOUNCE in flight goes with. -/
def Loop.askInFlight (x : Loop) : Bool :=
  match x.announce with
  | .inFlight a _ => a
  | _ => false

/-- The frame in flight once its content is fixed: HEADER and CRC with it (R31). -/
def Send.fix (station : StationId) (edition : Nat) (data : List Byte) (m : Send) : Send :=
  { m with idBegun := true, edition := edition, data := data,
           bytes := frameBytes m.kind.code station.val edition data }

/-- The content that a frame takes at its ID cell (R31): that of a TRIP or INTENT is the slot's. -/
def State.fixed (s : State) (m : Send) : Send :=
  match m.kind with
  | .trip => m.fix s.station 0 m.data
  | .intent => m.fix s.station 0 m.data
  | .status => m.fix s.station (s.pub.choose s.statusData).toNat s.statusData
  | .announce => m.fix s.station 0 (s.announceFrame s.loop.askInFlight).encode

/-- ID_CELL_START (R31, R49, R50): content, HEADER and CRC are fixed; for a STATUS the change inhibit comes into force. -/
def execIdCellStart (s : State) : Host.Outcome State Fault Refusal :=
  match s.loop.send with
  | some m =>
      if m.idBegun = false then
        let s1 := s.onLoop (fun x => { x with send := some (s.fixed m) })
        if m.kind = .status then done (s1.onPub (fun p => { p with inhibit := true })) else done s1
      else done s
  | none => done s

/-- ARBITRATION_LOSS (R32): possible at an ID data bit that the sender drove recessive. It goes on as a receiver. -/
def execArbitrationLoss (j : Fin 8) (s : State) : Host.Outcome State Fault Refusal :=
  match s.loop.send with
  | some m =>
      if m.idBegun ∧ cellBit (idByte m.kind.code s.station.val) j then
        done (s.statusLost.onLoop (fun x => { x.giveBack with follow := .frame }))
      else done s
  | none => done s

/-- SEND_ABORT (R33): a bit error from the ID cell on, a drop of the own frame before it, or STUCK. After a bit error the receive
path goes on following the frame, as R32 says of a loss (assumption 47). -/
def execSendAbort (cause : AbortCause) (s : State) : Host.Outcome State Fault Refusal :=
  match s.loop.send with
  | none => done s
  | some m =>
      match cause with
      | .bitError => if m.idBegun then done s.abort else done s
      | .selfDrop r =>
          if m.idBegun = false ∧ dropsOwn r then done (s.onLoop (fun x => { x with follow := .nothing })).abort
          else done s
      | .stuck => done s.stick.abort

/-- The loop interface after a completed send (R27, R29, R34, R35): the line is IDLE after the end gap. -/
def Loop.complete (x : Loop) : Loop :=
  { x with
    trip := x.trip.completed, intent := x.intent.completed, status := x.status.completed,
    announce := x.announce.completed, send := none, aborts := 0, wait := true, line := some .busy,
    idleRule := if x.idleRule = .join then .join else .endGap, follow := .nothing, heardSlot := none }

/-- The consecutive-unheard count after a completed send (R36). -/
def Loop.count (heard : Bool) (x : Loop) : Loop :=
  { x with unheard := if heard then 0 else min (x.unheard + 1) Config.unheardLimit }

/-- LONE after a completed send in ACTIVE (R36), with the count as it then stands. -/
def Loop.loneAfter (heard : Bool) (x : Loop) : Bool := if heard then false else x.lone || x.unheard == Config.unheardLimit

/-- The count and LONE after a completed send (R36): in JOINING and ACTIVE, LONE in ACTIVE only. -/
def State.unheardUpdate (heard : Bool) (s : State) : State :=
  let s1 := if s.running then s.onLoop (Loop.count heard) else s
  if s1.isActive ∧ s1.loop.loneAfter heard ≠ s1.loop.lone then
    (s1.act (State.onLoop (fun x => { x with lone := x.loneAfter heard }))).loneChanged
  else s1

/-- A completed STATUS: the commit, and both timers (R49, R50, R51). -/
def State.statusCompleted (m : Send) (s : State) : State :=
  s.onPub (fun p => { p with
    edition := BitVec.ofNat 3 m.edition, lastSent := some m.data, refresh := some s.timing.refresh,
    inhibitTimer := some s.timing.changeInhibit })

/-- A completed ANNOUNCE: the join window, or the timer of CONFIG_FAULT (R12, R13). -/
def State.announceCompleted (s : State) : State :=
  match s.life with
  | .joining => if s.joinWindow.isNone then { s with joinWindow := some s.timing.stale } else s
  | .configFault => { s with announceTimer := some Config.announceMs }
  | _ => s

/-- A completed TRIP: the repeat timer (R56). -/
def State.tripCompleted (s : State) : State :=
  if s.isActive then s.onUnit (fun u => { u with tripRepeat := some s.timing.refresh }) else s

/-- Whether an intent is one that a panel holds and repeats (R145). -/
def IntentKind.repeats : IntentKind → Bool
  | .release => false
  | .reset => false
  | _ => true

/-- A completed INTENT: the refresh timer, and the panel's own intent table (R145, R146). -/
def State.intentCompleted (m : Send) (s : State) : State :=
  match decodeIntent m.data with
  | none => s
  | some i =>
      let s1 := s.onPanel (fun p => { p with
        refresh := if i.kind.repeats then some s.timing.intentRefresh else none
        refreshKind := if i.kind.repeats then some i.kind else none })
      s1.takeIntent s.station i

/-- The block that queued the frame is told of its completion (R34). -/
def State.notified (m : Send) (s : State) : State :=
  match m.kind with
  | .status => s.statusCompleted m
  | .announce => s.announceCompleted
  | .trip => s.tripCompleted
  | .intent => s.intentCompleted m

/-- SEND_COMPLETE (R34): a STATUS is committed before the causes of the same moment are examined (R50). -/
def execSendComplete (heard : Bool) (s : State) : Host.Outcome State Fault Refusal :=
  match s.loop.send with
  | some m =>
      if m.idBegun ∧ s.maySend then done (((s.onLoop Loop.complete).notified m).unheardUpdate heard) else done s
  | none => done s

/-- SEND_WAIT_END (R29): 12 recessive bit times after the heard slot of the completed send. -/
def execSendWaitEnd (recessiveTicks : Nat) (s : State) : Host.Outcome State Fault Refusal :=
  if s.loop.wait ∧ Config.sendWaitBits ≤ wholeBits s.bitRate recessiveTicks then
    done (s.onLoop (fun x => { x with wait := false }))
  else done s

end Sys2Proof.Machine
end

