-- ==== Sys2Proof/Machine/Dispatch.lean ====
section
/-! DEFINITION. The one dispatch of the block: each command to its meaning. -/

namespace Sys2Proof.Machine

def exec (i : Instr) (s : State) : Host.Outcome State Fault Refusal :=
  match i with
  | .resetCondition cause => Sys2Proof.Machine.execResetCondition cause s
  | .leaveReset st br => Sys2Proof.Machine.execLeaveReset st br s
  | .headerReadComplete bytes => Sys2Proof.Machine.execHeaderReadComplete bytes s
  | .imageReadComplete bytes lines => Sys2Proof.Machine.execImageReadComplete bytes lines s
  | .configFaultAnnounceTimer => Sys2Proof.Machine.execConfigFaultAnnounceTimer s
  | .joinWindowExpiry => Sys2Proof.Machine.execJoinWindowExpiry s
  | .withdrawnIdleTimeout => Sys2Proof.Machine.execWithdrawnIdleTimeout s
  | .lineBusy => Sys2Proof.Machine.execLineBusy s
  | .lineIdle recessiveTicks => Sys2Proof.Machine.execLineIdle recessiveTicks s
  | .lineStuck dominantTicks => Sys2Proof.Machine.execLineStuck dominantTicks s
  | .stuckEnd recessiveTicks => Sys2Proof.Machine.execStuckEnd recessiveTicks s
  | .frameDropped wave => Sys2Proof.Machine.execFrameDropped wave s
  | .undeliveredGoodFrame wave => Sys2Proof.Machine.execUndeliveredGoodFrame wave s
  | .statusArrival wave => Sys2Proof.Machine.execStatusArrival wave s
  | .announceArrival wave => Sys2Proof.Machine.execAnnounceArrival wave s
  | .intentArrival wave => Sys2Proof.Machine.execIntentArrival wave s
  | .tripArrival wave => Sys2Proof.Machine.execTripArrival wave s
  | .sendStart => Sys2Proof.Machine.execSendStart s
  | .lateStart sinceEdge freeAfterEdge => Sys2Proof.Machine.execLateStart sinceEdge freeAfterEdge s
  | .idCellStart => Sys2Proof.Machine.execIdCellStart s
  | .arbitrationLoss bit => Sys2Proof.Machine.execArbitrationLoss bit s
  | .sendAbort cause => Sys2Proof.Machine.execSendAbort cause s
  | .sendComplete heard => Sys2Proof.Machine.execSendComplete heard s
  | .sendWaitEnd recessiveTicks => Sys2Proof.Machine.execSendWaitEnd recessiveTicks s
  | .changeInhibitExpiry => Sys2Proof.Machine.execChangeInhibitExpiry s
  | .refreshExpiry => Sys2Proof.Machine.execRefreshExpiry s
  | .tripRepeatExpiry => Sys2Proof.Machine.execTripRepeatExpiry s
  | .ageExpiry n => Sys2Proof.Machine.execAgeExpiry n s
  | .flashTimerExpiry => Sys2Proof.Machine.execFlashTimerExpiry s
  | .inputLevelChange n high => Sys2Proof.Machine.execInputLevelChange n high s
  | .debounceExpiry n => Sys2Proof.Machine.execDebounceExpiry n s
  | .discrepancyExpiry f e => Sys2Proof.Machine.execDiscrepancyExpiry f e s
  | .controlPeriod f raw => Sys2Proof.Machine.execControlPeriod f raw s
  | .pressureConversion raw => Sys2Proof.Machine.execPressureConversion raw s
  | .stopLoopOpening => Sys2Proof.Machine.execStopLoopOpening s
  | .stopLoopReadsClosed => Sys2Proof.Machine.execStopLoopReadsClosed s
  | .stopLoopClosingExpiry => Sys2Proof.Machine.execStopLoopClosingExpiry s
  | .supplyFallsBelow19V => Sys2Proof.Machine.execSupplyFallsBelow19V s
  | .supplyBackAt19V => Sys2Proof.Machine.execSupplyBackAt19V s
  | .supplyRisesTo20V => Sys2Proof.Machine.execSupplyRisesTo20V s
  | .supplyFallsBelow20V => Sys2Proof.Machine.execSupplyFallsBelow20V s
  | .lowTimerExpiry => Sys2Proof.Machine.execLowTimerExpiry s
  | .recoveryTimerExpiry => Sys2Proof.Machine.execRecoveryTimerExpiry s
  | .grantWaitExpiry f => Sys2Proof.Machine.execGrantWaitExpiry f s
  | .pressuriseTimeout f => Sys2Proof.Machine.execPressuriseTimeout f s
  | .strokeTimeout f => Sys2Proof.Machine.execStrokeTimeout f s
  | .stallWindowExpiry f => Sys2Proof.Machine.execStallWindowExpiry f s
  | .seatTimerExpiry f => Sys2Proof.Machine.execSeatTimerExpiry f s
  | .pullInExpiry f => Sys2Proof.Machine.execPullInExpiry f s
  | .intentRefreshExpiry => Sys2Proof.Machine.execIntentRefreshExpiry s
  | .intentLeaseExpiry n => Sys2Proof.Machine.execIntentLeaseExpiry n s
  | .resetWindowExpiry => Sys2Proof.Machine.execResetWindowExpiry s
  | .runUpExpiry p => Sys2Proof.Machine.execRunUpExpiry p s
  | .idleTimerExpiry => Sys2Proof.Machine.execIdleTimerExpiry s
  | .pulseTimeExpiry g => Sys2Proof.Machine.execPulseTimeExpiry g s

end Sys2Proof.Machine
end

