-- ==== Sys2Proof/Safety.lean ====
section
/-! DEFINITION. What the claims about the block speak of: the laws that every station keeps (each a predicate on a state),
the outputs as the field lines show them, and what the evaluations that end an event may change besides the command's own
effect. -/

namespace Sys2Proof.Machine

/-! ## What an event may change besides its own effect -/

/-- The motion states in which a guard evaluation moves no function (R87, R109, R110). -/
def Motion.steady : Motion → Bool
  | .none => true
  | .seat => true
  | .stopping => true
  | .heldFault => true
  | _ => false

/-- A STATUS request, or none, lies between two states: the slot only fills and the deferred flag only rises (R48, R49). -/
structure Asked (s t : State) : Prop where
  status : t.loop.status = s.loop.status ∨ t.loop.status = statusRequest s.loop.status
  deferred : s.pub.deferred = true → t.pub.deferred = true

/-- What an evaluation of the guards and all that follows from it may change (R86, R87): the functions that react and their
drive, the guard results but not the flash timer, and a STATUS request. A station that is not ACTIVE evaluates nothing. -/
structure Settled (s t : State) : Prop where
  rest : t = { s with
    fns := t.fns, drive := t.drive, dump := t.dump, guard := { t.guard with flash := s.guard.flash },
    loop := { s.loop with status := t.loop.status }, pub := { s.pub with deferred := t.pub.deferred } }
  asked : Asked s t
  steady : ∀ f : FnId, (s.fns[f]).motion.steady = true → t.fns[f] = s.fns[f] ∧ t.drive[f] = s.drive[f]
  idle : s.isActive = false → t.fns = s.fns ∧ t.drive = s.drive ∧ t.guard = s.guard

/-- What a change notice of the image may change (R70 to R72): what an evaluation may, any function of the station, and the
flow arbiter. -/
structure Noticed (s t : State) : Prop where
  rest : t = { s with
    fns := t.fns, drive := t.drive, dump := t.dump, guard := { t.guard with flash := s.guard.flash }, flow := t.flow,
    loop := { s.loop with status := t.loop.status }, pub := { s.pub with deferred := t.pub.deferred } }
  asked : Asked s t

/-- What a rising trip cause or an arriving trip may change (R152, R155): what a notice may, the trip list, TRIP_ASSERTED
and the TRIP slot with the TRIP last queued. -/
structure Tripped (s t : State) : Prop where
  rest : t = { s with
    fns := t.fns, drive := t.drive, dump := t.dump, guard := { t.guard with flash := s.guard.flash }, flow := t.flow,
    unit := { s.unit with trips := t.unit.trips, tripAsserted := t.unit.tripAsserted, lastTrip := t.unit.lastTrip },
    loop := { s.loop with status := t.loop.status, trip := t.loop.trip },
    pub := { s.pub with deferred := t.pub.deferred } }
  asked : Asked s t
  asserted : s.unit.tripAsserted = true → t.unit.tripAsserted = true

/-- A function in TRAVEL or CREEP takes, at a control period, a fault that is a trip cause (R119, R125, R129, R134, R136, R152):
STOPPING with its code, its level one step of the stop ramp lower, or HELD_FAULT with its outputs off where that step reaches
0; TRIP_ASSERTED is set, the own trip is entered as a C_STOP that stops every other function, and a MOTION station queues it. -/
structure TakesTrip (f : FnId) (code : FaultCode) (stopRamp : Nat) (s t : State) : Prop where
  fn : t.fns[f] = if (s.drive[f]).level ≤ stopRamp then
      { (s.fns[f]).quiet with motion := .heldFault, target := none, fault := code, released := s.grantGone f }
    else { (s.fns[f]).quiet with motion := .stopping, fault := code }
  drive : t.drive[f] = if (s.drive[f]).level ≤ stopRamp then Drive.off
    else { s.drive[f] with
      level := (s.drive[f]).level - stopRamp
      prop := (s.drive[f]).prop.hand s.timing.pwm ((s.drive[f]).level - stopRamp) }
  asserted : t.unit.tripAsserted = true
  own : t.unit.trips[s.station] = some ((s.unit.trips[s.station]).getD .cStop)
  stopped : s.unit.trips[s.station] = none → ∀ h : FnId, (t.fns[h]).motion ≠ .awaitFlow ∧ (t.fns[h]).motion ≠ .pressurise ∧
    (t.fns[h]).motion ≠ .travel ∧ (t.fns[h]).motion ≠ .creep
  queued : s.role = .motion → s.field.supplyOk = true → (∀ h : FnId, h < f → (s.fns[h]).fault.raisesTrip = false) →
    t.loop.trip = s.loop.trip.request (.functionFault f)

/-- A function and its valve drive after it has taken a latched fault and shows a code (R108, R111, R112, R125): by its motion state
it is in HELD_FAULT with its claim withdrawn and its outputs off, goes to STOPPING, or keeps its state with the code. A level of
0 ends STOPPING at once (R122). -/
def State.faulted (s : State) (f : FnId) (code : FaultCode) : Fn × Drive :=
  let x := s.fns[f]
  let d := s.drive[f]
  let held : Fn := { x.quiet with
    motion := .heldFault, target := none, fault := code, released := if x.motion.claims then s.grantGone f else x.released }
  let stopped := if d.level = 0 then (held, Drive.off) else ({ x.quiet with motion := .stopping, fault := code }, d)
  match x.motion with
  | .rest => if s.isActive then (held, Drive.off) else ({ x with fault := code }, d)
  | .awaitFlow => (held, Drive.off)
  | .pressurise => stopped
  | .travel => stopped
  | .creep => stopped
  | .seat => ({ x with fault := code }, d)
  | .stopping => ({ x with fault := code }, d)
  | .heldFault => ({ x with fault := code }, d)
  | .none => ({ x with fault := code }, d)

/-- No function has anything to do about the results of an evaluation (R87): what an event leaves when nothing reacts to it. -/
def Calm (s : State) : Prop := ∀ f : FnId, s.evaluate.react f = none

/-- A RESET arrival (R150): an accepted INTENT of kind RESET from a peer, or the completion of a panel's own RESET send. -/
def ResetArrives (c : Instr) (s : State) : Prop :=
  (∃ (w : Wave) (g : Frame) (r : Role) (u : Bool), c = .intentArrival w ∧ s.running = true ∧ s.hears w = some g ∧ g.kind = 1 ∧
    g.station ≠ s.station ∧ decodeIntent g.data = some { kind := .reset, underway := u } ∧
    (s.image[g.station]).state = .fresh ∧ (s.image[g.station]).role = some r ∧ (r = .panelCommand ∨ r = .panelStop)) ∨
  (∃ (heard : Bool) (m : Send) (u : Bool), c = .sendComplete heard ∧ s.isActive = true ∧ s.isPanel = true ∧
    s.loop.send = some m ∧ m.kind = .intent ∧ decodeIntent m.data = some { kind := .reset, underway := u })

/-! ## Laws of motion (R82, R104, R107, R110, R112, R123, R125, R127, R139) -/

/-- The states that a C_STOP entry or LONE ends (R114, R120). -/
def Motion.stoppable : Motion → Bool
  | .awaitFlow => true
  | .pressurise => true
  | .travel => true
  | .creep => true
  | _ => false

/-- The laws of motion at one function. -/
structure MotionLaw (s : State) (f : FnId) : Prop where
  /-- R112: outputs off in NONE, REST, AWAIT_FLOW and HELD_FAULT. -/
  off : (s.fns[f]).motion.moving = false → s.drive[f] = Drive.off
  /-- R112, R138: peak-and-hold runs from PRESSURISE to STOPPING. -/
  on : (s.fns[f]).motion.moving = true → (s.drive[f]).phase ≠ .off
  /-- R108: a target direction from leaving REST to the return. -/
  target : (s.fns[f]).target.isSome = (s.fns[f]).motion.claims
  /-- R104, R107, R110, R123, R139: no claim while the gate is closed or RESTART_HOLD is set. -/
  gate : (s.fns[f]).motion.claims = true → s.gateOpen = true ∧ s.unit.restartHold = false
  /-- R110, R114, R120, R125: AWAIT_FLOW to CREEP only with an empty trip list, LONE clear and no latched fault. -/
  free : (s.fns[f]).motion.stoppable = true →
    s.tripFree = true ∧ s.loop.lone = false ∧ (s.fns[f]).fault.latched = false
  /-- R125, R127: HELD_FAULT holds a latched code, in ACTIVE only. -/
  held : (s.fns[f]).motion = .heldFault → s.isActive = true ∧ (s.fns[f]).fault.latched = true
  /-- R125: in ACTIVE a function in REST holds no latched code. -/
  rest : (s.fns[f]).motion = .rest → s.isActive = true → (s.fns[f]).fault.latched = false

/-- The laws of motion at every function. -/
def MotionLaws (s : State) : Prop := ∀ f : FnId, MotionLaw s f

/-- R7, R135: every profile of the own section has its creep level at or below its travel level, and that at most 1000. -/
def ProfilesOk (s : State) : Prop :=
  ∀ (f : FnId) (x : FnSetup) (d : Dir), s.fnSetup f = some x →
    (x.profile d).creepLevel ≤ (x.profile d).travelLevel ∧ (x.profile d).travelLevel ≤ 1000

/-- R135: no level exceeds the travel level of the profile in use, and PRESSURISE holds it at 0. -/
def LevelLaws (s : State) : Prop :=
  ∀ f : FnId, (s.drive[f]).level ≤ (s.profile f).travelLevel ∧
    ((s.fns[f]).motion = .pressurise → (s.drive[f]).level = 0)

/-- Every valve output of the station is de-energised: solenoids or contactors, proportional outputs, dump valve. -/
def OutputsOff (s : State) : Prop :=
  (∀ n : Fin 8, s.so n = false) ∧ (∀ f : FnId, s.proportionalOut f = false) ∧ s.dv = false

/-! ## Laws of the flow arbiter (R156, R160 to R163, R168) -/

/-- The laws of the claim queue and the grant list by themselves, also while the capacity is below the units granted. -/
structure QueueLaws (s : State) : Prop where
  /-- R163: each station and slot at most once, at most 16 claims, ordered by priority. -/
  once : (s.flow.queue.map Claim.key).Nodup
  size : s.flow.queue.length ≤ Config.maxClaims
  ordered : s.flow.queue.Pairwise (fun c d => d.priority ≤ c.priority)
  /-- R168: every grant names a claim of the queue, at most 8 grants, no two alike. -/
  claimed : ∀ g ∈ s.flow.grants, ∃ c ∈ s.flow.queue, c.key = g
  few : s.flow.grants.length ≤ Config.maxGrants
  apart : s.flow.grants.Nodup

/-- The laws of the flow arbiter. -/
structure FlowLaws (s : State) : Prop extends QueueLaws s where
  /-- R156: outside ACTIVE, and at a station that is no PUMP station, everything is as after a reset. -/
  away : s.isActive = false ∨ s.role ≠ .pump → s.flow = Flow.atReset
  /-- R160. -/
  capacity : s.flow.capacity = s.cfg.own.unitsPerPump * s.flow.runningCount
  /-- R161. -/
  idle : s.flow.idle.isSome = (s.flow.grants.isEmpty && s.flow.anyIn .running)
  /-- R168: the units granted lie within the capacity. -/
  within : grantedUnits s.flow.queue s.flow.grants ≤ s.flow.capacity

/-- The closing of the gate at a PUMP station (R159, R160, R165): every machine in STARTING or RUNNING is OFF, any other is as it
was, the capacity is 0 and every grant is revoked. -/
structure PumpsStopped (s t : State) : Prop where
  machines : ∀ p : PumpId, t.flow.pump p =
    if (s.flow.pump p).state = .starting ∨ (s.flow.pump p).state = .running then ⟨.off, none⟩ else s.flow.pump p
  empty : FlowLaws s → t.flow.capacity = 0 ∧ t.flow.grants = []

/-! ## Laws of the loop interface (R15, R18, R27, R35 to R38) -/

/-- Whether a slot is IN_FLIGHT. -/
def Slot.isInFlight {α : Type} : Slot α → Bool
  | .inFlight _ _ => true
  | _ => false

/-- The kind of the frame in flight. -/
def Loop.kind (x : Loop) : Option FrameKind := x.send.map Send.kind

/-- The laws of the loop interface and of the publisher's timers. -/
structure LoopLaws (s : State) : Prop where
  /-- R27: the slot of the frame on the line, and no other, is IN_FLIGHT. -/
  trip : s.loop.trip.isInFlight = (s.loop.kind == some .trip)
  intent : s.loop.intent.isInFlight = (s.loop.kind == some .intent)
  status : s.loop.status.isInFlight = (s.loop.kind == some .status)
  announce : s.loop.announce.isInFlight = (s.loop.kind == some .announce)
  /-- R18: a line state is kept in JOINING, ACTIVE, WITHDRAWN and CONFIG_FAULT. -/
  line : s.loop.line.isSome = s.follows
  /-- R37, R38: nothing but ANNOUNCE outside ACTIVE, and nothing at all where the station sends nothing. -/
  kinds : s.isActive = false → s.loop.trip = .empty ∧ s.loop.intent = .empty ∧ s.loop.status = .empty
  silent : s.maySend = false → s.loop.announce = .empty
  /-- R52. -/
  timers : s.isActive = false →
    s.pub.refresh = none ∧ s.pub.inhibitTimer = none ∧ s.pub.inhibit = false ∧ s.pub.deferred = false
  /-- R35: the abort count stays below 8 where the eighth withdraws the station. -/
  aborts : s.loop.aborts ≤ Config.abortLimit
  below : s.life = .joining ∨ s.life = .active → s.loop.aborts < Config.abortLimit
  /-- R36: the unheard count stops at 4, and LONE is set in ACTIVE only. -/
  unheard : s.loop.unheard ≤ Config.unheardLimit
  lone : s.loop.lone = true → s.isActive = true
  /-- R16: the good frames are counted in WITHDRAWN only, to fifteen. -/
  good : s.goodFrames < Config.rejoinFrames ∧ (s.life ≠ .withdrawn → s.goodFrames = 0)

/-! ## Laws of the peer image (R57 to R59, R61, R65, R67) -/

/-- The laws of one entry. -/
structure EntryLaw (s : State) (n : StationId) : Prop where
  /-- R57, R58, R74: nothing is held before a good load, and nothing at the own number. -/
  none : s.running = false ∨ n = s.station → s.image[n] = Entry.atReset
  /-- R57: the fingerprint match follows the state. -/
  fpMatch : (s.image[n]).fpMatch = (match (s.image[n]).state with
    | .absent => .notChecked
    | .unverified => .notChecked
    | .foreign => .refused
    | _ => .matched)
  /-- R57: the station byte is present only in FRESH. -/
  byte : (s.image[n]).byte.isSome = ((s.image[n]).state == .fresh)
  /-- R59: the record is present in FRESH entries of subscribed stations only. -/
  record : (s.image[n]).record.isSome = ((s.image[n]).state == .fresh && s.cfg.subscription.contains n)
  /-- R67: the age timer runs in FRESH and UNVERIFIED. -/
  age : (s.image[n]).age.isSome = ((s.image[n]).state == .fresh || (s.image[n]).state == .unverified)
  /-- R57, R65: the role is known from the ANNOUNCE on. -/
  role : (s.image[n]).role.isSome = ((s.image[n]).state != .absent && (s.image[n]).state != .unverified)

/-- The laws of the peer image. -/
def ImageLaws (s : State) : Prop := ∀ n : StationId, EntryLaw s n

/-! ## Laws of the guard engine (R75, R86, R88) -/

/-- R75: each list of the station's own section has one value for each of its terms, whatever that value is. -/
def EveryTermValued (s : State) : Prop :=
  (∀ f : FnId, (s.guard.fns[f]).opening.values.length = (s.fnSetup f).elim 0 (fun x => x.openTerms.length) ∧
    (s.guard.fns[f]).closing.values.length = (s.fnSetup f).elim 0 (fun x => x.closeTerms.length)) ∧
  (∀ n : Fin 8, (s.guard.lamps[n]).onValues.length = (s.cfg.own.lamps[n.val]?).elim 0 (fun l => l.on.length) ∧
    (s.guard.lamps[n]).flashValues.length = (s.cfg.own.lamps[n.val]?).elim 0 (fun l => l.flash.length))

/-- The results are those of the present state in ACTIVE, with the flash timer running. In JOINING and WITHDRAWN every permit is
false and the rest as R75 and R88 say, over whatever values the terms and the pair terms hold (log entry 41); before a good load
there is no term. -/
def GuardLaws (s : State) : Prop :=
  if s.isActive then s.guard = s.guardNow ∧ s.guard.flash.isSome = true
  else if s.running then s.guard = s.guard.cleared ∧ EveryTermValued s
  else s.guard = GuardEngine.blank

/-- R39, R41, R43: the records that a station can publish. -/
def Record.wf : Record → Bool
  | .motion fns => slots.all (fun f => (fns[f]).priority < 4 && blockingOk (fns[f]).blocking &&
      (fns[f]).units ≤ 32 && positionOk (fns[f]).position)
  | .pump _ _ capacity grants => capacity ≤ 64 && grants.length ≤ 8
  | .panel _ _ _ _ _ => true

/-! ## Laws of the intent and trip unit (R146, R149, R151) -/

/-- The laws of the intent table and the trip list. -/
structure UnitLaws (s : State) : Prop where
  /-- R149. -/
  effective : s.unit.effective = effectiveOf s.unit.kinds
  /-- R146: an entry asks for OPEN, CLOSE, STOP or SINGLE and its lease runs. -/
  entries : ∀ (n : StationId) (e : IntentEntry), s.unit.table[n] = some e →
    e.lease.isSome = true ∧ e.kind ≠ .release ∧ e.kind ≠ .reset
  /-- R146, R151: both empty before a good load. -/
  empty : s.running = false → s.unit.table = Vector.replicate 16 none ∧ s.unit.trips = Vector.replicate 16 none

/-! ## Laws of the field inputs (R96 to R98, R100, R101) -/

/-- The laws of one function's ends. -/
structure FieldLaw (s : State) (f : FnId) : Prop where
  /-- R2, R11: a configuration is kept from a good load to the next reset. -/
  unloaded : s.running = false → s.setup = none
  /-- R98: the end state is the one the two ends give. -/
  endState : (s.field.fns[f]).endState = s.endStateNow f
  /-- R96: the discrepancy timer of an end runs in PENDING. -/
  open_ : (s.field.fns[f]).openEnd.discrepancy.isSome = ((s.field.fns[f]).openEnd.state == .pending)
  closed : (s.field.fns[f]).closedEnd.discrepancy.isSome = ((s.field.fns[f]).closedEnd.state == .pending)
  /-- R101: the position is 1023 while TRANSDUCER holds. -/
  invalid : (s.fns[f]).fault = .transducer → (s.field.fns[f]).position = Config.noPosition
  /-- R130: and else in 0 to 1000 or, before any conversion, 1023. -/
  range : (s.field.fns[f]).position ≤ 1000 ∨ (s.field.fns[f]).position = Config.noPosition

/-- The laws of the field inputs. -/
def FieldLaws (s : State) : Prop := ∀ f : FnId, FieldLaw s f

end Sys2Proof.Machine
end

