-- ==== Sys2Proof/Certificates/Slice0/Obligations.lean ====
section
/-! DEFINITION. The statements for the provers, family by family: what each command does where its event can arise, what it
leaves unchanged, and the laws that every step keeps. `Settled`, `Noticed` and `Tripped` (Sys2Proof/Safety.lean) say what
the evaluations that end an event may change besides. -/

open Sys2Proof Sys2Proof.Machine

/-! ## The step -/

/-- A step runs the command at the front of the queue on the station with the queue's rest. -/
def Obligations.StepRunsFrontCommand : Prop :=
  ∀ (c : Instr) (rest : List Instr) (s : State), s.pending = c :: rest →
    Machine.step s = Machine.exec c { s with pending := rest }

/-- Every law of Sys2Proof/Safety.lean holds right after reset. -/
def Obligations.LawsHoldAtReset : Prop :=
  MotionLaws State.reset ∧ ProfilesOk State.reset ∧ LevelLaws State.reset ∧ FlowLaws State.reset ∧
  LoopLaws State.reset ∧ ImageLaws State.reset ∧ GuardLaws State.reset ∧ UnitLaws State.reset ∧ FieldLaws State.reset

/-! ## Life cycle (chapter 1) -/

/-- RESET_CONDITION (R2, R3, R75, R96, R100, R142): in any state, RESET with every block initialised and the cause of this
condition; the queue, the model's own choice and the levels outside the pins stay. That the pair term is false after a reset is
the model's choice (log entry 41), as R75 and R84 name no value of it there. -/
def Obligations.ResetConditionInitialises : Prop :=
  ∀ (cause : ResetCause) (s : State), ∃ t : State,
    Machine.exec (.resetCondition cause) s = .next t ∧
    t.life = .reset ∧ t.resetCause = cause ∧ t.setup = none ∧ t.header = none ∧
    (t.joinWindow = none ∧ t.announceTimer = none ∧ t.goodFrames = 0) ∧
    OutputsOff t ∧ (∀ n : Fin 8, t.lamp n = false) ∧
    (t.loop.trip = .empty ∧ t.loop.intent = .empty ∧ t.loop.status = .empty ∧ t.loop.announce = .empty ∧
      t.loop.send = none ∧ t.loop.line = none ∧ t.loop.follow = .nothing ∧ t.loop.wait = false ∧
      t.loop.heardSlot = none ∧ t.loop.aborts = 0 ∧ t.loop.unheard = 0 ∧ t.loop.lone = false) ∧
    (t.pub.edition = 0 ∧ t.pub.lastSent = none ∧ t.pub.refresh = none ∧ t.pub.inhibitTimer = none ∧
      t.pub.deferred = false ∧ t.pub.inhibit = false) ∧
    (∀ n : StationId, t.image[n] = { state := .absent, role := none, fpMatch := .notChecked, age := none, byte := none,
                                     record := none } ∧
      t.unit.table[n] = none ∧ t.unit.trips[n] = none) ∧
    (t.unit.restartHold = false ∧ t.unit.tripAsserted = false ∧ t.unit.effective = none ∧ t.unit.resetWindow = none ∧
      t.unit.tripRepeat = none) ∧
    (∀ f : FnId, (t.fns[f]).motion = .none ∧ (t.fns[f]).target = none ∧ (t.fns[f]).fault = .none ∧
      (t.fns[f]).lostEnd = none ∧ (t.fns[f]).released = true ∧ (t.fns[f]).quiet = t.fns[f] ∧ t.drive[f] = Drive.off) ∧
    (∀ f : FnId, let x := t.field.fns[f]
      x.openEnd = { state := .agreed, discrepancy := none } ∧ x.closedEnd = { state := .agreed, discrepancy := none } ∧
      x.endState = .unknown ∧ x.position = 1023 ∧ x.lastRaw = none) ∧
    (∀ (f : FnId) (d : Dir), let g := t.guard.fns[f]
      g.mode = .normal ∧ g.pairTerm = false ∧ g.blocking = 15 ∧ (g.permits d).start = false ∧
      (g.permits d).proceed = false ∧ (g.permits d).holdCause = .none) ∧
    (∀ n : Fin 8, (t.guard.lamps[n]).state = .off) ∧ t.guard.flash = none ∧
    (∀ i : InputId, (t.field.di[i]).accepted = none ∧ (t.field.di[i]).debounce = none) ∧
    (t.field.stopLoopClosed = false ∧ t.field.closing = none ∧ t.field.supplyOk = false ∧ t.field.lowTimer = none ∧
      t.field.recovery = none ∧ t.field.pressure = none) ∧
    (t.panel.armOpen = false ∧ t.panel.armClose = false ∧ t.panel.armStop = false ∧ t.panel.armReset = false ∧
      t.panel.armJogOpen = false ∧ t.panel.armJogClose = false ∧ t.panel.held = none ∧ t.panel.refresh = none ∧
      t.panel.selection = none) ∧
    (t.flow.a = ⟨.off, none⟩ ∧ t.flow.b = ⟨.off, none⟩ ∧ t.flow.capacity = 0 ∧ t.flow.queue = [] ∧ t.flow.grants = [] ∧
      t.flow.idle = none) ∧
    t.pending = s.pending ∧ t.choice = s.choice ∧ t.field.lines = s.field.lines

/-- LEAVE_RESET and HEADER_READ_COMPLETE (R1, R2, R4, R12): RESET is left for LOADING with the straps sampled, BR low for
50 kbit/s, and elsewhere the straps have no effect; a header of format 3 and of a length from 68 to 4096 is kept, any other
ends the load with FORMAT in CONFIG_FAULT, where the stored fingerprint is published only of a header of format 3; a header
that the memory gives in part is read as 0xFF beyond it (log entry 1). That no ANNOUNCE is queued at the entry to CONFIG_FAULT
is log entry 24. -/
def Obligations.StrapsAndHeaderChecked : Prop :=
  (∀ (st : StationId) (br : BrPin) (s : State),
    (s.life = .reset → Machine.exec (.leaveReset st br) s = .next (State.finish
      { s with life := .loading, station := st, bitRate := if br = .low then .k50 else .k100 })) ∧
    (s.life ≠ .reset → Machine.exec (.leaveReset st br) s = .next s.finish)) ∧
  (∀ (b0 b1 b2 b3 b4 b5 b6 : Byte) (s : State), s.life = .loading → s.header = none →
    let len := b1.toNat * 256 + b2.toNat
    let fp : BitVec 32 := b3 ++ b4 ++ b5 ++ b6
    if b0.toNat = 3 ∧ 68 ≤ len ∧ len ≤ 4096 then
      Machine.exec (.headerReadComplete [b0, b1, b2, b3, b4, b5, b6]) s =
        .next (State.finish { s with header := some { format := b0, length := len, fingerprint := fp } })
    else
      Machine.exec (.headerReadComplete [b0, b1, b2, b3, b4, b5, b6]) s =
        .next (State.finish { s with
          life := .configFault, header := none
          report := { cls := .format, role := .unused, fingerprint := if b0.toNat = 3 then fp else 0 }
          loop := { s.loop with line := some .busy, idleRule := .join, follow := .nothing } })) ∧
  (∀ (bytes : List Byte) (s : State), Machine.exec (.headerReadComplete bytes) s =
    Machine.exec (.headerReadComplete (bytes.take 7 ++ List.replicate (7 - bytes.length) 0xFF)) s)

/-- IMAGE_READ_COMPLETE (R11 to R13, R94, R98, R103, R106, R108): a load that fails ends in CONFIG_FAULT with its class, its
ANNOUNCE not yet queued (log entry 24); a good one enters JOINING with the configuration kept, the first levels taken and an
ANNOUNCE with ASK requested; the first conversion of a POSITIONED function gives its position, or TRANSDUCER and 1023 out of
band, and an END_ONLY function has none; the guard engine has one value for each term of the lists it now holds, false until
the first evaluation by the model's choice (log entry 41), as is the pair term, and else stays as after the reset; an image
that the memory gives in part is read as 0xFF beyond it (log entry 1). -/
def Obligations.ImageLoadEnds : Prop :=
  (∀ (bytes : List Byte) (lines : FieldLines) (s : State) (h : Header) (role : Option Role), s.life = .loading →
    s.header = some h → bytes.length = h.length - 7 →
    (∀ e : LoadFault, loadImage s.station h bytes = { ownRole := role, result := .error e } →
      Machine.exec (.imageReadComplete bytes lines) s = .next (State.finish { s with
        life := .configFault, header := none
        report := { cls := e, role := role.getD .unused, fingerprint := if h.format.toNat = 3 then h.fingerprint else 0 }
        loop := { s.loop with line := some .busy, idleRule := .join, follow := .nothing } })) ∧
    (∀ c : Setup, loadImage s.station h bytes = { ownRole := role, result := .ok c } → ∃ t : State,
      Machine.exec (.imageReadComplete bytes lines) s = .next t ∧
      t.life = .joining ∧ t.setup = some c ∧ t.header = none ∧ t.joinWindow = none ∧
      (t.loop.line = some .busy ∧ t.loop.idleRule = .join ∧ t.loop.aborts = 0 ∧ t.loop.unheard = 0 ∧
        t.loop.announce = announceRequest true s.loop.idBegun s.loop.announce) ∧
      (t.field.lines = lines ∧ t.field.stopLoopClosed = lines.stopLoopClosed ∧
        t.field.supplyOk = (lines.supply != .below19)) ∧
      (∀ i : InputId, t.field.di[i] =
        if t.used i then { accepted := some (lines.di[i] != t.activeLow i), debounce := none } else s.field.di[i]) ∧
      (∀ f : FnId, (t.fns[f]).motion = (if (c.own.fns[f]).isSome then .rest else (s.fns[f]).motion) ∧
        (t.field.fns[f]).endState = (if (c.own.fns[f]).isSome then t.endStateNow f else (s.field.fns[f]).endState)) ∧
      (∀ (f : FnId) (x : FnSetup), c.own.fns[f] = some x →
        let p := unclamped x lines.ai[f]
        let y := t.field.fns[f]
        (x.kind = .positioned → y.lastRaw = some p ∧ ((s.fns[f]).fault ≠ .transducer →
          if -30 ≤ p ∧ p ≤ 1030 then y.position = min p.toNat 1000 ∧ (t.fns[f]).fault = (s.fns[f]).fault
          else y.position = 1023 ∧ (t.fns[f]).fault = .transducer)) ∧
        (x.kind = .endOnly → y.lastRaw = (s.field.fns[f]).lastRaw ∧ y.position = (s.field.fns[f]).position ∧
          (t.fns[f]).fault = (s.fns[f]).fault)) ∧
      (let unevaluated := fun (terms : List Term) => List.replicate terms.length false
       (∀ f : FnId, let g := t.guard.fns[f]
          g.mode = .normal ∧ g.pairTerm = false ∧ g.blocking = 15 ∧ ∀ d : Dir, g.permits d =
            { values := unevaluated ((c.own.fns[f]).elim [] (fun x => x.terms d)), start := false, proceed := false
              holdCause := .none }) ∧
       (∀ n : Fin 8, let l := (c.own.lamps[n.val]?).getD { on := [], flash := [] }
          t.guard.lamps[n] = { onValues := unevaluated l.on, flashValues := unevaluated l.flash, state := .off }) ∧
       t.guard.flash = none) ∧
      t.panel.selection = t.selectionNow ∧
      (t.station = s.station ∧ t.bitRate = s.bitRate ∧ t.resetCause = s.resetCause ∧ t.image = s.image ∧
        t.unit = s.unit ∧ t.flow = s.flow ∧ t.drive = s.drive ∧ t.pub.edition = s.pub.edition ∧
        t.pending = s.pending))) ∧
  (∀ (bytes : List Byte) (lines : FieldLines) (s : State) (h : Header), s.header = some h →
    Machine.exec (.imageReadComplete bytes lines) s = Machine.exec (.imageReadComplete
      (bytes.take (h.length - 7) ++ List.replicate (h.length - 7 - bytes.length) 0xFF) lines) s)

/-- The load checks in their order, each with its class (R5 to R11), and what a good load has passed. FINGERPRINT where the CRC
differs. Then the walk of the sixteen sections (R6), each beginning where the length of the one before it ends, whose first failure
is the load's: FORMAT for a section length below 3 or beyond the image, for a record or lamp block that is cut short, and for bytes
left over, and RANGE for a role above 5, a function kind above 2, a term count above 8 and a lamp count above 8 or a lamp's term
count above 4 (which of two is first in one record is log entries 16 and 35). A failure in a record or lamp is the failure of its
section, and a section is read exactly where it has its layout. Then RANGE for the own section and the timing block (R7),
CALIBRATION for a POSITIONED span below 500 (R8), TERMS for a reference that does not hold (R9, log entry 6), SUBSCRIPTION for more
than eight stations (R10), and else the load is good. The sections, the records in them and the layouts and ranges of sections 1.5
and 1.6 are spelled out: what a whole section holds, which bytes are an entry, a term, a profile, a function record, the timing block
and an own section, with every bound that makes one unreadable or out of range. -/
def Obligations.LoadChecksInOrder : Prop :=
  (∀ (own : StationId) (left index : Nat) (bs : List Byte),
    walkFrom own 0 index bs = { result := if bs = [] then .ok [] else .error .format, ownRole := none } ∧
    (bs.length < 3 ∨ be16 bs 0 < 3 ∨ bs.length < be16 bs 0 →
      walkFrom own (left + 1) index bs = { result := .error .format, ownRole := none }) ∧
    (3 ≤ bs.length → 3 ≤ be16 bs 0 → be16 bs 0 ≤ bs.length →
      (5 < natAt bs 2 → walkFrom own (left + 1) index bs = { result := .error .range, ownRole := none }) ∧
      (∀ role : Role, natAt bs 2 = ([.unused, .motion, .pump, .panelCommand, .panelStop, .monitor] : List Role).idxOf role →
        let content := rawBody role ((bs.take (be16 bs 0)).drop 3)
        let here := if index = own.val then some role else none
        let later := walkFrom own left (index + 1) (bs.drop (be16 bs 0))
        (∀ e : LoadFault, content = .error e →
          walkFrom own (left + 1) index bs = { result := .error e, ownRole := here }) ∧
        (∀ sec : RawSection, content = .ok sec →
          (∀ e : LoadFault, later.result = .error e →
            walkFrom own (left + 1) index bs = { result := .error e, ownRole := here.or later.ownRole }) ∧
          (∀ ss : List RawSection, later.result = .ok ss →
            walkFrom own (left + 1) index bs = { result := .ok (sec :: ss), ownRole := here.or later.ownRole }))))) ∧
  (∀ (k n : Byte) (rest : List Byte), rawFn [] = .error .format ∧ rawLamps [] = .error .format ∧
    (2 < k.toNat → rawFn (k :: rest) = .error .range) ∧
    (k = 1 ∨ k = 2 → rest.length < 65 → rawFn (k :: rest) = .error .format) ∧
    (k = 1 ∨ k = 2 → 65 ≤ rest.length → 8 < natAt rest 63 ∨ 8 < natAt rest 64 → rawFn (k :: rest) = .error .range) ∧
    (k = 1 ∨ k = 2 → natAt rest 63 ≤ 8 → natAt rest 64 ≤ 8 → rest.length < 65 + 5 * (natAt rest 63 + natAt rest 64) →
      rawFn (k :: rest) = .error .format) ∧
    (8 < n.toNat → rawLamps (n :: rest) = .error .range) ∧ (rest ≠ [] → rawLamps (0 :: rest) = .error .format) ∧
    rawLamp [] = .error .format ∧ rawLamp [n] = .error .format ∧
    (4 < k.toNat ∨ 4 < n.toNat → rawLamp (k :: n :: rest) = .error .range) ∧
    (k.toNat ≤ 4 → n.toNat ≤ 4 → rest.length < 5 * (k.toNat + n.toNat) → rawLamp (k :: n :: rest) = .error .format)) ∧
  (let record : RawFn → List Byte := fun r => match r with
      | .unconfigured => [0]
      | .configured head os cs => head ++ os.flatten ++ cs.flatten
   let lamp := fun (l : RawLamp) =>
      BitVec.ofNat 8 l.on.length :: BitVec.ofNat 8 l.flash.length :: (l.on ++ l.flash).flatten
   let fnOk := fun (r : RawFn) => ∀ (head : List Byte) (os cs : List (List Byte)), r = .configured head os cs →
      head.length = 66 ∧ (natAt head 0 = 1 ∨ natAt head 0 = 2) ∧ natAt head 64 = os.length ∧ natAt head 65 = cs.length ∧
      os.length ≤ 8 ∧ cs.length ≤ 8 ∧ ∀ t ∈ os ++ cs, t.length = 5
   let lampOk := fun (l : RawLamp) => l.on.length ≤ 4 ∧ l.flash.length ≤ 4 ∧ ∀ t ∈ l.on ++ l.flash, t.length = 5
   let fixed : Role → Nat := fun role => match role with
      | .unused => 0
      | .motion => 1
      | .pump => 5
      | .panelCommand => 13
      | .panelStop => 3
      | .monitor => 0
   (∀ (role : Role) (bs : List Byte) (sec : RawSection), rawBody role bs = .ok sec ↔
      sec.role = role ∧ sec.fns.length = (if role = .motion then 4 else 0) ∧ sec.fixed.length = fixed role ∧
      bs = (if role = .unused then [] else sec.fixed ++ sec.fns.flatMap record ++
        BitVec.ofNat 8 sec.lamps.length :: sec.lamps.flatMap lamp) ∧
      sec.lamps.length ≤ (if role = .unused then 0 else 8) ∧ (∀ r ∈ sec.fns, fnOk r) ∧ ∀ l ∈ sec.lamps, lampOk l) ∧
   (∀ (role : Role) (b : Byte) (bs : List Byte) (e : LoadFault), rawBody .unused (b :: bs) = .error .format ∧
      (bs.length < fixed role → rawBody role bs = .error .format) ∧
      (role ≠ .unused → role ≠ .motion → fixed role ≤ bs.length → rawLamps (bs.drop (fixed role)) = .error e →
        rawBody role bs = .error e)) ∧
   (∀ (p : Byte) (rs : List RawFn) (rest : List Byte) (e : LoadFault), (∀ r ∈ rs, fnOk r) →
      (rs.length < 4 → rawFn rest = .error e → rawBody .motion (p :: (rs.flatMap record ++ rest)) = .error e) ∧
      (rs.length = 4 → rawLamps rest = .error e → rawBody .motion (p :: (rs.flatMap record ++ rest)) = .error e)) ∧
   (∀ (n : Byte) (ls : List RawLamp) (rest : List Byte) (e : LoadFault), n.toNat ≤ 8 → (∀ l ∈ ls, lampOk l) →
      (ls.length < n.toNat → rawLamp rest = .error e → rawLamps (n :: (ls.flatMap lamp ++ rest)) = .error e) ∧
      (ls.length = n.toNat → rest ≠ [] → rawLamps (n :: (ls.flatMap lamp ++ rest)) = .error .format))) ∧
  (∀ b : Byte, (∀ i : InputId, readEntry b = some (some i) ↔ b.toNat = 128 + i.val) ∧ (readEntry b = some none ↔ b.toNat < 16)) ∧
  (∀ (a b c d e : Byte) (t : Term), readTerm [a, b, c, d, e] = some t ↔
    let operand := d.toNat * 256 + e.toNat
    let selects := fun (code argument enumeration : Nat) =>
      a.toNat = t.station.val * 16 + code ∧ c.toNat = t.invert.toNat ∧
      (let second := fun (operator : Nat) =>
        b.toNat = argument * 16 + operator * 4 + t.hold.toNat * 2 + t.safe.toNat
      match t.operator with
      | .member codes => second 0 ∧ codes.toNat = operand ∧ operand < 2 ^ enumeration
      | .maskedEqual m v => second 1 ∧ m = d ∧ v = e
      | .atLeast n => second 2 ∧ n = operand ∧ n ≤ 1023
      | .below n => second 3 ∧ n = operand ∧ n ≤ 1023)
    match t.selector with
    | .stationFlags => selects 0 0 0
    | .fnMotion f => selects 1 f.val 9
    | .fnEnd f => selects 2 f.val 4
    | .fnFault f => selects 3 f.val 14
    | .fnPosition f => selects 4 f.val 0
    | .panelFlags => selects 5 0 0
    | .pumpState .a => selects 6 0 4
    | .pumpState .b => selects 6 1 4
    | .pumpCapacity => selects 7 0 0
    | .localInput i => selects 8 i.val 2) ∧
  (∀ bs : List Byte, let n := natAt bs
    let w := be16 bs
    readProfile bs =
      { pressureThreshold := w 0, pressuriseTimeout := w 2, grantWait := n 4, strokeLimit := n 5, stallWindow := w 6
        stallDelta := n 8, seatTime := w 9, pullIn := n 11, holdDuty := w 12, travelLevel := w 14, creepLevel := w 16
        creepZone := w 18, ramp := n 20, stopRamp := n 21, skewDeadband := n 22, skewGain := n 23, skewTrip := n 24
        claimUnits := n 25, claimPriority := n 26 } ∧
    readTiming bs =
      { refresh := n 0, changeInhibit := n 1, stale := w 2, intentRefresh := n 4, intentLease := w 5, debounce := n 7
        discrepancy := w 8, positionStep := n 10, pwm := w 11 }) ∧
  (∀ p : Profile, p.inRange = true ↔
    (10 ≤ p.pressureThreshold ∧ p.pressureThreshold ≤ 350) ∧ (500 ≤ p.pressuriseTimeout ∧ p.pressuriseTimeout ≤ 5000) ∧
    (2 ≤ p.grantWait ∧ p.grantWait ≤ 60) ∧ (1 ≤ p.strokeLimit ∧ p.strokeLimit ≤ 120) ∧
    (200 ≤ p.stallWindow ∧ p.stallWindow ≤ 5000) ∧ (1 ≤ p.stallDelta ∧ p.stallDelta ≤ 50) ∧ p.seatTime ≤ 500 ∧
    (20 ≤ p.pullIn ∧ p.pullIn ≤ 200) ∧ (200 ≤ p.holdDuty ∧ p.holdDuty ≤ 1000) ∧
    (100 ≤ p.travelLevel ∧ p.travelLevel ≤ 1000) ∧ (50 ≤ p.creepLevel ∧ p.creepLevel ≤ p.travelLevel) ∧
    p.creepZone ≤ 300 ∧ (1 ≤ p.ramp ∧ p.ramp ≤ 100) ∧ (1 ≤ p.stopRamp ∧ p.stopRamp ≤ 100) ∧ p.skewDeadband ≤ 50 ∧
    p.skewGain ≤ 64 ∧ (20 ≤ p.skewTrip ∧ p.skewTrip ≤ 200) ∧ (1 ≤ p.claimUnits ∧ p.claimUnits ≤ 32) ∧
    p.claimPriority ≤ 3) ∧
  (∀ t : Timing, t.inRange = true ↔
    (20 ≤ t.refresh ∧ t.refresh ≤ 200) ∧ (2 ≤ t.changeInhibit ∧ t.changeInhibit ≤ 20) ∧
    (2 * t.refresh ≤ t.stale ∧ t.stale ≤ 1000) ∧ (50 ≤ t.intentRefresh ∧ t.intentRefresh ≤ 200) ∧
    (2 * t.intentRefresh ≤ t.intentLease ∧ t.intentLease ≤ 1000) ∧ (2 ≤ t.debounce ∧ t.debounce ≤ 50) ∧
    (50 ≤ t.discrepancy ∧ t.discrepancy ≤ 2000) ∧ (5 ≤ t.positionStep ∧ t.positionStep ≤ 50) ∧
    (500 ≤ t.pwm ∧ t.pwm ≤ 4000) ∧ t.pwm % 50 = 0) ∧
  (∀ (bs : List Byte) (os cs : List (List Byte)) (x : FnSetup), readFnSetup bs os cs = some x ↔
    x.kind = (if natAt bs 0 = 1 then .positioned else .endOnly) ∧ natAt bs 1 / 64 % 2 = 0 ∧
    x.pair = (if 128 ≤ natAt bs 1 then some (Fin.ofNat 16 (natAt bs 1 / 4), Fin.ofNat 4 (natAt bs 1)) else none) ∧
    readEntry (byteAt bs 2) = some (some x.openA) ∧ readEntry (byteAt bs 3) = some x.openB ∧
    readEntry (byteAt bs 4) = some (some x.closedA) ∧ readEntry (byteAt bs 5) = some x.closedB ∧
    x.c0 = be16 bs 6 ∧ x.c1 = be16 bs 8 ∧ (x.kind = .positioned → x.c0 ≤ 4095 ∧ x.c1 ≤ 4095) ∧
    x.openProfile = readProfile ((bs.drop 10).take 27) ∧ x.closeProfile = readProfile ((bs.drop 37).take 27) ∧
    x.openProfile.inRange = true ∧ x.closeProfile.inRange = true ∧
    os.map readTerm = x.openTerms.map some ∧ cs.map readTerm = x.closeTerms.map some) ∧
  (∀ (sec : RawSection) (o : OwnSection), (sec.role = .motion → sec.fns.length = 4) →
    (sec.role = .panelCommand → sec.fixed.length = 13) → (sec.role = .panelStop → sec.fixed.length = 3) →
    let q := o.panel
    readOwn sec = some o ↔
      o.role = sec.role ∧ sec.role ≠ .unused ∧
      sec.lamps.map (fun l => (l.on.map readTerm, l.flash.map readTerm)) =
        o.lamps.map (fun l => (l.on.map some, l.flash.map some)) ∧
      (if sec.role = .motion then natAt sec.fixed 0 = o.pumpStation.val ∧ ∀ f : FnId, match sec.fns[f.val]? with
          | some (.configured bs os cs) => (o.fns[f]).isSome = true ∧ o.fns[f] = readFnSetup bs os cs
          | _ => o.fns[f] = none
        else o.pumpStation = 0 ∧ ∀ f : FnId, o.fns[f] = none) ∧
      (if sec.role = .pump then o.unitsPerPump = natAt sec.fixed 0 ∧ o.runUpMs = be16 sec.fixed 1 ∧
          o.idleStopS = be16 sec.fixed 3 ∧ (1 ≤ o.unitsPerPump ∧ o.unitsPerPump ≤ 32) ∧
          (500 ≤ o.runUpMs ∧ o.runUpMs ≤ 10000) ∧ (5 ≤ o.idleStopS ∧ o.idleStopS ≤ 600)
        else o.unitsPerPump = 0 ∧ o.runUpMs = 0 ∧ o.idleStopS = 0) ∧
      (if sec.role = .panelCommand then sec.fixed.map readEntry = [some q.openB, some q.closeB, some q.stop, some q.reset,
          some q.commandKey, some q.maintKey, some q.underway, some q.jogOpen, some q.jogClose, some q.select0,
          some q.select1, some q.select2, some q.select3]
        else if sec.role = .panelStop then sec.fixed.map readEntry = [some q.stop, some q.reset, some q.underway] ∧
          q = { PanelInputs.blank with stop := q.stop, reset := q.reset, underway := q.underway }
        else q = PanelInputs.blank)) ∧
  ∀ (own : StationId) (h : Header) (body : List Byte),
    let w := walkFrom own 16 0 (body.drop 13)
    let fails := fun (e : LoadFault) => loadImage own h body = { ownRole := w.ownRole, result := .error e }
    (crc32 body ≠ h.fingerprint → loadImage own h body = { ownRole := none, result := .error .fingerprint }) ∧
    (crc32 body = h.fingerprint →
      (∀ e : LoadFault, w.result = .error e → (e = .format ∨ e = .range) ∧ fails e) ∧
      (∀ ss : List RawSection, w.result = .ok ss →
        let read := (ss[own.val]?).bind readOwn
        let timing := readTiming body
        let briefs := briefsOf ss
        (read = none ∨ timing.inRange = false → fails .range) ∧
        (∀ o : OwnSection, read = some o → timing.inRange = true →
          let spans := ∀ x ∈ o.configured, x.kind = .positioned → 500 ≤ apart x.c0 x.c1
          let references :=
            (∀ t ∈ o.terms,
              (t.station = own → o.role = .motion → ∀ f : FnId, t.selector.fn = some f → (o.fns[f]).isSome = true) ∧
              (∀ i : InputId, t.selector = .localInput i → t.station = own) ∧ (briefs[t.station]).role ≠ .unused ∧
              (t.station ≠ own → (briefs[t.station]).role ≠ .monitor)) ∧
            (∀ (f g : FnId) (n : StationId) (x : FnSetup), o.fns[f] = some x → x.pair = some (n, g) →
              x.kind = .positioned ∧ ¬(n = own ∧ g = f) ∧ (briefs[n]).kinds[g] = some .positioned ∧
              (briefs[n]).pairs[g] = some (own, f)) ∧
            (o.role = .motion → (briefs[o.pumpStation]).role = .pump)
          let subscribed := fun (n : StationId) => n ≠ own ∧ ((∃ t ∈ o.terms, t.station = n) ∨
            (∃ x ∈ o.configured, ∃ g : FnId, x.pair = some (n, g)) ∨ (o.role = .motion ∧ o.pumpStation = n) ∨
            (o.role = .pump ∧ (briefs[n]).role = .motion))
          let tooMany := ∃ ns : List StationId, ns.Nodup ∧ 8 < ns.length ∧ ∀ n ∈ ns, subscribed n
          o.role ≠ .unused ∧ (∀ x ∈ o.configured, x.openProfile.inRange = true ∧ x.closeProfile.inRange = true) ∧
          (¬spans → fails .calibration) ∧ (spans → ¬references → fails .terms) ∧
          (spans → references → tooMany → fails .subscription) ∧
          (spans → references → ¬tooMany → ∃ c : Setup,
            loadImage own h body = { ownRole := w.ownRole, result := .ok c } ∧ c.own = o ∧ c.timing = timing ∧
            c.fingerprint = h.fingerprint ∧ c.briefs = briefs ∧ c.subscription.Nodup ∧ c.subscription.length ≤ 8 ∧
            ∀ n : StationId, n ∈ c.subscription ↔ subscribed n))))

/-- JOIN_WINDOW_EXPIRY (R14, R90, R142): ACTIVE with RESTART_HOLD set, LONE clear, the flash timer in its lit half, STATUS
requested, a button armed exactly where it is accepted INACTIVE, a present stop cause in force as a trip of the station's
own, and no function out of REST. A MOTION station queues the TRIP of its first present cause, in the order stop loop, supply,
lowest function with STALL, SKEW or WRONG_DIRECTION (R55), or with none present but TRIP_ASSERTED set the TRIP last queued (R56);
no other role queues one. -/
def Obligations.JoinWindowEntersActive : Prop :=
  ∀ s : State, s.life = .joining → s.joinWindow.isSome = true →
    let armed := fun (e : Option InputId) => e.any (fun i => !s.accepted i)
    let p := s.cfg.own.panel
    ∃ t : State, Machine.exec .joinWindowExpiry s = .next t ∧
    Tripped { s with
      life := .active, joinWindow := none, loop := { s.loop with lone := false }
      unit := { s.unit with restartHold := true }, guard := { s.guard with flash := some .lit }
      panel := { s.panel with
        armOpen := armed p.openB, armClose := armed p.closeB, armStop := armed p.stop, armReset := armed p.reset,
        armJogOpen := armed p.jogOpen, armJogClose := armed p.jogClose, held := none } } t ∧
    (s.pub.inhibit = false → s.role = .motion ∨ s.role = .pump ∨ s.role = .panelCommand ∨ s.role = .panelStop →
      t.loop.status = statusRequest s.loop.status) ∧
    (s.field.stopLoopClosed = false → t.unit.tripAsserted = true ∧ t.unit.trips[s.station] = some .eStop) ∧
    (s.field.supplyOk = false → t.unit.tripAsserted = true ∧ (t.unit.trips[s.station]).isSome = true) ∧
    (∀ f : FnId, (s.fns[f]).motion = .rest → (t.fns[f]).motion = .rest ∨ (t.fns[f]).motion = .heldFault) ∧
    (s.role ≠ .motion → t.loop.trip = s.loop.trip) ∧
    (s.role = .motion → (∀ f : FnId, (s.fns[f]).motion.claims = false) →
      let queued := fun (r : TripReason) => t.loop.trip = s.loop.trip.request r ∧ t.unit.lastTrip = some r
      let raises := fun (f : FnId) => (s.fns[f]).fault = .stall ∨ (s.fns[f]).fault = .skew ∨ (s.fns[f]).fault = .wrongDirection
      (s.field.stopLoopClosed = false → queued .stopLoopOpen) ∧
      (s.field.stopLoopClosed = true → s.field.supplyOk = false → queued .fieldSupplyLow) ∧
      (s.field.stopLoopClosed = true → s.field.supplyOk = true →
        (∀ f : FnId, raises f → (∀ h : FnId, h < f → ¬raises h) → queued (.functionFault f) ∧ t.unit.tripAsserted = true) ∧
        ((∀ f : FnId, ¬raises f) → t.unit.tripAsserted = s.unit.tripAsserted ∧
          (∀ r : TripReason, s.unit.tripAsserted = true → s.unit.lastTrip = some r → queued r) ∧
          (s.unit.tripAsserted = false ∨ s.unit.lastTrip = none → t.loop.trip = s.loop.trip))))

/-- WITHDRAWN_IDLE_TIMEOUT (R13, R16, R52): a WITHDRAWN station whose line is IDLE rejoins. -/
def Obligations.IdleTimeoutRejoins : Prop :=
  ∀ s : State, s.life = .withdrawn → s.loop.line = some .idle →
    Machine.exec .withdrawnIdleTimeout s = .next (State.finish { s with
      life := .joining, joinWindow := none, goodFrames := 0
      loop := { s.loop with line := some .busy, idleRule := .join, follow := .nothing, aborts := 0, unheard := 0,
                            announce := announceRequest true s.loop.idBegun s.loop.announce }
      pub := { s.pub with lastSent := none, refresh := none, inhibitTimer := none, deferred := false,
                          inhibit := false } })

/-! ## The line (chapter 2) -/

/-- LINE_BUSY, LINE_IDLE, LINE_STUCK, STUCK_END, SEND_WAIT_END (R12, R18, R19, R29, R33, R35): an edge on an IDLE line makes it
BUSY and leaves the wait after an own send in force (log entry 13); the counts of recessive bit times that make it IDLE are 24
after joining (log entry 12), 10 without a frame, 8 after a frame or STUCK; a dominant run of more than 40 whole bit times (log
entry 10) makes it STUCK, ends what was followed and aborts a send in flight, and one recessive bit time ends STUCK; 12 end the
wait. The first IDLE of CONFIG_FAULT queues its ANNOUNCE (log entry 24). -/
def Obligations.LineStateFollowsDurations : Prop :=
  (∀ s : State, s.follows = true → s.loop.line = some .idle →
    Machine.exec .lineBusy s = .next (State.finish { s with
      loop := { s.loop with line := some .busy, idleRule := .noFrame, follow := .run s.loop.wait, heardSlot := none } })) ∧
  (∀ (ticks : Nat) (s : State), s.follows = true → s.loop.line = some .busy → s.loop.send = none →
    s.loop.follow = .nothing →
    let bits := match s.loop.idleRule with
      | .join => 24
      | .noFrame => 10
      | .endGap => 8
      | .afterStuck => 8
    Machine.exec (.lineIdle ticks) s = .next (State.finish
      (if bits * s.bt ≤ ticks then { s with loop := { s.loop with
        line := some .idle, idleRule := .noFrame
        announce := if s.life = .configFault ∧ s.loop.idleRule = .join then
          announceRequest false s.loop.idBegun s.loop.announce else s.loop.announce } }
      else s))) ∧
  (∀ (ticks : Nat) (s : State), s.follows = true → s.loop.line = some .idle ∨ s.loop.line = some .busy →
    41 * s.bt ≤ ticks →
    (s.loop.send = none → Machine.exec (.lineStuck ticks) s = .next (State.finish { s with loop := { s.loop with
      line := some .stuck, follow := .nothing, heardSlot := none } })) ∧
    (∀ m : Send, s.loop.send = some m → ∃ t : State, Machine.exec (.lineStuck ticks) s = .next t ∧
      t.loop.line = some .stuck ∧ t.loop.follow = .nothing ∧ t.loop.send = none ∧
      t.loop.aborts = min (s.loop.aborts + 1) 8 ∧ t.loop.unheard = s.loop.unheard ∧
      (s.loop.aborts < 7 → t.loop.wait = s.loop.wait) ∧ t.image = s.image ∧ t.field = s.field)) ∧
  (∀ (ticks : Nat) (s : State), s.follows = true → s.loop.line = some .stuck →
    Machine.exec (.stuckEnd ticks) s = .next (State.finish
      (if s.bt ≤ ticks then { s with loop := { s.loop with
        line := some .busy, idleRule := if s.loop.idleRule = .join then .join else .afterStuck } }
      else s))) ∧
  (∀ (ticks : Nat) (s : State), s.loop.wait = true →
    Machine.exec (.sendWaitEnd ticks) s = .next (State.finish
      (if 12 * s.bt ≤ ticks then { s with loop := { s.loop with wait := false } } else s)))

/-- FRAME_DROPPED, UNDELIVERED_GOOD_FRAME, and frames that are not well-formed or do not fit (R16, R18, R23, R25, R26, R29, R39,
R60): a dropped frame leaves the no-frame case, and ends the wait after an own send only where its start mark was accepted (log
entry 13); a good frame that is not delivered has its heard slot driven in JOINING and ACTIVE, counts in WITHDRAWN, and changes
nothing more; in CONFIG_FAULT, where nothing is delivered, every good frame so ends, a frame of kind 0 to 3 from another station
by its arrival command too (log entry 49); a delivered frame that is not well-formed (log entry 22), and a STATUS that does not
fit its sender's section role, leave their end on the line only. -/
def Obligations.FramesWithoutEffectEnd : Prop :=
  (∀ (w : Wave) (r : DropReason) (s : State), receive s.bitRate w = .dropped r → s.follows = true → s.loop.send = none →
    Machine.exec (.frameDropped w) s = .next (State.finish { s with loop := { s.loop with
      line := if s.loop.line = some .stuck then some .stuck else some .busy
      idleRule := if s.loop.idleRule = .join then .join else .noFrame
      follow := .nothing, wait := s.loop.wait && (r == .shortMark || r == .longMark), heardSlot := none } })) ∧
  (∀ (w : Wave) (g : Frame) (s : State), s.hears w = some g →
    4 ≤ g.kind ∨ g.station = s.station ∨ s.life = .configFault →
    let heard : State := { s with loop := { s.loop with
      line := some .busy, idleRule := if s.loop.idleRule = .join then .join else .endGap, follow := .nothing, wait := false
      heardSlot := if s.life = .joining ∨ s.life = .active then heardAt s.bitRate w else none } }
    Machine.exec (.undeliveredGoodFrame w) s = .next (State.finish
      (if s.life = .withdrawn then
        (if s.goodFrames + 1 < 16 then { heard with goodFrames := s.goodFrames + 1 } else heard.enterJoining)
      else heard))) ∧
  (∀ (w : Wave) (g : Frame) (s : State), s.life = .configFault → s.hears w = some g → g.station ≠ s.station →
    (g.kind = 0 → Machine.exec (.tripArrival w) s = .next (s.frameEnd w).finish) ∧
    (g.kind = 1 → Machine.exec (.intentArrival w) s = .next (s.frameEnd w).finish) ∧
    (g.kind = 2 → Machine.exec (.statusArrival w) s = .next (s.frameEnd w).finish) ∧
    (g.kind = 3 → Machine.exec (.announceArrival w) s = .next (s.frameEnd w).finish)) ∧
  (∀ (w : Wave) (g : Frame) (s : State), s.life = .joining ∨ s.life = .active → s.hears w = some g →
    g.station ≠ s.station →
    (g.kind = 0 → decodeTrip g.data = none → Machine.exec (.tripArrival w) s = .next (s.frameEnd w).finish) ∧
    (g.kind = 1 → decodeIntent g.data = none → Machine.exec (.intentArrival w) s = .next (s.frameEnd w).finish) ∧
    (g.kind = 2 → decodeStatus g.data = none → Machine.exec (.statusArrival w) s = .next (s.frameEnd w).finish) ∧
    (∀ (b : Byte) (r : Record), g.kind = 2 → decodeStatus g.data = some (b, r) →
      r.fits (s.cfg.briefs[g.station]).role = false → Machine.exec (.statusArrival w) s = .next (s.frameEnd w).finish) ∧
    (g.kind = 3 → decodeAnnounce g.data = none → Machine.exec (.announceArrival w) s = .next (s.frameEnd w).finish)) ∧
  (∀ r : Record, r.fits .unused = false ∧ r.fits .monitor = false ∧
    (r.fits .motion = true ↔ ∃ fns, r = .motion fns) ∧ (r.fits .pump = true ↔ ∃ a b c gs, r = .pump a b c gs) ∧
    (r.fits .panelCommand = true ↔ ∃ u c m n f, r = .panel u c m n f) ∧
    (r.fits .panelStop = true ↔ ∃ u c m n f, r = .panel u c m n f))

/-! ## Arrivals (chapters 3, 4 and 9) -/

/-- STATUS_ARRIVAL (R54, R59 to R64, R154): what a well-formed STATUS that fits its sender's section does to the sender's
entry, by the state of that entry, to the trip that the sender had raised, and to nothing else but what a change notice
may cause. A repeat of what a FRESH entry holds restarts its age timer and is checked against the trip list; where that check
removes nothing, no more follows than an evaluation of the guards may cause, and nothing at all where the guard results are
those of the present state and nothing reacts to them (R63). -/
def Obligations.StatusArrivalUpdatesEntry : Prop :=
  ∀ (w : Wave) (g : Frame) (b : Byte) (r : Record) (s : State), s.life = .joining ∨ s.life = .active →
    s.hears w = some g → g.kind = 2 → g.station ≠ s.station → decodeStatus g.data = some (b, r) →
    r.fits (s.cfg.briefs[g.station]).role = true →
    let n := g.station
    let e := s.image[n]
    let fresh : Entry := { e with
      state := .fresh, age := some s.timing.stale, byte := some b
      record := if s.cfg.subscription.contains n then some r else none }
    let trips := if s.unit.resetWindow.isSome = true ∧ b.getLsbD 6 = false then s.unit.trips.set n none else s.unit.trips
    ∃ t : State, Machine.exec (.statusArrival w) s = .next t ∧
    (e.state = .absent ∨ e.state = .unverified → t = State.finish { s.frameEnd w with
      image := s.image.set n { e with state := .unverified, age := some s.timing.stale }
      loop := { (s.frameEnd w).loop with announce := announceRequest true s.loop.idBegun s.loop.announce } }) ∧
    (e.state = .known ∨ e.state = .stale ∨ e.state = .fresh →
      Noticed { s.frameEnd w with image := s.image.set n fresh, unit := { s.unit with trips := trips } } t) ∧
    (e.state = .fresh → e.byte = fresh.byte → e.record = fresh.record → trips = s.unit.trips →
      let base := { s.frameEnd w with image := s.image.set n { e with age := some s.timing.stale } }
      Settled base t ∧ ((s.isActive = true → s.guard = s.guardNow ∧ Calm base) → t = base.finish)) ∧
    (e.state = .foreign → t = (s.frameEnd w).finish)

/-- ANNOUNCE_ARRIVAL (R54, R65, R66): the sender is judged by its CONFIG_FAULT flag, fingerprint and role; the entry is KNOWN
or FOREIGN with nothing else kept, its role the frame's (log entry 40); an ASK is answered in JOINING and ACTIVE, but none of a
frame with CONFIG_FAULT set (log entry 39). -/
def Obligations.AnnounceArrivalJudgesSender : Prop :=
  ∀ (w : Wave) (g : Frame) (a : AnnounceFrame) (s : State), s.life = .joining ∨ s.life = .active →
    s.hears w = some g → g.kind = 3 → g.station ≠ s.station → decodeAnnounce g.data = some a →
    let n := g.station
    let refused := a.configFault = true ∨ a.fingerprint ≠ s.cfg.fingerprint ∨ a.role ≠ (s.cfg.briefs[n]).role
    ∃ t : State, Machine.exec (.announceArrival w) s = .next t ∧
    ∃ e : Entry, (refused → e.state = .foreign ∧ e.fpMatch = .refused) ∧ (¬refused → e.state = .known ∧ e.fpMatch = .matched) ∧
      e.role = some a.role ∧ e.age = none ∧ e.byte = none ∧ e.record = none ∧
      Noticed { s.frameEnd w with
        image := s.image.set n e
        loop := { (s.frameEnd w).loop with
          announce := if a.ask = true ∧ a.configFault = false then announceRequest false s.loop.idBegun s.loop.announce
            else s.loop.announce } } t

/-- INTENT_ARRIVAL (R147, R149, R150): an INTENT is ignored unless the sender's entry is FRESH and its role allows the kind, so
also where the entry, as in ABSENT and UNVERIFIED, has no role; OPEN and SINGLE of a panel under way become STOP; RELEASE
removes the entry; the guards are then evaluated with the effective intent that results. RESET leaves the table, starts the
reset window and in ACTIVE ends RESTART_HOLD. -/
def Obligations.IntentArrivalEntersTable : Prop :=
  ∀ (w : Wave) (g : Frame) (i : IntentFrame) (s : State), s.life = .joining ∨ s.life = .active →
    s.hears w = some g → g.kind = 1 → g.station ≠ s.station → decodeIntent g.data = some i →
    let n := g.station
    let accepted := (s.image[n]).state = .fresh ∧ ((s.image[n]).role = some .panelCommand ∨
      ((s.image[n]).role = some .panelStop ∧ (i.kind = .release ∨ i.kind = .stop ∨ i.kind = .reset)))
    let k : IntentKind := match i.underway, i.kind with
      | true, .toOpen => .stop
      | true, .single _ _ _ => .stop
      | _, k => k
    let entry : Option IntentEntry := if i.kind = .release then none else some { kind := k, lease := some s.timing.intentLease }
    ∃ t : State, Machine.exec (.intentArrival w) s = .next t ∧
    (¬accepted → t = (s.frameEnd w).finish) ∧
    (accepted → i.kind ≠ .reset → ∃ u : IntentTrip, u = { s.unit with
        table := s.unit.table.set n entry, effective := u.effective } ∧ u.effective = effectiveOf u.kinds ∧
      t = (State.settle { s.frameEnd w with unit := u }).finish ∧ Settled { s.frameEnd w with unit := u } t) ∧
    (accepted → i.kind = .reset → t.unit.table = s.unit.table ∧ t.unit.effective = s.unit.effective ∧
      t.unit.resetWindow = some s.timing.intentLease ∧ t.image = s.image ∧
      t.unit.restartHold = (s.unit.restartHold && s.life == .joining))

/-- A RESET arrival by INTENT_ARRIVAL (R126, R150, R153, R154, R158): a function in HELD_FAULT or REST loses a latched code whose
cause is gone, and takes TRANSDUCER, or else SENSOR_DISAGREE, where that condition holds; TRIP_ASSERTED ends in ACTIVE where
the stop loop is CLOSED, the supply OK and no function is left with a latched code; the trip of every originator that is FRESH
with TRIP_ASSERTED clear leaves; a TRIPPED pump whose overload input is INACTIVE leaves TRIPPED, for STARTING where the grant
computation of the same arrival starts it (log entry 46). -/
def Obligations.ResetArrivalClears : Prop :=
  ∀ (w : Wave) (s : State), MotionLaws s → ResetArrives (.intentArrival w) s →
    ∃ t : State, Machine.exec (.intentArrival w) s = .next t ∧
    (∀ f : FnId, (s.fns[f]).motion = .heldFault ∨ (s.fns[f]).motion = .rest → (s.fns[f]).fault.latched = true →
      let c := (s.fns[f]).fault
      let gone := (c = .sensorDisagree → s.disagreed f = false) ∧ (c = .transducer → s.outOfBand f = false)
      (¬gone → t.fns[f] = s.fns[f]) ∧
      (gone → s.outOfBand f = true → (t.fns[f]).fault = .transducer ∧ (t.field.fns[f]).position = 1023) ∧
      (gone → s.outOfBand f = false → s.disagreed f = true → (t.fns[f]).fault = .sensorDisagree) ∧
      (gone → s.outOfBand f = true ∨ s.disagreed f = true → s.isActive = true → (t.fns[f]).motion = .heldFault) ∧
      (gone → s.outOfBand f = false → s.disagreed f = false → (t.fns[f]).fault = .none ∧
        ((t.fns[f]).motion = .rest ∨ (t.fns[f]).motion = .awaitFlow) ∧ (s.isActive = false → (t.fns[f]).motion = .rest)) ∧
      (∀ p : Int, gone → c = .transducer → (s.field.fns[f]).lastRaw = some p →
        (t.field.fns[f]).position = min p.toNat 1000)) ∧
    (∀ f : FnId, (s.fns[f]).fault ≠ .transducer → s.outOfBand f = false → t.field.fns[f] = s.field.fns[f]) ∧
    t.unit.tripAsserted = (s.unit.tripAsserted && !(s.isActive && s.field.stopLoopClosed && s.field.supplyOk && !t.anyLatched)) ∧
    (∀ n : StationId, n ≠ s.station → t.unit.trips[n] =
      if (s.image[n]).state = .fresh ∧ ((s.image[n]).byte.any (fun b => !b.getLsbD 6)) = true then none
      else s.unit.trips[n]) ∧
    t.unit.trips[s.station] = (if s.isActive = true ∧ t.unit.tripAsserted = false then none else s.unit.trips[s.station]) ∧
    (∀ (p : PumpId) (i : InputId), i = (match p with
        | .a => 1
        | .b => 3) →
      ((s.flow.pump p).state = .tripped → (s.field.di[i]).accepted = some false →
        (t.flow.pump p).state = .off ∨ (t.flow.pump p).state = .starting) ∧
      ((s.flow.pump p).state = .tripped → (s.field.di[i]).accepted ≠ some false → t.flow.pump p = s.flow.pump p) ∧
      ((s.flow.pump p).state = .running ∨ (s.flow.pump p).state = .starting → t.flow.pump p = s.flow.pump p))

/-- TRIP_ARRIVAL (R114, R120, R123, R151, R155): the originator's entry by the table of R151, whatever the sender's image entry,
and no other entry; an E_STOP gained leaves every output off and no function moving, and at a PUMP station, by the closing of its
gate, every STARTING or RUNNING machine OFF (R159); a C_STOP gained returns AWAIT_FLOW to REST
without a fault, takes PRESSURISE, TRAVEL and CREEP to STOPPING with STOPPED, or to REST where the level is 0, and leaves every
other function as it was. -/
def Obligations.TripArrivalStops : Prop :=
  ∀ (w : Wave) (g : Frame) (r : TripReason) (s : State), s.life = .joining ∨ s.life = .active →
    s.hears w = some g → g.kind = 0 → g.station ≠ s.station → decodeTrip g.data = some r →
    let n := g.station
    let held := s.unit.trips[n]
    let entry := if held = some .eStop ∨ r = .stopLoopOpen then StopClass.eStop else .cStop
    ∃ t : State, Machine.exec (.tripArrival w) s = .next t ∧
    Noticed { s.frameEnd w with unit := { s.unit with trips := s.unit.trips.set n (some entry) } } t ∧
    (held ≠ some .eStop → r = .stopLoopOpen → OutputsOff t ∧
      ∀ f : FnId, (t.fns[f]).motion.claims = false ∧ t.drive[f] = Drive.off ∧
        ((s.fns[f]).motion.moving = true → (s.fns[f]).fault.latched = false →
          (t.fns[f]).motion = .rest ∧ (t.fns[f]).fault = .stopped)) ∧
    (held ≠ some .eStop → r = .stopLoopOpen → s.role = .pump → s.gateOpen = true → PumpsStopped s t) ∧
    (held = none → r ≠ .stopLoopOpen → ∀ f : FnId,
      let x := s.fns[f]
      let idle := { x.quiet with motion := .rest, target := none, released := s.grantGone f }
      let stopped := if (s.drive[f]).level = 0 then { idle with fault := .stopped }
        else { x.quiet with motion := .stopping, fault := .stopped }
      t.fns[f] = match x.motion with
        | .awaitFlow => idle
        | .pressurise => stopped
        | .travel => stopped
        | .creep => stopped
        | _ => x)

/-- Arrivals in WITHDRAWN (R15, R16, R25, R37): nothing is queued, no heard slot is driven, no guard result changes, and every
frame counts; the sixteenth takes the station to JOINING with an ANNOUNCE with ASK queued and the publisher's timers clear (R13,
R52). Each kind is absorbed as in ACTIVE: a STATUS by the state of its entry (R61 to R63), an ANNOUNCE by its judgement (R65), an
INTENT of a FRESH sender whose role allows it into the table, or as a RESET arrival (R147, R150), and a TRIP into the trip list
(R151). That a refused ANNOUNCE sets the role of the entry is the model's choice (log entry 40), and that the join count stays at
the end of a frame is read from the rules (log entry 12, DEDUCED). -/
def Obligations.WithdrawnAbsorbsAndCounts : Prop :=
  ∀ (w : Wave) (g : Frame) (s : State), s.life = .withdrawn → s.hears w = some g → g.station ≠ s.station →
    let n := g.station
    let e := s.image[n]
    let rejoined := fun (u : State) => { u with
      life := .joining, joinWindow := none, goodFrames := 0
      loop := { u.loop with line := some .busy, idleRule := .join, follow := .nothing, aborts := 0, unheard := 0,
                            announce := announceRequest true u.loop.idBegun u.loop.announce }
      pub := { u.pub with lastSent := none, refresh := none, inhibitTimer := none, deferred := false, inhibit := false } }
    let counted := fun (c : Instr) (u : State) =>
      u.life = .withdrawn ∧ u.loop = { s.loop with
          line := some .busy, idleRule := if s.loop.idleRule = .join then .join else .endGap, follow := .nothing
          wait := false, heardSlot := none } ∧
        u.pub = s.pub ∧ u.guard = s.guard ∧ u.panel = s.panel ∧ u.unit.restartHold = s.unit.restartHold ∧
        u.unit.tripAsserted = s.unit.tripAsserted ∧
        Machine.exec c s = .next (State.finish
          (if s.goodFrames + 1 < 16 then { u with goodFrames := s.goodFrames + 1 } else rejoined u))
    (g.kind = 2 → ∃ u : State, counted (.statusArrival w) u ∧
      ∀ (b : Byte) (r : Record), decodeStatus g.data = some (b, r) → r.fits (s.cfg.briefs[n]).role = true →
        u.image = s.image.set n (match e.state with
          | .absent => { e with state := .unverified, age := some s.timing.stale }
          | .unverified => { e with state := .unverified, age := some s.timing.stale }
          | .foreign => e
          | _ => { e with state := .fresh, age := some s.timing.stale, byte := some b
                          record := if s.cfg.subscription.contains n then some r else none })) ∧
    (g.kind = 3 → ∃ u : State, counted (.announceArrival w) u ∧ ∀ a : AnnounceFrame, decodeAnnounce g.data = some a →
      let refused := a.configFault = true ∨ a.fingerprint ≠ s.cfg.fingerprint ∨ a.role ≠ (s.cfg.briefs[n]).role
      ∃ x : Entry, u.image = s.image.set n x ∧ x.role = some a.role ∧ x.age = none ∧ x.byte = none ∧ x.record = none ∧
        (refused → x.state = .foreign ∧ x.fpMatch = .refused) ∧ (¬refused → x.state = .known ∧ x.fpMatch = .matched)) ∧
    (g.kind = 1 → ∃ u : State, counted (.intentArrival w) u ∧ u.image = s.image ∧
      (e.state ≠ .fresh → u.unit = s.unit) ∧
      ∀ (i : IntentFrame) (r : Role), decodeIntent g.data = some i → e.state = .fresh → e.role = some r →
        r.allows i.kind = true →
        (i.kind = .reset → u.unit.table = s.unit.table ∧ u.unit.resetWindow = some s.timing.intentLease) ∧
        (i.kind = .release → u.unit.table = s.unit.table.set n none) ∧
        (i.kind.repeats = true → u.unit.table = s.unit.table.set n
          (some { kind := i.entered, lease := some s.timing.intentLease }))) ∧
    (g.kind = 0 → ∃ u : State, counted (.tripArrival w) u ∧ u.image = s.image ∧
      ∀ r : TripReason, decodeTrip g.data = some r → u.unit.trips = s.unit.trips.set n
        (some (if s.unit.trips[n] = some .eStop ∨ r = .stopLoopOpen then StopClass.eStop else .cStop)))

/-! ## Own sends (chapter 2) -/

/-- SEND_START and LATE_START (R28, R29, R30): the lowest kind that waits goes IN_FLIGHT, alone; a mark started at once is driven
for 12 bit times, a late one until 12 bit times after the edge that was seen. A late start needs a moment within one bit time
of the edge, and a station that was free at the edge or became free since: after the edge where the wait or the line, BUSY
before the edge, still held it, and never under a wait on a line that was BUSY (log entry 14). -/
def Obligations.StartTakesLowestKind : Prop :=
  (∀ (s : State) (k : FrameKind), s.maySend = true → s.loop.send = none →
    k = (if s.loop.trip.isWaiting then .trip else if s.loop.intent.isWaiting then .intent
      else if s.loop.status.isWaiting then .status else .announce) →
    (k = .announce → s.loop.announce.isWaiting = true) →
    let started := fun (mark : Nat) (t : State) => ∃ m : Send, t.loop.send = some m ∧ m.kind = k ∧ m.markTicks = mark ∧
      m.idBegun = false ∧
      (t.loop.trip.isInFlight = (k == .trip) ∧ t.loop.intent.isInFlight = (k == .intent) ∧
        t.loop.status.isInFlight = (k == .status) ∧ t.loop.announce.isInFlight = (k == .announce)) ∧
      ((∀ c, s.loop.trip = .waiting c → k = .trip → t.loop.trip = .inFlight c none ∧ m.data = c.encode) ∧
        (∀ c, s.loop.intent = .waiting c → k = .intent → t.loop.intent = .inFlight c none ∧ m.data = c.encode)) ∧
      (k ≠ .trip → t.loop.trip = s.loop.trip) ∧ (k ≠ .intent → t.loop.intent = s.loop.intent) ∧
      (k ≠ .status → t.loop.status = s.loop.status) ∧ (k ≠ .announce → t.loop.announce = s.loop.announce) ∧
      t = State.finish { s with loop := t.loop } ∧ t.loop.aborts = s.loop.aborts ∧ t.loop.unheard = s.loop.unheard ∧
      t.loop.line = some .busy ∧ t.loop.follow = .frame ∧ t.loop.wait = false
    (s.loop.trip.isInFlight = false ∧ s.loop.intent.isInFlight = false ∧ s.loop.status.isInFlight = false ∧
      s.loop.announce.isInFlight = false) →
    (s.loop.line = some .idle → s.loop.wait = false → ∃ t : State, Machine.exec .sendStart s = .next t ∧
      started (12 * s.bt) t) ∧
    (∀ since free : Nat, s.loop.line = some .busy → free ≤ since → since < s.bt →
      (s.loop.follow = .run false ∨ (s.loop.follow = .run true ∧ 0 < free) ∨
        (s.loop.follow = .nothing ∧ s.loop.wait = false ∧ 0 < free)) →
      ∃ t : State, Machine.exec (.lateStart since free) s = .next t ∧ started (12 * s.bt - since) t)) ∧
  (∀ (s : State) (since free : Nat), s.loop.line ≠ some .busy ∨ s.bt ≤ since ∨ s.loop.follow = .frame ∨
      (s.loop.follow = .run true ∧ free = 0) ∨ (s.loop.follow = .nothing ∧ (s.loop.wait = true ∨ free = 0)) →
    Machine.exec (.lateStart since free) s = .next s.finish) ∧
  (∀ s : State, s.loop.line ≠ some .idle ∨ s.loop.wait = true → Machine.exec .sendStart s = .next s.finish)

/-- ID_CELL_START (R12, R23, R31, R40 to R44, R47, R49, R50, R53): HEADER and CRC are fixed over the content of this moment; a
STATUS takes the next edition exactly where its bytes differ from the last-sent copy, every other kind edition 0, and its
inhibit comes into force. The content, in the bit places of section 3.5: the station byte has ACTIVE, TRIP_ASSERTED,
STOP_LOOP_CLOSED, FIELD_SUPPLY_OK, LONE, RESTART_HOLD and the reset cause; a MOTION STATUS the four function records, whose claim
units and priority are those of the profile of the direction of movement from AWAIT_FLOW to STOPPING and else 0; a PUMP STATUS the
two machines, the capacity and the grants in their order; a panel STATUS its three flags and its selection; an ANNOUNCE the role,
the fingerprint, the cause and its flags, in CONFIG_FAULT those of the failed load with ASK clear. -/
def Obligations.IdCellFixesContent : Prop :=
  (∀ s : State, let b := s.stationByte
    let cause := ([.powerOn, .pin, .supplyDip] : List ResetCause).idxOf s.resetCause
    (b.getLsbD 7 = true ↔ s.life = .active) ∧ b.getLsbD 6 = s.unit.tripAsserted ∧
    b.getLsbD 5 = s.field.stopLoopClosed ∧ b.getLsbD 4 = s.field.supplyOk ∧ b.getLsbD 3 = s.loop.lone ∧
    b.getLsbD 2 = s.unit.restartHold ∧ b.toNat % 4 = cause ∧
    (s.role = .motion → s.statusData.length = 17 ∧ s.statusData.take 1 = [b] ∧ ∀ f : FnId,
      let x := s.fns[f]
      let y := s.field.fns[f]
      let claims := x.motion = .awaitFlow ∨ x.motion = .pressurise ∨ x.motion = .travel ∨ x.motion = .creep ∨
        x.motion = .seat ∨ x.motion = .stopping
      let motion := ([.none, .rest, .awaitFlow, .pressurise, .travel, .creep, .seat, .stopping, .heldFault] :
        List Motion).idxOf x.motion
      let endState := ([.atClosed, .atOpen, .between, .unknown] : List EndState).idxOf y.endState
      let fault := ([.none, .holdLost, .grantLost, .peerLost, .stopped, .strokeTimeout, .stall, .noPressure, .noFlow,
        .sensorDisagree, .transducer, .skew, .wrongDirection, .endLost] : List FaultCode).idxOf x.fault
      let shows := fun (units priority : Nat) => (s.statusData.drop (1 + 4 * f.val)).take 4 =
        [BitVec.ofNat 8 (motion * 16 + endState * 4 + priority), BitVec.ofNat 8 (fault * 16 + (s.guard.fns[f]).blocking),
          BitVec.ofNat 8 (units * 4 + y.position / 256), BitVec.ofNat 8 (y.position % 256)]
      (¬claims → shows 0 0) ∧
      (∀ c : FnSetup, claims → s.fnSetup f = some c →
        (x.target = some .toOpen → shows c.openProfile.claimUnits c.openProfile.claimPriority) ∧
        (x.target = some .toClose → shows c.closeProfile.claimUnits c.closeProfile.claimPriority))) ∧
    (s.role = .pump → s.flow.grants.length ≤ 8 →
      let state := fun (m : Pump) => ([.off, .starting, .running, .tripped] : List PumpState).idxOf m.state
      s.statusData.length = 12 ∧ s.statusData = b :: BitVec.ofNat 8 (state s.flow.a * 4 + state s.flow.b) ::
        BitVec.ofNat 8 s.flow.capacity :: BitVec.ofNat 8 s.flow.grants.length ::
        (s.flow.grants.map (fun g => BitVec.ofNat 8 (128 + 4 * g.1.val + g.2.val)) ++
          List.replicate (8 - s.flow.grants.length) 0)) ∧
    (s.isPanel = true →
      let p := s.cfg.own.panel
      let on := fun (e : Option InputId) => (e.any (fun i => (s.field.di[i]).accepted == some true)).toNat
      s.statusData = [b, BitVec.ofNat 8 (128 * on p.underway + 64 * on p.commandKey + 32 * on p.maintKey),
        s.panel.selection.elim 0 (fun g => BitVec.ofNat 8 (4 * g.1.val + g.2.val))]) ∧
    (∀ ask : Bool,
      let code := fun (r : Role) => BitVec.ofNat 8 (([.unused, .motion, .pump, .panelCommand, .panelStop, .monitor] :
        List Role).idxOf r)
      let cls := ([.none, .format, .fingerprint, .range, .calibration, .terms, .subscription] :
        List LoadFault).idxOf s.report.cls
      let content := fun (r : Role) (fp : BitVec 32) (flags : Nat) => (s.announceFrame ask).encode = [code r,
        fp.extractLsb' 24 8, fp.extractLsb' 16 8, fp.extractLsb' 8 8, fp.extractLsb' 0 8, BitVec.ofNat 8 cause,
        BitVec.ofNat 8 flags]
      (s.life = .configFault → content s.report.role s.report.fingerprint (64 + cls)) ∧
      (s.life ≠ .configFault → content s.role s.cfg.fingerprint (if ask then 128 else 0))) ∧
    (∀ (ask : Bool) (successor : Option Bool), s.loop.announce = .inFlight ask successor → s.loop.askInFlight = ask)) ∧
  ∀ (s : State) (m : Send), s.loop.send = some m → m.idBegun = false →
    let data : List Byte := match m.kind with
      | .status => s.statusData
      | .announce => (s.announceFrame s.loop.askInFlight).encode
      | _ => m.data
    let edition : Nat := if m.kind = .status then
      (if s.pub.lastSent = some data then s.pub.edition.toNat else (s.pub.edition.toNat + 1) % 8) else 0
    let covered := byte (m.kind.code * 16 + s.station.val) :: byte (edition * 32 + data.length) :: data
    Machine.exec .idCellStart s = .next (State.finish { s with
      loop := { s.loop with send := some { m with idBegun := true, edition := edition, data := data,
                                                  bytes := covered ++ crc16Cells covered } }
      pub := { s.pub with inhibit := s.pub.inhibit || m.kind == .status } })

/-- ARBITRATION_LOSS and SEND_ABORT (R12, R27, R32, R33, R35, R49): the frame goes back to WAITING, with its successor's content where
it has one, and a STATUS from its ID cell on ends its inhibit and clears the deferred flag. A loss comes at an ID data bit
driven recessive and leaves the counts, LONE and the wait; an abort adds one to the abort count, and short of the eighth nothing
else changes but, at STUCK, the line. In CONFIG_FAULT the count stops at 8, and the eighth abort, and any after it, does the same
and no more (R12). -/
def Obligations.LossAndAbortReturnFrame : Prop :=
  (∀ (j : Fin 8) (s : State) (m : Send), s.loop.send = some m → m.idBegun = true →
    (byte (m.kind.code * 16 + s.station.val)).getLsbD (7 - j.val) = true →
    Machine.exec (.arbitrationLoss j) s = .next (State.finish { s with
      loop := { s.loop with
        trip := s.loop.trip.returned, intent := s.loop.intent.returned, status := s.loop.status.returned
        announce := s.loop.announce.returned, send := none, follow := .frame }
      pub := if m.kind = .status then { s.pub with inhibit := false, deferred := false } else s.pub })) ∧
  (∀ c d : TripReason, (Slot.inFlight c none).returned = .waiting c ∧ (Slot.inFlight c (some d)).returned = .waiting d) ∧
  (∀ (cause : AbortCause) (s : State) (m : Send), s.loop.send = some m → s.loop.aborts < 7 ∨ s.life = .configFault →
    (cause = .bitError ∧ m.idBegun = true) ∨ (∃ r, cause = .selfDrop r ∧ r ≠ .length ∧ r ≠ .crc ∧ m.idBegun = false) ∨
      cause = .stuck →
    ∃ t : State, Machine.exec (.sendAbort cause) s = .next t ∧
      t = State.finish { s with loop := t.loop, pub :=
        if m.kind = .status ∧ m.idBegun = true then { s.pub with inhibit := false, deferred := false } else s.pub } ∧
      t.loop.trip = s.loop.trip.returned ∧ t.loop.intent = s.loop.intent.returned ∧
      t.loop.status = s.loop.status.returned ∧ t.loop.announce = s.loop.announce.returned ∧ t.loop.send = none ∧
      t.loop.aborts = min (s.loop.aborts + 1) 8 ∧ t.loop.unheard = s.loop.unheard ∧ t.loop.lone = s.loop.lone ∧
      t.loop.wait = s.loop.wait ∧ t.life = s.life ∧
      (cause = .stuck → t.loop.line = some .stuck ∧ t.loop.follow = .nothing) ∧
      (cause ≠ .stuck → t.loop.line = s.loop.line))

/-- The eighth abort in a row, by a bit error, a drop of the own frame before its ID cell or STUCK, withdraws a JOINING or ACTIVE
station (R15, R33, R35, R36, R52, R88, R156): nothing is pending, no function holds a claim or an output, the arbiter is as after
a reset; every permit is false, every hold cause none, every mode NORMAL, every blocking term 15, every lamp OFF and the flash
timer stopped, while the values of the terms and the pair terms stay as last computed, which R88 does not say (log entry 41); a
function that moved shows STOPPED unless it held a latched code, any other keeps its code; RESTART_HOLD, TRIP_ASSERTED, the
edition, the image, the field inputs and the intent table stay. -/
def Obligations.EighthAbortWithdraws : Prop :=
  ∀ (cause : AbortCause) (s : State) (m : Send), s.loop.send = some m → s.loop.aborts = 7 →
    s.life = .joining ∨ s.life = .active →
    (cause = .bitError ∧ m.idBegun = true) ∨ (∃ r, cause = .selfDrop r ∧ r ≠ .length ∧ r ≠ .crc ∧ m.idBegun = false) ∨
      cause = .stuck →
    ∃ t : State, Machine.exec (.sendAbort cause) s = .next t ∧ t.life = .withdrawn ∧ t.goodFrames = 0 ∧
      (cause = .stuck → t.loop.line = some .stuck ∧ t.loop.follow = .nothing) ∧
      (cause ≠ .stuck → t.loop.line = s.loop.line) ∧
      (t.loop.trip = .empty ∧ t.loop.intent = .empty ∧ t.loop.status = .empty ∧ t.loop.announce = .empty ∧
        t.loop.send = none ∧ t.loop.lone = false ∧ t.loop.aborts = 8) ∧
      (∀ f : FnId, (t.fns[f]).motion.claims = false ∧ (t.fns[f]).motion ≠ .heldFault ∧ t.drive[f] = Drive.off ∧
        (t.fns[f]).fault = (if (s.fns[f]).motion.moving = true ∧ (s.fns[f]).fault.latched = false then .stopped
          else (s.fns[f]).fault)) ∧
      (∀ f : FnId, let g := t.guard.fns[f]
        let old := s.guard.fns[f]
        g.mode = .normal ∧ g.blocking = 15 ∧ g.pairTerm = old.pairTerm ∧ ∀ d : Dir, g.permits d =
          { values := (old.permits d).values, start := false, proceed := false, holdCause := .none }) ∧
      (∀ n : Fin 8, t.guard.lamps[n] = { s.guard.lamps[n] with state := .off }) ∧ t.guard.flash = none ∧
      OutputsOff t ∧ t.flow = Flow.atReset ∧ t.panel.held = none ∧
      t.pub = { s.pub with refresh := none, inhibitTimer := none, deferred := false, inhibit := false } ∧
      t.unit = { s.unit with tripRepeat := none } ∧ t.image = s.image ∧ t.field = s.field ∧ t.setup = s.setup ∧
      t.resetCause = s.resetCause

/-- SEND_COMPLETE (R12, R13, R27, R34 to R36, R49 to R51, R56, R145): the slot is EMPTY or WAITING with its successor, the abort
count is 0, the wait begins, the unheard count and LONE follow the heard slot, and the timers of the frame's kind start. The
station's own INTENT is judged as R147 judges a peer's: in ACTIVE, and where its role allows the kind, RELEASE removes the own
entry, RESET is a RESET arrival, OPEN and SINGLE with UNDERWAY make it a STOP entry, any other kind its entry; else the table
stays (R146). -/
def Obligations.CompletionEndsSend : Prop :=
  ∀ (heard : Bool) (s : State) (m : Send), s.loop.send = some m → m.idBegun = true → s.maySend = true →
    ∃ t : State, Machine.exec (.sendComplete heard) s = .next t ∧
      t.loop.send = none ∧ t.loop.aborts = 0 ∧ t.loop.wait = true ∧ t.loop.line = some .busy ∧ t.life = s.life ∧
      (t.loop.trip = s.loop.trip.completed ∧ t.loop.intent = s.loop.intent.completed ∧
        t.loop.announce = s.loop.announce.completed ∧
        (t.loop.status = s.loop.status.completed ∨ t.loop.status = statusRequest s.loop.status.completed)) ∧
      t.loop.unheard = (if s.life = .configFault then s.loop.unheard else if heard then 0
        else min (s.loop.unheard + 1) 4) ∧
      t.loop.lone = (if s.life = .active then !heard && (s.loop.lone || min (s.loop.unheard + 1) 4 == 4) else s.loop.lone) ∧
      (if m.kind = .status then t.pub.edition = BitVec.ofNat 3 m.edition ∧ t.pub.lastSent = some m.data ∧
          t.pub.refresh = some s.timing.refresh ∧ t.pub.inhibitTimer = some s.timing.changeInhibit
        else t.pub.edition = s.pub.edition ∧ t.pub.lastSent = s.pub.lastSent ∧ t.pub.refresh = s.pub.refresh ∧
          t.pub.inhibitTimer = s.pub.inhibitTimer) ∧
      t.joinWindow = (if m.kind = .announce ∧ s.life = .joining then
        some (s.joinWindow.getD s.timing.stale) else s.joinWindow) ∧
      t.announceTimer = (if m.kind = .announce ∧ s.life = .configFault then some 1000 else s.announceTimer) ∧
      t.unit.tripRepeat = (if m.kind = .trip ∧ s.life = .active then some s.timing.refresh else s.unit.tripRepeat) ∧
      (∀ i : IntentFrame, m.kind = .intent → decodeIntent m.data = some i →
        t.panel.refresh = (if i.kind = .release ∨ i.kind = .reset then none else some s.timing.intentRefresh)) ∧
      (∀ i : IntentFrame, m.kind = .intent → decodeIntent m.data = some i →
        let allowed := s.life = .active ∧ (s.role = .panelCommand ∨
          (s.role = .panelStop ∧ (i.kind = .release ∨ i.kind = .stop ∨ i.kind = .reset)))
        let entered : IntentKind := match i.underway, i.kind with
          | true, .toOpen => .stop
          | true, .single _ _ _ => .stop
          | _, k => k
        (¬allowed → t.unit.table = s.unit.table) ∧
        (allowed → i.kind = .reset → t.unit.table = s.unit.table ∧ t.unit.restartHold = false ∧
          t.unit.resetWindow = some s.timing.intentLease) ∧
        (allowed → i.kind = .release → t.unit.table = s.unit.table.set s.station none) ∧
        (allowed → i.kind ≠ .release → i.kind ≠ .reset →
          t.unit.table = s.unit.table.set s.station (some { kind := entered, lease := some s.timing.intentLease }))) ∧
      (m.kind ≠ .intent → t.unit.table = s.unit.table) ∧
      t.image = s.image ∧ t.field.lines = s.field.lines ∧ t.field.di = s.field.di ∧ t.setup = s.setup

/-! ## Publication, age and flash timers (chapters 3 to 5) -/

/-- CONFIG_FAULT_ANNOUNCE_TIMER, CHANGE_INHIBIT_EXPIRY, REFRESH_EXPIRY and TRIP_REPEAT_EXPIRY (R12, R49, R51, R55, R56): the next
ANNOUNCE of CONFIG_FAULT is queued; the inhibit ends and a deferred cause is requested; a refresh is a cause; a TRIP in force
is queued again, with the first cause present or else as last queued. -/
def Obligations.PublicationTimersExpire : Prop :=
  (∀ s : State, s.life = .configFault → s.announceTimer.isSome = true →
    Machine.exec .configFaultAnnounceTimer s = .next (State.finish { s with
      announceTimer := none
      loop := { s.loop with announce := announceRequest false s.loop.idBegun s.loop.announce } })) ∧
  (∀ s : State, s.pub.inhibitTimer.isSome = true → Machine.exec .changeInhibitExpiry s = .next (State.finish { s with
    pub := { s.pub with inhibitTimer := none, inhibit := false, deferred := false }
    loop := if s.pub.deferred then { s.loop with status := statusRequest s.loop.status } else s.loop })) ∧
  (∀ s : State, s.pub.refresh.isSome = true → s.isActive = true → s.role = .motion ∨ s.role = .pump ∨ s.isPanel = true →
    Machine.exec .refreshExpiry s = .next (State.finish { s with
      pub := { s.pub with refresh := none, deferred := s.pub.deferred || s.pub.inhibit }
      loop := if s.pub.inhibit then s.loop else { s.loop with status := statusRequest s.loop.status } })) ∧
  (∀ (s : State) (r : TripReason), s.unit.tripRepeat.isSome = true → s.isActive = true → s.role = .motion →
    s.tripCause.or s.unit.lastTrip = some r →
    Machine.exec .tripRepeatExpiry s = .next (State.finish { s with
      unit := { s.unit with tripRepeat := none, lastTrip := if s.unit.tripAsserted then some r else s.unit.lastTrip }
      loop := if s.unit.tripAsserted then { s.loop with trip := s.loop.trip.request r } else s.loop }))

/-- AGE_EXPIRY (R67, R69): a FRESH entry becomes STALE with its content gone, which is a change notice; an UNVERIFIED one
becomes ABSENT, which is none. -/
def Obligations.AgeExpiryStales : Prop :=
  ∀ (n : StationId) (s : State), s.running = true → (s.image[n]).age.isSome = true →
    let stale := { s.image[n] with state := .stale, age := none, byte := none, record := none }
    ((s.image[n]).state = .fresh → ∃ t : State, Machine.exec (.ageExpiry n) s = .next t ∧
      Noticed { s with image := s.image.set n stale } t) ∧
    ((s.image[n]).state = .unverified → Machine.exec (.ageExpiry n) s = .next (State.finish { s with
      image := s.image.set n { s.image[n] with state := .absent, age := none } }))

/-- FLASH_TIMER_EXPIRY and PULSE_TIME_EXPIRY, PULL_IN_EXPIRY (R90, R137, R138): the flash timer changes its half; a pulse ends its
high part, or starts a new period with the level last handed; the pull-in gives way to pulses of the hold duty. That a level of 1000
runs in periods too, with no low part, and is left at the end of one, is the model's choice (log entry 53). -/
def Obligations.OutputTimersExpire : Prop :=
  (∀ s : State, Machine.exec .flashTimerExpiry s = .next (State.finish { s with guard := { s.guard with
    flash := s.guard.flash.map (fun h => match h with
      | .lit => Half.dark
      | .dark => Half.lit) } })) ∧
  (∀ (f : FnId) (s : State) (d : Drive), s.drive[f] = d → d.pullIn.isSome = true →
    let h := highTime s.timing.pwm (s.profile f).holdDuty
    let held := { d with phase := .hold, pullIn := none, sol := .running h (s.timing.pwm - h) true (s.profile f).holdDuty }
    Machine.exec (.pullInExpiry f) s = .next (State.finish { s with drive := s.drive.set f held })) ∧
  (∀ (f : FnId) (s : State) (d : Drive) (high low level : Nat) (inHigh : Bool), s.drive[f] = d →
    let h := highTime s.timing.pwm level
    let next : PulseGen := if inHigh = true ∧ low ≠ 0 then .running high low false level
      else .running h (s.timing.pwm - h) true level
    (d.prop = .running high low inHigh level → Machine.exec (.pulseTimeExpiry (.proportional f)) s =
      .next (State.finish { s with drive := s.drive.set f { d with prop := next } })) ∧
    (d.sol = .running high low inHigh level → Machine.exec (.pulseTimeExpiry (.solenoid f)) s =
      .next (State.finish { s with drive := s.drive.set f { d with sol := next } })))

/-! ## Field inputs (chapter 6) -/

/-- INPUT_LEVEL_CHANGE and the four crossings of the supply's thresholds (R92, R93, R106): an input with a use starts or restarts
its debounce where its level, after polarity, differs from the accepted level, and stops it where it does not; the accepted
level stays. Below 19.0 V in OK the 20 ms low timer starts and back at 19.0 V it stops; at 20.0 V in LOW the 100 ms recovery
timer starts and below 20.0 V it stops; the state stays. A pump's overload input and a panel's STOP are biased up and active
while low, whatever else uses them; an end sensor, a pump's running input, any other panel input and the input of a LOCAL_INPUT
term are biased down and active while high; an input with no use, and every input in RESET, LOADING and CONFIG_FAULT, is
unbiased (R92). -/
def Obligations.LineLevelsRunTimers : Prop :=
  (∀ (i : InputId) (high : Bool) (s : State), s.running = true → s.field.lines.di[i] ≠ high →
    let lines := { s.field.lines with di := s.field.lines.di.set i high }
    let timer := if (s.field.di[i]).accepted = some (high != s.activeLow i) then none else some s.timing.debounce
    let followed := s.field.di.set i { s.field.di[i] with debounce := timer }
    (s.used i = true → Machine.exec (.inputLevelChange i high) s =
      .next (State.finish { s with field := { s.field with lines := lines, di := followed } })) ∧
    (s.used i = false → Machine.exec (.inputLevelChange i high) s =
      .next (State.finish { s with field := { s.field with lines := lines } }))) ∧
  (∀ s : State, s.running = true →
    let banded := fun (b : SupplyBand) => { s.field with lines := { s.field.lines with supply := b } }
    (s.field.supplyOk = true → s.field.lines.supply ≠ .below19 → Machine.exec .supplyFallsBelow19V s =
      .next (State.finish { s with field := { banded .below19 with lowTimer := some 20 } })) ∧
    (s.field.supplyOk = true → s.field.lines.supply = .below19 → Machine.exec .supplyBackAt19V s =
      .next (State.finish { s with field := { banded .from19to20 with lowTimer := none } })) ∧
    (s.field.supplyOk = false → s.field.lines.supply ≠ .from20 → Machine.exec .supplyRisesTo20V s =
      .next (State.finish { s with field := { banded .from20 with recovery := some 100 } })) ∧
    (s.field.supplyOk = false → s.field.lines.supply = .from20 → Machine.exec .supplyFallsBelow20V s =
      .next (State.finish { s with field := { banded .from19to20 with recovery := none } }))) ∧
  (∀ (i : InputId) (s : State),
    let p := s.cfg.own.panel
    let low := (s.role = .pump ∧ (i = 1 ∨ i = 3)) ∨ p.stop = some i
    let pump := s.role = .pump ∧ (i = 0 ∨ i = 2)
    let sensor := ∃ (f : FnId) (x : FnSetup), s.fnSetup f = some x ∧
      (x.openA = i ∨ x.openB = some i ∨ x.closedA = i ∨ x.closedB = some i)
    let panel := p.openB = some i ∨ p.closeB = some i ∨ p.reset = some i ∨ p.commandKey = some i ∨ p.maintKey = some i ∨
      p.underway = some i ∨ p.jogOpen = some i ∨ p.jogClose = some i ∨ p.select0 = some i ∨ p.select1 = some i ∨
      p.select2 = some i ∨ p.select3 = some i
    let term := ∃ t : Term, t.selector = .localInput i ∧
      ((∃ (f : FnId) (x : FnSetup), s.fnSetup f = some x ∧ (t ∈ x.openTerms ∨ t ∈ x.closeTerms)) ∨
        ∃ l ∈ s.cfg.own.lamps, t ∈ l.on ∨ t ∈ l.flash)
    let use := low ∨ pump ∨ sensor ∨ panel ∨ term
    (s.activeLow i = true ↔ low) ∧ (s.used i = true ↔ use) ∧
    (s.inputLevel i = true ↔ (low ∧ s.field.lines.di[i] = false) ∨ (¬low ∧ s.field.lines.di[i] = true)) ∧
    (s.bias i = .pullUp ↔ s.running = true ∧ low) ∧ (s.bias i = .pullDown ↔ s.running = true ∧ ¬low ∧ use))

/-- DEBOUNCE_EXPIRY (R93, R95, R96, R98, R99, R124): the accepted level takes the input level; the pair of an end with both
sensors, one of which the input is, becomes PENDING with its timer started where it was AGREED and they differ, AGREED with its
timer stopped where it was not and they are equal, and else stays, as does every other pair; the end states follow. A function
in REST whose end state goes from AT_OPEN or AT_CLOSED to BETWEEN takes END_LOST, unless its code is latched, and remembers that
end; where the end state returns to the lost end, the lost end is none and END_LOST is cleared. That the lost end is remembered
beside a latched code, and is forgotten at its return in any motion state, is log entry 18 (DEDUCED). The guards are then
evaluated with every function's motion state and drive still as before: that they come after the other users of the input is the
model's choice (log entry 51), as is that both ends of a function change before its end state is derived (log entry 56). The lines,
the image, the other inputs and the supervision of the stop loop and the supply stay. -/
def Obligations.DebounceAcceptsLevel : Prop :=
  ∀ (i : InputId) (s : State), s.running = true → s.used i = true → (s.field.di[i]).debounce.isSome = true →
    ∃ t u : State, Machine.exec (.debounceExpiry i) s = .next t ∧ t = u.settle.finish ∧ t.field = u.field ∧
      (u.drive = s.drive ∧ u.image = s.image ∧ u.unit = s.unit ∧ u.loop.lone = s.loop.lone ∧
        ∀ f : FnId, (u.fns[f]).motion = (s.fns[f]).motion ∧ (u.fns[f]).target = (s.fns[f]).target ∧
          (u.fns[f]).released = (s.fns[f]).released) ∧
      t.field.di = s.field.di.set i { accepted := some (s.field.lines.di[i] != s.activeLow i), debounce := none } ∧
      (∀ f : FnId, (t.field.fns[f]).endState = t.endStateNow f ∧
        (t.field.fns[f]).position = (s.field.fns[f]).position ∧ (t.field.fns[f]).lastRaw = (s.field.fns[f]).lastRaw) ∧
      (∀ (f : FnId) (x : FnSetup) (d : Dir), s.fnSetup f = some x →
        let p := (s.field.fns[f]).endPair d
        let q := (t.field.fns[f]).endPair d
        (∀ b : InputId, x.sensorB d = some b → x.sensorA d = i ∨ b = i →
          let equal := t.accepted (x.sensorA d) = t.accepted b
          (p.state = .agreed → ¬equal → q = { state := .pending, discrepancy := some s.timing.discrepancy }) ∧
          (p.state = .pending ∨ p.state = .disagreed → equal → q = { state := .agreed, discrepancy := none }) ∧
          (p.state = .agreed → equal → q = p) ∧ (p.state = .pending ∨ p.state = .disagreed → ¬equal → q = p)) ∧
        (x.sensorB d = none ∨ (x.sensorA d ≠ i ∧ x.sensorB d ≠ some i) → q = p)) ∧
      (∀ f : FnId,
        let x := s.fns[f]
        let old := (s.field.fns[f]).endState
        let new := (t.field.fns[f]).endState
        let lost := fun (d : Dir) => x.motion = .rest ∧ new = .between ∧ old = (match d with
          | .toOpen => EndState.atOpen
          | .toClose => EndState.atClosed)
        let back := fun (d : Dir) => new ≠ old ∧ x.lostEnd = some d ∧ new = (match d with
          | .toOpen => EndState.atOpen
          | .toClose => EndState.atClosed)
        (∀ d : Dir,
          (lost d → u.fns[f] = { x with lostEnd := some d, fault := if x.fault.latched then x.fault else .endLost }) ∧
          (back d → u.fns[f] = { x with lostEnd := none, fault := if x.fault = .endLost then .none else x.fault })) ∧
        ((∀ d : Dir, ¬lost d ∧ ¬back d) → u.fns[f] = x)) ∧
      (s.isActive = false ∨ Calm u → t.fns = u.fns) ∧
      t.field.lines = s.field.lines ∧ t.field.stopLoopClosed = s.field.stopLoopClosed ∧
      t.field.supplyOk = s.field.supplyOk ∧ t.image = s.image ∧ t.unit = s.unit ∧ t.life = s.life ∧ t.setup = s.setup

/-- DISCREPANCY_EXPIRY (R97, R98, R125): the end is DISAGREED, the end state UNKNOWN, and the function shows SENSOR_DISAGREE
unless it shows TRANSDUCER. By its motion state it is then in HELD_FAULT (REST in ACTIVE, and AWAIT_FLOW), stays in REST with
the code (JOINING, WITHDRAWN), enters STOPPING, or HELD_FAULT where its level is 0 (PRESSURISE, TRAVEL, CREEP), or keeps its
state with the code (SEAT, STOPPING, HELD_FAULT), as `State.faulted` spells out. That the fault comes before the guard evaluation
of the end state's change is the model's choice (log entry 54). -/
def Obligations.DiscrepancyDisagrees : Prop :=
  ∀ (f : FnId) (e : Dir) (s : State), s.running = true → (s.fnSetup f).isSome = true →
    ((s.field.fns[f]).endPair e).state = .pending → ((s.field.fns[f]).endPair e).discrepancy.isSome = true →
    ∃ t : State, Machine.exec (.discrepancyExpiry f e) s = .next t ∧
      (t.field.fns[f]).endPair e = { state := .disagreed, discrepancy := none } ∧
      (t.field.fns[f]).endState = .unknown ∧
      (t.fns[f], t.drive[f]) = s.faulted f (if (s.fns[f]).fault = .transducer then .transducer else .sensorDisagree) ∧
      (∀ h : FnId, h ≠ f → t.field.fns[h] = s.field.fns[h]) ∧ t.field.di = s.field.di ∧ t.image = s.image ∧
      t.unit = s.unit ∧ t.flow = s.flow

/-- STOP_LOOP_OPENING, STOP_LOOP_READS_CLOSED and STOP_LOOP_CLOSING_EXPIRY (R103, R104, R105, R123, R152, R159): at an opening
the state is OPEN at once; in ACTIVE every output is off, no function claims, TRIP_ASSERTED is set, the own trip is an E_STOP, a
MOTION station has it queued, and no machine of a PUMP station runs, so that its capacity, kept by R160, is 0. A closing starts
the debounce, which a further opening ends without effect, and whose expiry makes the state CLOSED; the trip list and
TRIP_ASSERTED stay. -/
def Obligations.StopLoopStopsAndCloses : Prop :=
  (∀ s : State, s.running = true → s.field.stopLoopClosed = true →
    let opened := { s.field with
      lines := { s.field.lines with stopLoopClosed := false }, stopLoopClosed := false, closing := none }
    ∃ t : State, Machine.exec .stopLoopOpening s = .next t ∧ t.field = opened ∧ OutputsOff t ∧
      Tripped { s with field := opened } t ∧
      (s.life = .active → (∀ f : FnId, (t.fns[f]).motion.claims = false ∧ t.drive[f] = Drive.off ∧
          ((s.fns[f]).motion.moving = true → (s.fns[f]).fault.latched = false →
            (t.fns[f]).motion = .rest ∧ (t.fns[f]).fault = .stopped)) ∧
        t.unit.tripAsserted = true ∧ t.unit.trips[s.station] = some .eStop ∧
        (s.role = .motion → t.loop.trip = s.loop.trip.request .stopLoopOpen) ∧
        (s.role = .pump → s.gateOpen = true → PumpsStopped s t))) ∧
  (∀ s : State, s.running = true → s.field.stopLoopClosed = false → s.field.lines.stopLoopClosed = false →
    Machine.exec .stopLoopReadsClosed s = .next (State.finish { s with field := { s.field with
      lines := { s.field.lines with stopLoopClosed := true }, closing := some s.timing.debounce } })) ∧
  (∀ s : State, s.running = true → s.field.stopLoopClosed = false →
    Machine.exec .stopLoopOpening s = .next (State.finish { s with field := { s.field with
      lines := { s.field.lines with stopLoopClosed := false }, closing := none } })) ∧
  (∀ s : State, s.running = true → s.field.closing.isSome = true → ∃ t : State,
    Machine.exec .stopLoopClosingExpiry s = .next t ∧
    Noticed { s with field := { s.field with stopLoopClosed := true, closing := none } } t)

/-- LOW_TIMER_EXPIRY and RECOVERY_TIMER_EXPIRY (R106, R107, R152): LOW stops an ACTIVE station as an opening of the stop loop
does, with a trip of its own: a function that moved is in REST with STOPPED unless it held a latched code, and no machine of a
PUMP station whose gate was open runs (R159); OK opens the gate's part again and leaves trips and TRIP_ASSERTED. -/
def Obligations.SupplyTimersChangeState : Prop :=
  (∀ s : State, s.running = true → s.field.lowTimer.isSome = true →
    let low := { s.field with supplyOk := false, lowTimer := none }
    ∃ t : State, Machine.exec .lowTimerExpiry s = .next t ∧ t.field = low ∧ OutputsOff t ∧ Tripped { s with field := low } t ∧
      (s.life = .active → (∀ f : FnId, (t.fns[f]).motion.claims = false ∧ t.drive[f] = Drive.off ∧
          ((s.fns[f]).motion.moving = true → (s.fns[f]).fault.latched = false →
            (t.fns[f]).motion = .rest ∧ (t.fns[f]).fault = .stopped)) ∧
        t.unit.tripAsserted = true ∧ (t.unit.trips[s.station]).isSome = true ∧
        (s.role = .motion → s.field.stopLoopClosed = true → t.loop.trip = s.loop.trip.request .fieldSupplyLow) ∧
        (s.role = .pump → s.gateOpen = true → PumpsStopped s t))) ∧
  (∀ s : State, s.running = true → s.field.recovery.isSome = true → ∃ t : State,
    Machine.exec .recoveryTimerExpiry s = .next t ∧
    Noticed { s with field := { s.field with supplyOk := true, recovery := none } } t)

/-! ## Function motion and valve drive (chapters 7 and 8) -/

/-- CONTROL_PERIOD, the position stage (R100, R101, R119, R129, R130): the reading is kept and, while no TRANSDUCER holds, gives
the position, or TRANSDUCER and 1023 out of band; nothing else of the field inputs changes, neither the function's ends nor any
other function's, any accepted level, the pressure, the stop loop or the supply. A new position more than 20 farther from the
target end than the wrong-direction reference makes a function in TRAVEL or CREEP take WRONG_DIRECTION and its trip. TRANSDUCER
moves the function by its motion state as any latched fault does (R125, `State.faulted`), and the ramp stage of the same control
period follows: in STOPPING the level goes one step of the stop ramp lower, and at 0 the function is in HELD_FAULT with its
outputs off; in SEAT it goes one ramp step toward the creep level. -/
def Obligations.ControlPeriodConverts : Prop :=
  (∀ (f : FnId) (raw : Reading) (x : FnSetup) (s : State), s.running = true → s.fnSetup f = some x → x.kind = .positioned →
    let p := unclamped x raw
    let held := (s.fns[f]).fault = .transducer
    let converted := { s.field with
      lines := { s.field.lines with ai := s.field.lines.ai.set f raw }
      fns := s.field.fns.set f { s.field.fns[f] with
        lastRaw := some p
        position := if held then (s.field.fns[f]).position
          else if -30 ≤ p ∧ p ≤ 1030 then min p.toNat 1000 else 1023 } }
    ∃ t : State, Machine.exec (.controlPeriod f raw) s = .next t ∧ t.field = converted ∧
      (¬held → p < -30 ∨ 1030 < p → (t.fns[f]).fault = .transducer) ∧
      Tripped { s with field := converted } t ∧
      (let y := (s.faulted f .transducer).1
       let drive := (s.faulted f .transducer).2
       let lo := drive.level
       let q := s.profile f
       let level := if y.motion = .stopping then lo - min q.stopRamp lo
         else if lo < q.creepLevel then lo + min q.ramp (q.creepLevel - lo) else lo - min q.ramp (lo - q.creepLevel)
       ¬held → p < -30 ∨ 1030 < p → ((s.fns[f]).motion.moving = true → (s.fns[f]).target.isSome = true) →
         (y.motion = .stopping → level = 0 → t.drive[f] = Drive.off ∧
           t.fns[f] = { y.quiet with motion := .heldFault, target := none, released := s.grantGone f }) ∧
         (y.motion = .seat ∨ (y.motion = .stopping ∧ level ≠ 0) → t.fns[f] = y ∧
           t.drive[f] = { drive with level := level, prop := drive.prop.hand s.timing.pwm level }) ∧
         (y.motion ≠ .seat → y.motion ≠ .stopping → t.fns[f] = y ∧ t.drive[f] = drive)) ∧
      (s.life ≠ .active → t.unit = s.unit ∧ t.flow = s.flow ∧ ∀ h : FnId, h ≠ f → t.fns[h] = s.fns[h])) ∧
  (∀ (f : FnId) (raw : Reading) (x : FnSetup) (d : Dir) (reference : Nat) (s : State), s.isActive = true →
    s.fnSetup f = some x → x.kind = .positioned → (s.fns[f]).target = some d → (s.fns[f]).fault.latched = false →
    (s.fns[f]).motion = .travel ∨ (s.fns[f]).motion = .creep → (s.fns[f]).wrongRef = some reference →
    s.field.stopLoopClosed = true → -30 ≤ unclamped x raw → unclamped x raw ≤ 1030 →
    let pos := min (unclamped x raw).toNat 1000
    let away := match d with
      | .toOpen => 1000 - pos
      | .toClose => pos
    pos ≠ (s.field.fns[f]).position → reference + 20 < away →
    ∃ t : State, Machine.exec (.controlPeriod f raw) s = .next t ∧ TakesTrip f .wrongDirection (x.profile d).stopRamp s t)

/-- CONTROL_PERIOD, supervision and the drive stages (R118, R119, R129, R131 to R137), where nothing but the position stage
reacts to the reading and the position is not a wrong direction. At a new position a function in TRAVEL or CREEP is in CREEP
where its profile has a creep zone and its distance lies within it, and else in TRAVEL, and a distance at or below the stall
reference minus the stall delta becomes the reference and restarts the stall window. Then a moving function's level goes one
ramp step toward the base level corrected for skew, the creep level in SEAT or 0 in STOPPING, is handed to the pulse generator,
and nothing else changes but what the new values ask of guards and publisher, and nothing at all where the position is the one
before; at 0 STOPPING ends with the outputs off. A distance of the pair beyond the skew trip makes a function in TRAVEL or CREEP
take SKEW and its trip instead, with a step of the stop ramp. -/
def Obligations.ControlPeriodRamps : Prop :=
  ∀ (f : FnId) (raw : Reading) (x : FnSetup) (d : Dir) (s : State), s.running = true → s.fnSetup f = some x →
    x.kind = .positioned → (s.fns[f]).target = some d → (s.fns[f]).motion.moving = true →
    (s.fns[f]).fault ≠ .transducer → -30 ≤ unclamped x raw → unclamped x raw ≤ 1030 →
    let y := s.fns[f]
    let p := x.profile d
    let old := (s.field.fns[f]).position
    let pos := min (unclamped x raw).toNat 1000
    let away := match d with
      | .toOpen => 1000 - pos
      | .toClose => pos
    let supervised := (y.motion = .travel ∨ y.motion = .creep) ∧ pos ≠ old
    let progress := y.stallRef.any (fun r => away + p.stallDelta ≤ r)
    let passed := if supervised then { y with
        motion := if 0 < p.creepZone ∧ away ≤ p.creepZone then .creep else .travel
        stallRef := if progress then some away else y.stallRef
        stall := if progress then some p.stallWindow else y.stall }
      else y
    let converted := { s.field with
      lines := { s.field.lines with ai := s.field.lines.ai.set f raw }
      fns := s.field.fns.set f { s.field.fns[f] with lastRaw := some (unclamped x raw), position := pos } }
    let read : State := { s with fns := s.fns.set f passed, field := converted }
    (supervised → ∀ r : Nat, y.wrongRef = some r → away ≤ r + 20) → Calm read →
    let base := if p.creepZone = 0 ∨ p.creepZone < away then p.travelLevel
      else p.creepLevel + (p.travelLevel - p.creepLevel) * away / p.creepZone
    let ahead := fun (q : Nat) => match d with
      | .toOpen => pos - q
      | .toClose => q - pos
    let corrected := match read.peerPosition f with
      | some q => if p.skewDeadband < ahead q then base - p.skewGain * (ahead q - p.skewDeadband) / 16 else base
      | none => base
    let skew := (y.motion = .travel ∨ y.motion = .creep) ∧
      ∃ q : Nat, read.peerPosition f = some q ∧ (p.skewTrip < pos - q ∨ p.skewTrip < q - pos)
    let lo := (s.drive[f]).level
    let ramp := fun (rate target : Nat) => if lo < target then lo + min rate (target - lo) else lo - min rate (lo - target)
    let new := match y.motion with
      | .travel => ramp p.ramp corrected
      | .creep => ramp p.ramp corrected
      | .seat => ramp p.ramp p.creepLevel
      | .stopping => lo - min p.stopRamp lo
      | _ => 0
    let driven := s.drive.set f { s.drive[f] with level := new, prop := (s.drive[f]).prop.hand s.timing.pwm new }
    ∃ t : State, Machine.exec (.controlPeriod f raw) s = .next t ∧
      (¬skew →
        (y.motion ≠ .stopping ∨ new ≠ 0 → t = State.finish { read with
          drive := driven, guard := { t.guard with flash := s.guard.flash }
          loop := { s.loop with status := t.loop.status }, pub := { s.pub with deferred := t.pub.deferred } }) ∧
        (y.motion ≠ .stopping ∨ new ≠ 0 → pos = old → (s.isActive = true → s.guard = s.guardNow) →
          t = State.finish { s with drive := driven, field := converted }) ∧
        (y.motion = .stopping → new = 0 → t.drive[f] = Drive.off ∧ (t.fns[f]).motion.moving = false ∧
          (y.fault.latched = true → (t.fns[f]).motion = .heldFault ∧ (t.fns[f]).fault = y.fault))) ∧
      (skew → s.isActive = true → s.field.stopLoopClosed = true → y.fault.latched = false →
        TakesTrip f .skew p.stopRamp s t)

/-- PRESSURE_CONVERSION (R102, R116, R117): the reading in bar is kept; a function in PRESSURISE whose threshold it reaches enters
TRAVEL, or CREEP within its creep zone, its stroke timer started and its references at the distance to go; where nothing reacts,
every other function, with a target or without, and every drive stays. -/
def Obligations.PressureReadingStartsTravel : Prop :=
  ∀ (raw : Reading) (s : State), (∃ f : FnId, (s.fns[f]).motion = .pressurise) →
    let bars := raw.toNat * 400 / 4095
    let read : State := { s with field := { s.field with pressure := some bars } }
    let base := read.eachFn (State.takePressure bars)
    ∃ t : State, Machine.exec (.pressureConversion raw) s = .next t ∧ t.field = read.field ∧ bars ≤ 400 ∧
      Noticed read t ∧ t.flow = s.flow ∧
      (∀ f : FnId, (s.fns[f]).motion = .pressurise → (s.profile f).pressureThreshold ≤ bars →
        (t.fns[f]).motion ≠ .pressurise) ∧
      (Calm base → t.drive = s.drive ∧
        (∀ f : FnId, (s.fns[f]).motion ≠ .pressurise ∨ bars < (s.profile f).pressureThreshold → t.fns[f] = s.fns[f]) ∧
        ∀ (f : FnId) (d : Dir), (s.fns[f]).target = some d → (s.fns[f]).motion = .pressurise →
          (s.profile f).pressureThreshold ≤ bars →
          let p := s.profile f
          let away := distance d (s.field.fns[f]).position
          t.fns[f] = if s.isPositioned f then { s.fns[f] with
              motion := if 0 < p.creepZone ∧ away ≤ p.creepZone then .creep else .travel
              pressurise := none, stroke := some (p.strokeLimit * 1000), stallRef := some away, wrongRef := some away
              stall := some p.stallWindow }
            else { s.fns[f] with motion := .travel, pressurise := none, stroke := some (p.strokeLimit * 1000) })

/-- What the guard evaluation of an event does to a function whose conditions it changes (R87, R110, R114, R120, R121, R122),
where no other function has anything to do and nothing follows: REST is left for AWAIT_FLOW where all of R110 holds, and kept
where any of it fails; AWAIT_FLOW returns to REST at a demand or permit to start lost; PRESSURISE, TRAVEL and CREEP take
STOPPING with PEER_LOST or HOLD_LOST at a permit to continue lost, and at a demand lost SEAT where the target end is made in
TRAVEL or CREEP, else STOPPING with their code; a level of 0 ends STOPPING, and a seat time of 0 ends SEAT, in REST. Which of
two causes that fall together is first is log entry 4. -/
def Obligations.EvaluationMovesFunctions : Prop :=
  ∀ (s : State) (f : FnId), s.isActive = true →
    let x := s.fns[f]
    let results := s.guardNow.fns[f]
    let becomes := fun (y : Fn) (d : Drive) =>
      let r : State := { s.evaluate with fns := s.fns.set f y, drive := s.drive.set f d }
      (∀ h : FnId, h ≠ f → s.evaluate.react h = none) → Calm r → s.settle.fns = r.fns ∧ s.settle.drive = r.drive
    let idle := fun (c : FaultCode) => { x.quiet with motion := .rest, target := none, fault := c, released := s.grantGone f }
    let stops := fun (c : FaultCode) =>
      if (s.drive[f]).level = 0 then becomes (idle c) Drive.off
      else becomes { x.quiet with motion := .stopping, fault := c } s.drive[f]
    let seatTime := (s.profile f).seatTime
    let leaves := fun (d : Dir) => s.demands f d = true ∧ (results.permits d).start = true ∧ s.loop.lone = false ∧
      s.unit.restartHold = false ∧ (∀ n : StationId, s.unit.trips[n] = none) ∧ s.field.stopLoopClosed = true ∧
      s.field.supplyOk = true ∧ x.fault.latched = false ∧ x.released = true
    (Calm s → s.settle.fns = s.fns ∧ s.settle.drive = s.drive) ∧
    (∀ (d : Dir) (c : FnSetup), x.motion = .rest → s.fnSetup f = some c → leaves d →
      becomes { x with motion := .awaitFlow, target := some d, fault := .none, lostEnd := none,
                       grantWait := some ((c.profile d).grantWait * 1000) } s.drive[f]) ∧
    (x.motion = .rest → (∀ d : Dir, ¬leaves d) → s.evaluate.react f = none) ∧
    (∀ d : Dir, x.target = some d →
      (x.motion = .awaitFlow → s.demands f d = false ∨ (results.permits d).start = false →
        becomes (idle x.fault) Drive.off) ∧
      (x.motion = .pressurise ∨ x.motion = .travel ∨ x.motion = .creep → x.fault.latched = false →
        ((results.permits d).proceed = false → s.demands f d = true →
          stops (if (results.permits d).holdCause = .pair then .peerLost else .holdLost)) ∧
        ((results.permits d).proceed = true → s.demands f d = false → s.made f d = true → x.motion ≠ .pressurise →
          if seatTime = 0 then becomes (idle x.fault) Drive.off
          else becomes { x.quiet with motion := .seat, seat := some seatTime } s.drive[f]) ∧
        ((results.permits d).proceed = true → s.demands f d = false → s.made f d = false ∨ x.motion = .pressurise →
          stops x.fault) ∧
        ((results.permits d).proceed = true → s.demands f d = true → s.evaluate.react f = none)))

/-- A change notice of the pump station at a MOTION station (R71, R111, R113, R120, R122), where nothing else reacts before or
after. At a STATUS_ARRIVAL: with its grant in the list AWAIT_FLOW enters PRESSURISE and its solenoid pulls in; without it
PRESSURISE, TRAVEL and CREEP take STOPPING, or REST at a level of 0, with GRANT_LOST; the grant release of REST and HELD_FAULT
follows the list; every other function, and every function whose grant is as it was, stays. At an AGE_EXPIRY by which its FRESH
entry becomes STALE, and at an ANNOUNCE_ARRIVAL by which its entry becomes KNOWN or FOREIGN, no function holds a grant:
PRESSURISE, TRAVEL and CREEP take the same stop, and every other function stays, its grant release too. That every function takes
the notice before the guards are evaluated over what the others did is log entry 55 (DESIGN CHOICE). -/
def Obligations.GrantListMovesFunctions : Prop :=
  (∀ (w : Wave) (g : Frame) (b : Byte) (a c : PumpState) (cap : Nat) (gs : List (StationId × FnId)) (s : State),
    s.isActive = true → s.role = .motion → s.hears w = some g → g.kind = 2 → g.station = s.cfg.own.pumpStation →
    g.station ≠ s.station → decodeStatus g.data = some (b, .pump a c cap gs) →
    (s.cfg.briefs[g.station]).role = .pump → s.cfg.subscription.contains g.station = true → s.unit.resetWindow = none →
    let n := g.station
    let e := s.image[n]
    e.state = .known ∨ e.state = .stale ∨ (e.state = .fresh ∧ (e.byte ≠ some b ∨ e.record ≠ some (.pump a c cap gs))) →
    let base := { s.frameEnd w with image := s.image.set n { e with
      state := .fresh, age := some s.timing.stale, byte := some b, record := some (.pump a c cap gs) } }
    let noticed := base.releaseNotice n
    let ready := if s.choice.guardFirst then noticed.evaluate else noticed
    Calm noticed → Calm (ready.pumpNotice n) →
    ∃ t : State, Machine.exec (.statusArrival w) s = .next t ∧ ∀ f : FnId,
      let x := s.fns[f]
      let granted := gs.contains (s.station, f)
      let lost := if (s.drive[f]).level = 0 then
          { x.quiet with motion := .rest, target := none, fault := .grantLost, released := true }
        else { x.quiet with motion := .stopping, fault := .grantLost }
      t.fns[f] = (match x.motion with
        | .rest => { x with released := !granted }
        | .heldFault => { x with released := !granted }
        | .awaitFlow => if granted then
            { x with motion := .pressurise, grantWait := none, pressurise := some (s.profile f).pressuriseTimeout } else x
        | .pressurise => if granted then x else lost
        | .travel => if granted then x else lost
        | .creep => if granted then x else lost
        | _ => x) ∧
      (x.motion = .awaitFlow → granted = true →
        t.drive[f] = { Drive.off with phase := .pullIn, pullIn := some (s.profile f).pullIn })) ∧
  (∀ (c : Instr) (base s : State), s.isActive = true → s.role = .motion → s.cfg.own.pumpStation ≠ s.station →
    let n := s.cfg.own.pumpStation
    let aged := c = .ageExpiry n ∧ (s.image[n]).state = .fresh ∧ (s.image[n]).age.isSome = true ∧
      base = { s with image := s.image.set n { s.image[n] with state := .stale, age := none, byte := none, record := none } }
    let announced := ∃ (w : Wave) (g : Frame) (a : AnnounceFrame) (e : Entry), c = .announceArrival w ∧ s.hears w = some g ∧
      g.kind = 3 ∧ g.station = n ∧ decodeAnnounce g.data = some a ∧
      (let refused := a.configFault = true ∨ a.fingerprint ≠ s.cfg.fingerprint ∨ a.role ≠ (s.cfg.briefs[n]).role
       (refused → e.state = .foreign ∧ e.fpMatch = .refused) ∧ (¬refused → e.state = .known ∧ e.fpMatch = .matched)) ∧
      e.role = some a.role ∧ e.age = none ∧ e.byte = none ∧ e.record = none ∧ e.state ≠ (s.image[n]).state ∧
      base = { s.frameEnd w with image := s.image.set n e }
    aged ∨ announced →
    let ready := if s.choice.guardFirst then base.evaluate else base
    Calm base → Calm (ready.pumpNotice n) →
    ∃ t : State, Machine.exec c s = .next t ∧ ∀ f : FnId,
      let x := s.fns[f]
      let level := (s.drive[f]).level
      (x.motion = .pressurise ∨ x.motion = .travel ∨ x.motion = .creep →
        t.fns[f] = (if level = 0 then { x.quiet with motion := .rest, target := none, fault := .grantLost, released := false }
          else { x.quiet with motion := .stopping, fault := .grantLost }) ∧
        t.drive[f] = (if level = 0 then Drive.off else s.drive[f])) ∧
      (x.motion ≠ .pressurise → x.motion ≠ .travel → x.motion ≠ .creep → t.fns[f] = x ∧ t.drive[f] = s.drive[f]))

/-- GRANT_WAIT_EXPIRY, PRESSURISE_TIMEOUT, STROKE_TIMEOUT and STALL_WINDOW_EXPIRY (R115, R116, R119, R122, R125, R152): the
function takes NO_FLOW, NO_PRESSURE, STROKE_TIMEOUT or STALL with its timers stopped, in HELD_FAULT with its claim withdrawn
where its level is 0 and in STOPPING where it is not; STALL alone is a trip of the station's own. -/
def Obligations.MotionTimeoutsLatch : Prop :=
  ∀ (f : FnId) (s : State), (s.fns[f]).fault.latched = false →
    let x := s.fns[f]
    let gone := s.grantGone f
    let held := fun (c : FaultCode) => { x.quiet with motion := .heldFault, target := none, fault := c, released := gone }
    let ended := fun (c : FaultCode) => if (s.drive[f]).level = 0 then held c
      else { x.quiet with motion := .stopping, fault := c }
    let drive := if (s.drive[f]).level = 0 then s.drive.set f Drive.off else s.drive
    (x.motion = .awaitFlow → x.grantWait.isSome = true → ∃ t : State, Machine.exec (.grantWaitExpiry f) s = .next t ∧
      t.fns[f] = held .noFlow ∧
      Settled { s with fns := s.fns.set f (held .noFlow), drive := s.drive.set f Drive.off } t) ∧
    (x.motion = .pressurise → x.pressurise.isSome = true → ∃ t : State, Machine.exec (.pressuriseTimeout f) s = .next t ∧
      t.fns[f] = ended .noPressure ∧
      Settled { s with fns := s.fns.set f (ended .noPressure), drive := drive } t) ∧
    (x.motion = .travel ∨ x.motion = .creep → x.stroke.isSome = true → ∃ t : State,
      Machine.exec (.strokeTimeout f) s = .next t ∧ t.fns[f] = ended .strokeTimeout ∧
      Settled { s with fns := s.fns.set f (ended .strokeTimeout), drive := drive } t) ∧
    (x.motion = .travel ∨ x.motion = .creep → x.stall.isSome = true → s.field.stopLoopClosed = true → ∃ t : State,
      Machine.exec (.stallWindowExpiry f) s = .next t ∧ t.fns[f] = ended .stall ∧ Tripped s t ∧
      (s.life = .active → t.unit.tripAsserted = true ∧ (t.unit.trips[s.station]).isSome = true ∧
        (s.role = .motion → t.loop.trip ≠ .empty) ∧
        (s.unit.trips[s.station] = none → ∀ h : FnId, (t.fns[h]).motion.stoppable = false)))

/-- SEAT_TIMER_EXPIRY (R121): the movement ends in REST with every output off and its code kept, or with a latched code by its
level: in STOPPING with its drive as it was, level and solenoid phase included, or where the level is 0 in HELD_FAULT with every
output off. That such a function keeps its drive when its seat ends, which R135 and R138 can be read against, is log entry 48
(DESIGN CHOICE). -/
def Obligations.SeatTimerEndsMovement : Prop :=
  ∀ (f : FnId) (s : State), (s.fns[f]).motion = .seat → (s.fns[f]).seat.isSome = true →
    let x := s.fns[f]
    let rest := { x.quiet with motion := .rest, target := none, released := s.grantGone f }
    ∃ t : State, Machine.exec (.seatTimerExpiry f) s = .next t ∧ Noticed s t ∧ t.flow = s.flow ∧
      (x.fault.latched = false → t.drive[f] = Drive.off ∧ ((t.fns[f]).motion = .rest ∨ (t.fns[f]).motion = .awaitFlow) ∧
        (s.unit.restartHold = true ∨ s.loop.lone = true → t.fns[f] = rest)) ∧
      (x.fault.latched = true → t.fns[f] = (if (s.drive[f]).level = 0 then { rest with motion := .heldFault }
        else { x.quiet with motion := .stopping }) ∧
        t.drive[f] = (if (s.drive[f]).level = 0 then Drive.off else s.drive[f]))

/-! ## Panels, intents and pumps (chapters 9 and 10) -/

/-- DEBOUNCE_EXPIRY at an ACTIVE panel (R142 to R145): a button accepted INACTIVE is armed; the selection is the selectable
function at the number that the SELECT inputs form, counted over the configured functions of the MOTION sections in order of
station and then of slot; the held intent is STOP while an armed STOP is active or two movement buttons are effective, what the
one effective button gives, and else NONE; a press of RESET queues RESET, and a change of the held intent queues it, or RELEASE,
behind that, each with the UNDERWAY flag of this moment. The selection is formed first (log entry 44). -/
def Obligations.PanelInputsQueueIntents : Prop :=
  ∀ (i : InputId) (s : State), s.isActive = true → s.isPanel = true → s.used i = true →
    (s.field.di[i]).debounce.isSome = true →
    let p := s.cfg.own.panel
    let now := s.inputLevel i
    let on := fun (e : Option InputId) => e.any (fun j => if j = i then now else s.accepted j)
    let armed := fun (old : Bool) (e : Option InputId) => old || (e == some i && !now)
    let number := 8 * (on p.select3).toNat + 4 * (on p.select2).toNat + 2 * (on p.select1).toNat + (on p.select0).toNat
    ∃ t : State, Machine.exec (.debounceExpiry i) s = .next t ∧
      (t.panel.armOpen = armed s.panel.armOpen p.openB ∧ t.panel.armClose = armed s.panel.armClose p.closeB ∧
        t.panel.armStop = armed s.panel.armStop p.stop ∧ t.panel.armReset = armed s.panel.armReset p.reset ∧
        t.panel.armJogOpen = armed s.panel.armJogOpen p.jogOpen ∧
        t.panel.armJogClose = armed s.panel.armJogClose p.jogClose) ∧
      t.panel.selection = (if s.role = .panelCommand then s.cfg.selectable[number]? else none) ∧
      (∀ (n : StationId) (f : FnId), (n, f) ∈ s.cfg.selectable ↔
        (s.cfg.briefs[n]).role = .motion ∧ ((s.cfg.briefs[n]).kinds[f]).isSome = true) ∧
      s.cfg.selectable.Pairwise (fun g h => g.1 < h.1 ∨ (g.1 = h.1 ∧ g.2 < h.2)) ∧
      (let stop := t.panel.armStop && on p.stop
        let goOpen := t.panel.armOpen && on p.openB && on p.commandKey
        let goClose := t.panel.armClose && on p.closeB && on p.commandKey
        let jog := on p.maintKey && t.panel.selection.isSome
        let jogOpen := t.panel.armJogOpen && on p.jogOpen && jog
        let jogClose := t.panel.armJogClose && on p.jogClose && jog
        let effective := goOpen.toNat + goClose.toNat + jogOpen.toNat + jogClose.toNat
        (stop = true ∨ 2 ≤ effective → t.panel.held = some .stop) ∧
        (stop = false → effective = 0 → t.panel.held = none) ∧
        (stop = false → effective = 1 →
          (goOpen = true → t.panel.held = some .toOpen) ∧ (goClose = true → t.panel.held = some .toClose) ∧
          (∀ (n : StationId) (f : FnId), t.panel.selection = some (n, f) →
            (jogOpen = true → t.panel.held = some (.single n f .toOpen)) ∧
            (jogClose = true → t.panel.held = some (.single n f .toClose))))) ∧
      (let flag := on p.underway
        let pressed := if p.reset = some i ∧ now = true ∧ s.panel.armReset = true then
          s.loop.intent.request { kind := .reset, underway := flag } else s.loop.intent
        t.loop.intent = if t.panel.held = s.panel.held then pressed
          else pressed.request { kind := t.panel.held.getD .release, underway := flag }) ∧
      (t.panel.refresh = s.panel.refresh ∧ t.panel.refreshKind = s.panel.refreshKind ∧ t.unit = s.unit ∧
        t.image = s.image ∧ t.loop.trip = s.loop.trip ∧ t.loop.announce = s.loop.announce ∧ t.loop.send = s.loop.send)

/-- INTENT_REFRESH_EXPIRY, INTENT_LEASE_EXPIRY and RESET_WINDOW_EXPIRY (R145, R148 to R150): the held intent is queued again where
it is still what the last send carried; a lapsed entry leaves the table, the effective intent follows, and the guards are
evaluated with it; the window ends. The effective intent is STOP where any entry is STOP, NONE where the table is empty or two
entries differ in kind or target, and else what every entry holds (R149). -/
def Obligations.IntentTimersExpire : Prop :=
  (∀ s : State, s.panel.refresh.isSome = true → s.isActive = true → s.isPanel = true →
    let cleared := { s.panel with refresh := none, refreshKind := none }
    let flag := s.entryActive s.cfg.own.panel.underway
    (∀ k : IntentKind, s.panel.held = some k → s.panel.refreshKind = some k →
      Machine.exec .intentRefreshExpiry s = .next (State.finish { s with
        panel := cleared
        loop := { s.loop with intent := s.loop.intent.request { kind := k, underway := flag } } })) ∧
    (s.panel.held = none ∨ s.panel.held ≠ s.panel.refreshKind →
      Machine.exec .intentRefreshExpiry s = .next (State.finish { s with panel := cleared }))) ∧
  (∀ (n : StationId) (e : IntentEntry) (s : State), s.running = true → s.unit.table[n] = some e → e.lease.isSome = true →
    ∃ (t : State) (u : IntentTrip), Machine.exec (.intentLeaseExpiry n) s = .next t ∧
      u = { s.unit with table := s.unit.table.set n none, effective := u.effective } ∧
      u.effective = effectiveOf u.kinds ∧ t = (State.settle { s with unit := u }).finish ∧ Settled { s with unit := u } t) ∧
  (∀ s : State, Machine.exec .resetWindowExpiry s =
    .next (State.finish { s with unit := { s.unit with resetWindow := none } })) ∧
  (∀ s : State, UnitLaws s →
    let held := fun (k : IntentKind) => ∃ (n : StationId) (e : IntentEntry), s.unit.table[n] = some e ∧ e.kind = k
    (s.unit.effective = some .stop ↔ held .stop) ∧
    (∀ k : IntentKind, k ≠ .stop → (s.unit.effective = some k ↔ held k ∧ ∀ j : IntentKind, held j → j = k)) ∧
    (s.unit.effective = none ↔ ¬held .stop ∧ ((∀ k : IntentKind, ¬held k) ∨ ∃ j k : IntentKind, held j ∧ held k ∧ j ≠ k)))

/-- RUN_UP_EXPIRY, IDLE_TIMER_EXPIRY, and DEBOUNCE_EXPIRY at a PUMP station (R157, R158, R160, R161, R164): at the end of its
run-up a machine is RUNNING where its running input is accepted ACTIVE and TRIPPED where not, the capacity follows and the
grants are computed; at the idle stop every RUNNING machine is OFF, the capacity 0, and a machine in STARTING goes on; an
overload accepted ACTIVE trips a machine in STARTING or RUNNING, and a running input accepted INACTIVE one in RUNNING, with the
capacity and the grants of that moment. -/
def Obligations.PumpEventsMoveMachines : Prop :=
  (∀ (p : PumpId) (s : State), (s.flow.pump p).state = .starting → (s.flow.pump p).runUp.isSome = true →
    let m : Pump := ⟨if s.accepted (match p with
        | .a => 0
        | .b => 2) then .running else .tripped, none⟩
    ∃ t : State, Machine.exec (.runUpExpiry p) s = .next t ∧ t.flow.pump p = m ∧
      t.flow.capacity = s.cfg.own.unitsPerPump * t.flow.runningCount ∧ Noticed s t ∧
      (s.isActive = true → s.role = .pump → t.flow = State.computed { s with
        flow := (s.flow.setPump p m).recount s.cfg.own.unitsPerPump })) ∧
  (∀ s : State, s.flow.idle.isSome = true → ∃ t : State, Machine.exec .idleTimerExpiry s = .next t ∧
    t.flow.anyIn .running = false ∧ t.flow.idle = none ∧ (s.flow.anyIn .running = true → t.flow.capacity = 0) ∧
    (∀ p : PumpId, (s.flow.pump p).state = .starting → t.flow.pump p = s.flow.pump p) ∧ Noticed s t) ∧
  (∀ (p : PumpId) (i : InputId) (s : State), s.isActive = true → s.role = .pump → (s.field.di[i]).debounce.isSome = true →
    let overload := i = (match p with
      | .a => 1
      | .b => 3) ∧ s.inputLevel i = true ∧ ((s.flow.pump p).state = .starting ∨ (s.flow.pump p).state = .running)
    let lost := i = (match p with
      | .a => 0
      | .b => 2) ∧ s.inputLevel i = false ∧ (s.flow.pump p).state = .running
    overload ∨ lost → ∃ t : State, Machine.exec (.debounceExpiry i) s = .next t ∧ t.flow.pump p = ⟨.tripped, none⟩ ∧
      t.field.di = s.field.di.set i { accepted := some (s.inputLevel i), debounce := none } ∧
      t.flow = State.computed { s with
        field := t.field, flow := (s.flow.setPump p ⟨.tripped, none⟩).recount s.cfg.own.unitsPerPump })

/-- The grant computation (R162 to R168). Align: the claims that the FRESH records show stay with their places and their grants or
enter behind their priority, by station and slot, while the queue holds fewer than 16. Revoke: the youngest grants of the lowest
priority go, each only while the units granted exceed the capacity. Admit, unless RESTART_HOLD or LONE is set: the queue is
granted in its order up to the first claim that finds 8 grants or does not fit. Start: where it did not fit, the gate is open
and no machine is in STARTING, pump A, or else B, that is OFF with its overload input INACTIVE. It runs at a STATUS of a MOTION
station that changes its entry. -/
def Obligations.GrantComputationFollowsRules : Prop :=
  (∀ s : State, QueueLaws s →
    let x := s.flow
    let y := s.computed
    let shown := fun (c : Claim) => ∃ r : FnRecord, s.peerFn c.station c.fn = some r ∧ 0 < r.units ∧ c.units = r.units ∧
      c.priority = r.priority
    let stay := x.queue.filter (fun c => s.shownClaims.contains c)
    let left := x.grants.filter (fun g => stay.any (fun c => c.key == g))
    let outranks := fun (g v : StationId × FnId) => decide (priorityOf y.queue v < priorityOf y.queue g) ||
      (priorityOf y.queue v == priorityOf y.queue g && decide (left.idxOf g < left.idxOf v))
    let closed := s.unit.restartHold || s.loop.lone
    (∀ c : Claim, c ∈ s.shownClaims ↔ shown c) ∧
    (stay.Sublist y.queue ∧ (∀ c ∈ y.queue, shown c) ∧ (∀ c : Claim, shown c → c ∈ y.queue ∨ y.queue.length = 16) ∧
      y.queue.length ≤ 16 ∧ y.queue.Pairwise (fun c d => d.priority < c.priority ∨ (d.priority = c.priority ∧
        (c ∈ stay ∨ (d ∉ stay ∧ (c.station < d.station ∨ (c.station = d.station ∧ c.fn < d.fn))))))) ∧
    (∃ kept new : List (StationId × FnId), y.grants = kept ++ new ∧ kept.Sublist left ∧
      grantedUnits y.queue kept ≤ x.capacity ∧
      (∀ v ∈ left, v ∉ kept → (∀ g ∈ kept, outranks g v = true) ∧
        x.capacity < grantedUnits y.queue (left.filter (fun g => g == v || outranks g v))) ∧
      (closed = true → new = [] ∧ y.a = x.a ∧ y.b = x.b) ∧
      (closed = false → ∃ front back : List Claim, y.queue = front ++ back ∧
        new = (front.filter (fun c => !kept.contains c.key)).map Claim.key ∧
        (∀ c cs, back = c :: cs → c.key ∉ kept ∧
          (8 ≤ y.grants.length ∨ x.capacity < grantedUnits y.queue y.grants + c.units)) ∧
        (let starts := back ≠ [] ∧ y.grants.length < 8 ∧ s.gateOpen = true ∧ x.a.state ≠ .starting ∧ x.b.state ≠ .starting
          let okA := x.a.state = .off ∧ (s.field.di[1]).accepted = some false
          let okB := x.b.state = .off ∧ (s.field.di[3]).accepted = some false
          let started : Pump := ⟨.starting, some s.cfg.own.runUpMs⟩
          (starts → okA → y.a = started ∧ y.b = x.b) ∧ (starts → ¬okA → okB → y.a = x.a ∧ y.b = started) ∧
          (¬starts ∨ (¬okA ∧ ¬okB) → y.a = x.a ∧ y.b = x.b)))) ∧
    y.grants.length ≤ 8 ∧ grantedUnits y.queue y.grants ≤ x.capacity ∧ y.capacity = x.capacity ∧
    y.idle = if y.grants.isEmpty && y.anyIn .running then some (x.idle.getD s.cfg.own.idleStopS) else none) ∧
  (∀ (w : Wave) (g : Frame) (b : Byte) (r : Record) (s : State), s.isActive = true → s.role = .pump → s.hears w = some g →
    g.kind = 2 → g.station ≠ s.station → decodeStatus g.data = some (b, r) → r.fits .motion = true →
    (s.cfg.briefs[g.station]).role = .motion → s.cfg.subscription.contains g.station = true → s.unit.resetWindow = none →
    let n := g.station
    let e := s.image[n]
    e.state = .known ∨ e.state = .stale ∨ (e.state = .fresh ∧ (e.byte ≠ some b ∨ e.record ≠ some r)) →
    ∃ t : State, Machine.exec (.statusArrival w) s = .next t ∧ t.flow = State.computed { s with
      image := s.image.set n { e with state := .fresh, age := some s.timing.stale, byte := some b, record := some r } })

/-! ## Laws that every step keeps -/

/-- The laws of motion (R104, R107, R108, R110, R112, R114, R120, R123, R125, R127, R138, R139). -/
def Obligations.MotionLawsKept : Prop :=
  ∀ s t : State, MotionLaws s → Machine.step s = .next t → MotionLaws t

/-- The law of levels (R135), with the ranges of the profiles that a load checks (R7). -/
def Obligations.LevelLawsKept : Prop :=
  ∀ s t : State, MotionLaws s → ProfilesOk s → LevelLaws s → Machine.step s = .next t → ProfilesOk t ∧ LevelLaws t

/-- The laws of the claim queue and the grant list (R156, R160, R161, R163, R168). -/
def Obligations.FlowLawsKept : Prop :=
  ∀ s t : State, FlowLaws s → Machine.step s = .next t → FlowLaws t

/-- The laws of the loop interface (R16, R18, R27, R35 to R38, R52). -/
def Obligations.LoopLawsKept : Prop :=
  ∀ s t : State, LoopLaws s → Machine.step s = .next t → LoopLaws t

/-- The laws of the peer image (R57 to R59, R61, R65, R67). -/
def Obligations.ImageLawsKept : Prop :=
  ∀ s t : State, ImageLaws s → Machine.step s = .next t → ImageLaws t

/-- In ACTIVE the guard results are always those of the present state; in JOINING and WITHDRAWN every permit is false, every hold
cause none, every mode NORMAL, every blocking term 15, every lamp OFF and the flash timer stopped, and each term has a value; and
all is as after a reset before a good load (R75, R86, R88). Which values the terms and pair terms have outside ACTIVE is log
entry 41 (DESIGN CHOICE). -/
def Obligations.GuardLawsKept : Prop :=
  ∀ s t : State, GuardLaws s → Machine.step s = .next t → GuardLaws t

/-- The laws of the intent table and the trip list (R146, R149, R151). -/
def Obligations.UnitLawsKept : Prop :=
  ∀ s t : State, UnitLaws s → Machine.step s = .next t → UnitLaws t

/-- The laws of the field inputs (R96, R98, R101). -/
def Obligations.FieldLawsKept : Prop :=
  ∀ s t : State, FieldLaws s → Machine.step s = .next t → FieldLaws t

/-- A latched fault ends at a RESET arrival or at a reset condition only (R125, R126, R150). -/
def Obligations.LatchedFaultsStay : Prop :=
  ∀ (c : Instr) (s t : State) (f : FnId), MotionLaws s → Machine.exec c s = .next t → (s.fns[f]).fault.latched = true →
    (t.fns[f]).fault.latched = true ∨ (∃ r, c = .resetCondition r) ∨ ResetArrives c s

/-- A function enters PRESSURISE from AWAIT_FLOW only, at a change notice of the image, with the grant in its pump station's FRESH
list (R111, R113). -/
def Obligations.PressuriseOnlyByGrant : Prop :=
  ∀ (c : Instr) (s t : State) (f : FnId), Machine.exec c s = .next t → (s.fns[f]).motion ≠ .pressurise →
    (t.fns[f]).motion = .pressurise → (s.fns[f]).motion = .awaitFlow ∧ t.holdsGrant f = true ∧
      ((∃ w, c = .statusArrival w) ∨ (∃ w, c = .announceArrival w) ∨ (∃ n, c = .ageExpiry n))

/-- What changes at its own events only: the configuration at a load, the reset cause and the straps at a reset, the edition at
the completion of a send, and RESTART_HOLD, which is set at the entry to ACTIVE that the join window's expiry brings and ends at
a RESET arrival (R1, R3, R11, R14, R50, R150). -/
def Obligations.OwnEventsOnly : Prop :=
  ∀ (c : Instr) (s t : State), Machine.exec c s = .next t → (∀ r, c ≠ .resetCondition r) →
    ((∀ b l, c ≠ .imageReadComplete b l) → t.setup = s.setup) ∧
    ((∀ n b, c ≠ .leaveReset n b) → t.station = s.station ∧ t.bitRate = s.bitRate) ∧
    t.resetCause = s.resetCause ∧ t.choice = s.choice ∧ t.pending = s.pending ∧
    ((∀ h, c ≠ .sendComplete h) → t.pub.edition = s.pub.edition) ∧
    (s.unit.restartHold = true → ¬ResetArrives c s → t.unit.restartHold = true) ∧
    (s.unit.restartHold = false → t.unit.restartHold = true → c = .joinWindowExpiry ∧ s.life = .joining ∧ t.life = .active)

/-- Every change of a published value requests a STATUS, or sets the deferred flag while the inhibit is in force (R48, R49): at
every command but the completion of a send (which commits a copy), a station byte, a field of the record, or a position by a
position step or in its validity, that ends different from its start and from the last-sent copy, or from its start where there
is no copy. Which values count as one field is log entry 37, and what a change back to the copy does is log entry 45. -/
def Obligations.ChangesRequestStatus : Prop :=
  ∀ (c : Instr) (s t : State) (ro rn : Record), Machine.exec c s = .next t → (∀ h, c ≠ .sendComplete h) →
    s.isActive = true → t.isActive = true → s.ownRecord = some ro → t.ownRecord = some rn → s.flow.grants.length ≤ 8 →
    let copy := s.pub.lastSent.bind decodeStatus
    let byteChanged := t.stationByte ≠ s.stationByte ∧ ∀ (cb : Byte) (rc : Record), copy = some (cb, rc) → t.stationByte ≠ cb
    let fieldChanged := ∃ (k o v : Nat), ro.fields[k]? = some o ∧ rn.fields[k]? = some v ∧ v ≠ o ∧
      ∀ (cb : Byte) (rc : Record), copy = some (cb, rc) → ∃ x : Nat, rc.fields[k]? = some x ∧ v ≠ x
    let moved := ∃ (k o v : Nat), ro.positions[k]? = some o ∧ rn.positions[k]? = some v ∧ v ≠ o ∧
      ∀ (cb : Byte) (rc : Record), copy = some (cb, rc) → ∃ x : Nat, rc.positions[k]? = some x ∧ v ≠ x ∧
        (v = 1023 ∨ x = 1023 ∨ s.timing.positionStep ≤ apart v x)
    byteChanged ∨ fieldChanged ∨ moved →
      if s.pub.inhibit then t.pub.deferred = true else t.loop.status ≠ .empty

/-! ## Frames and arithmetic -/

/-- The contents of the four kinds: what a station encodes, a peer decodes, and no other bytes decode to it (R39 to R47). -/
def Obligations.FrameContentsRoundTrip : Prop :=
  (∀ (b : Byte) (r : Record), b.getLsbD 7 = true → b.toNat % 4 ≠ 3 → r.wf = true →
    decodeStatus (encodeStatus b r) = some (b, r)) ∧
  (∀ (data : List Byte) (b : Byte) (r : Record), decodeStatus data = some (b, r) → encodeStatus b r = data) ∧
  (∀ r : TripReason, decodeTrip r.encode = some r) ∧
  (∀ (data : List Byte) (r : TripReason), decodeTrip data = some r → r.encode = data) ∧
  (∀ i : IntentFrame, decodeIntent i.encode = some i) ∧
  (∀ (data : List Byte) (i : IntentFrame), decodeIntent data = some i → i.encode = data) ∧
  (∀ a : AnnounceFrame, decodeAnnounce a.encode = some a) ∧
  (∀ (data : List Byte) (a : AnnounceFrame), decodeAnnounce data = some a → a.encode = data)

/-- A frame driven at one bit time throughout, within a sixteenth of the receiver's nominal one, is received good with every
field it was sent with, and its heard slot lies ten bit times after the start-bit edge of its low CRC cell, one bit time long
(R17, R20 to R26, R31): 64 bit times and ten for each DATA cell after the first edge. -/
def Obligations.DrivenFrameIsReceived : Prop :=
  ∀ (rate : BitRate) (kind edition t : Nat) (n : StationId) (data : List Byte), kind < 16 → edition < 8 → data.length ≤ 20 →
    15 * bitTicks rate ≤ 16 * t → 16 * t ≤ 17 * bitTicks rate →
    let frame : Frame := { kind := kind, station := n, edition := edition, data := data }
    let wave : Wave := (frameLevels (frameBytes kind n.val edition data)).map (fun d => { dominant := d, ticks := t })
    receive rate wave = .good frame { start := (64 + 10 * data.length) * t, length := t } ∧
    heardAt rate wave = some { start := (64 + 10 * data.length) * t, length := t } ∧
    driveWave rate (frameLevels (frameBytes kind n.val edition data)) =
      (frameLevels (frameBytes kind n.val edition data)).map (fun d => { dominant := d, ticks := bitTicks rate })

/-- Scaling, ramping and pulses (R130, R136, R137): the unclamped position is the exact quotient rounded half away from zero, 0
and 1000 at the calibration points; in STOPPING the level goes one step of the stop ramp toward 0, and n steps take n times the
rate; a high time is the level's share of the period to half a microsecond, raised to 20 µs where that is above 0 and below 20,
and lies within the period. -/
def Obligations.DriveArithmetic : Prop :=
  (∀ (x : FnSetup) (raw : Reading), x.c0 ≠ x.c1 →
    let n : Int := ((raw.toNat : Int) - (x.c0 : Int)) * 1000
    let d : Int := (x.c1 : Int) - (x.c0 : Int)
    let p := unclamped x raw
    (2 * p.natAbs * d.natAbs ≤ 2 * n.natAbs + d.natAbs ∧ 2 * n.natAbs < 2 * p.natAbs * d.natAbs + d.natAbs) ∧
    0 ≤ p * d * n ∧ (raw.toNat = x.c0 → p = 0) ∧ (raw.toNat = x.c1 → p = 1000)) ∧
  (∀ (s : State) (f : FnId) (d : Dir), (s.fns[f]).motion = .stopping → (s.fns[f]).target = some d →
    s.nextLevel f = rampStep (s.profile f).stopRamp 0 (s.drive[f]).level) ∧
  (∀ rate level n : Nat, (rampStep rate 0)^[n] level = level - n * rate) ∧
  (∀ pwm level : Nat, 500 ≤ pwm → pwm ≤ 4000 → level ≤ 1000 →
    let h := highTime pwm level
    h ≤ pwm ∧ (level = 0 → h = 0) ∧ (0 < level → 20 ≤ h) ∧ (level = 1000 → h = pwm) ∧
    ∃ share : Nat, 1000 * share ≤ level * pwm + 500 ∧ level * pwm < 1000 * share + 500 ∧
      h = if 0 < share ∧ share < 20 then 20 else share)

/-! ## Guards and outputs -/

/-- The test before every operator (R78) and MEMBER, MASKED_EQUAL, AT_LEAST and BELOW over every kind of value (R79 to R81): a
term is false whatever its invert flag where its station's entry is not FRESH, where its selector does not fit the role held
there, and where it reads a position of 1023, and else its operator on what it reads, inverted where the flag is set. What each
selector fits and what it reads of an entry are spelled out (R76), a LOCAL_INPUT from the accepted level of its input (R77). -/
def Obligations.OperatorsCompare : Prop :=
  (∀ (codes : BitVec 16) (v : Nat), (Operator.member codes).apply (.code v) = codes.getLsbD v) ∧
  (∀ (b : Byte) (n : Nat), (Operator.member 0).apply (.flags b) = false ∧ (Operator.member 0).apply (.number n) = false) ∧
  (∀ m v b : Byte, (Operator.maskedEqual m v).apply (.flags b) = true ↔
    ∀ i : Nat, m.getLsbD i = true → b.getLsbD i = v.getLsbD i) ∧
  (∀ (m v : Byte) (n : Nat), let low := (Operator.maskedEqual m v).apply (.flags (BitVec.ofNat 8 n))
    (Operator.maskedEqual m v).apply (.code n) = low ∧ (Operator.maskedEqual m v).apply (.number n) = low) ∧
  (∀ (v : Byte) (x : TermReading), (Operator.maskedEqual 0 v).apply x = true) ∧
  (∀ (t : Nat) (x : TermReading) (n : Nat), (x = .code n ∨ x = .number n ∨ ∃ b : Byte, x = .flags b ∧ n = b.toNat) →
    ((Operator.atLeast t).apply x = true ↔ t ≤ n) ∧ ((Operator.below t).apply x = true ↔ n < t)) ∧
  (∀ x : TermReading, (Operator.atLeast 0).apply x = true ∧ (Operator.below 0).apply x = false) ∧
  (∀ (s : State) (t : Term), let e := s.entry t.station
    (e.state ≠ .fresh → s.termValue t = false) ∧
    (∀ r : Role, e.role = some r → t.selector.fits r = false → s.termValue t = false) ∧
    (∀ (f : FnId) (r : FnRecord), t.selector = .fnPosition f → s.peerFn t.station f = some r → r.position = 1023 →
      s.termValue t = false) ∧
    (∀ (r : Role) (v : TermReading), e.state = .fresh → e.role = some r → t.selector.fits r = true →
      s.reads e t.selector = some v → (∀ f : FnId, t.selector = .fnPosition f → v ≠ .number 1023) →
      s.termValue t = (t.operator.apply v != t.invert))) ∧
  (∀ (r : Role) (f : FnId) (p : PumpId) (i : InputId),
    (Selector.stationFlags.fits r = true ↔ r ≠ .unused) ∧
    ((Selector.fnMotion f).fits r = true ↔ r = .motion) ∧ ((Selector.fnEnd f).fits r = true ↔ r = .motion) ∧
    ((Selector.fnFault f).fits r = true ↔ r = .motion) ∧ ((Selector.fnPosition f).fits r = true ↔ r = .motion) ∧
    (Selector.panelFlags.fits r = true ↔ r = .panelCommand ∨ r = .panelStop) ∧
    ((Selector.pumpState p).fits r = true ↔ r = .pump) ∧ (Selector.pumpCapacity.fits r = true ↔ r = .pump) ∧
    (Selector.localInput i).fits r = true) ∧
  (∀ (s : State) (e : Entry),
    (∀ b : Byte, e.byte = some b → s.reads e .stationFlags = some (.flags b)) ∧
    (∀ i : InputId, ((s.field.di[i]).accepted = some true → s.reads e (.localInput i) = some (.code 1)) ∧
      ((s.field.di[i]).accepted ≠ some true → s.reads e (.localInput i) = some (.code 0))) ∧
    (∀ (fns : Vector FnRecord 4) (f : FnId), e.record = some (.motion fns) →
      s.reads e (.fnMotion f) = some (.code (([.none, .rest, .awaitFlow, .pressurise, .travel, .creep, .seat, .stopping,
        .heldFault] : List Motion).idxOf (fns[f]).motion)) ∧
      s.reads e (.fnEnd f) = some (.code (([.atClosed, .atOpen, .between, .unknown] : List EndState).idxOf (fns[f]).endState)) ∧
      s.reads e (.fnFault f) = some (.code (([.none, .holdLost, .grantLost, .peerLost, .stopped, .strokeTimeout, .stall,
        .noPressure, .noFlow, .sensorDisagree, .transducer, .skew, .wrongDirection, .endLost] :
        List FaultCode).idxOf (fns[f]).fault)) ∧
      s.reads e (.fnPosition f) = some (.number (fns[f]).position)) ∧
    (∀ (a b : PumpState) (cap : Nat) (gs : List (StationId × FnId)), e.record = some (.pump a b cap gs) →
      let code := fun (m : PumpState) => TermReading.code (([.off, .starting, .running, .tripped] : List PumpState).idxOf m)
      s.reads e (.pumpState .a) = some (code a) ∧ s.reads e (.pumpState .b) = some (code b) ∧
      s.reads e .pumpCapacity = some (.number cap)) ∧
    (∀ (u c m : Bool) (n : StationId) (f : FnId), e.record = some (.panel u c m n f) →
      s.reads e .panelFlags = some (.flags (BitVec.ofNat 8 (128 * u.toNat + 64 * c.toNat + 32 * m.toNat)))))

/-- A term of a station that is not FRESH is false whatever its invert flag (R78). Permit to start is true exactly where the pair
term and every applicable term are true, and permit to continue where the pair term and every applicable HOLD term are; the hold
cause is none while the permit to continue is true, the pair while the pair term is false, and else the first applicable HOLD
term that is false; permit to start implies permit to continue (R82, R83). In ACTIVE a
configured function's permits are those of its lists, its mode and its pair term; the pair term of an unpaired function is true
(it carries none), and a paired one's is true exactly while the peer's entry is FRESH and its record shows a position other
than 1023 (R84); the mode in NONE, REST and HELD_FAULT is SINGLE exactly while the effective intent is a SINGLE of the
function (R82); the blocking term is the index of the first applicable term that is false in the direction of a demand in REST,
and else 15 (R85), in AWAITING_RELEASE too, where R111 says 15 (log entry 52, DEDUCED). A function that leaves REST for AWAIT_FLOW has the mode of that moment, and no command changes it before the
movement ends (R82). -/
def Obligations.TermsAndPermits : Prop :=
  (∀ (s : State) (t : Term), (s.entry t.station).state ≠ .fresh → s.termValue t = false) ∧
  (∀ (terms : List Term) (values : List Bool) (m : Mode) (pair : Bool), values.length = terms.length →
    let p := permitsOf terms values m pair
    let falls := fun (hold : Bool) (i : Nat) => ∃ t : Term, terms[i]? = some t ∧ values[i]? = some false ∧
      (m = .normal ∨ t.safe = true) ∧ (hold = true → t.hold = true)
    (p.start = true → p.proceed = true) ∧
    (p.start = true ↔ pair = true ∧ ∀ i : Nat, ¬falls false i) ∧
    (p.proceed = true ↔ pair = true ∧ ∀ i : Nat, ¬falls true i) ∧
    (p.holdCause = .none ↔ p.proceed = true) ∧ (p.holdCause = .pair ↔ pair = false) ∧
    (∀ k : Nat, p.holdCause = .term k ↔ pair = true ∧ falls true k ∧ ∀ i : Nat, i < k → ¬falls true i)) ∧
  (∀ (s : State) (f : FnId) (x : FnSetup), s.isActive = true → GuardLaws s → s.fnSetup f = some x →
    let g := s.guard.fns[f]
    let m := (s.fns[f]).motion
    let demanded := fun (d : Dir) => s.made f d = false ∧ (s.unit.effective = some (.single s.station f d) ∨
      s.unit.effective = some (match d with
        | .toOpen => IntentKind.toOpen
        | .toClose => IntentKind.toClose))
    let falls := fun (d : Dir) (i : Nat) => ∃ t : Term, (x.terms d)[i]? = some t ∧ s.termValue t = false ∧
      (g.mode = .normal ∨ t.safe = true)
    (∀ d : Dir, g.permits d = permitsOf (x.terms d) ((x.terms d).map s.termValue) g.mode g.pairTerm) ∧
    (x.pair = none → g.pairTerm = true) ∧
    (∀ (n : StationId) (h : FnId), x.pair = some (n, h) → (g.pairTerm = true ↔ (s.entry n).state = .fresh ∧
      ∃ fns : Vector FnRecord 4, (s.entry n).record = some (.motion fns) ∧ (fns[h]).position ≠ 1023)) ∧
    (m = .none ∨ m = .rest ∨ m = .heldFault → (g.mode = .single ↔
      ∃ d : Dir, s.unit.effective = some (.single s.station f d))) ∧
    (∀ (d : Dir) (i : Nat), m = .rest → demanded d → falls d i → (∀ k : Nat, k < i → ¬falls d k) → g.blocking = i) ∧
    (m ≠ .rest ∨ (∀ (d : Dir) (i : Nat), demanded d → ¬falls d i) → g.blocking = 15)) ∧
  (∀ (c : Instr) (s t : State) (f : FnId), Machine.exec c s = .next t → s.isActive = true → t.isActive = true →
    (s.fnSetup f).isSome = true →
    let m := (s.fns[f]).motion
    ((t.fns[f]).motion = .awaitFlow → m ≠ .awaitFlow → ((t.guard.fns[f]).mode = .single ↔
      ∃ d : Dir, t.unit.effective = some (.single t.station f d))) ∧
    ((t.fns[f]).motion.moving = true → m ≠ .none → m ≠ .rest → m ≠ .heldFault →
      (t.guard.fns[f]).mode = (s.guard.fns[f]).mode))

/-- Lamp states (R89): FLASH where the FLASH condition has a term and all are true, else ON where the ON condition has, else
OFF; a lamp beyond the count has neither, and the phase and class of a term have no effect. -/
def Obligations.LampsShowConditions : Prop :=
  (∀ (s : State) (n : Fin 8), s.isActive = true → GuardLaws s →
    let l := (s.cfg.own.lamps[n.val]?).getD { on := [], flash := [] }
    let holds := fun (ts : List Term) => ts ≠ [] ∧ ∀ t ∈ ts, s.termValue t = true
    ((s.guard.lamps[n]).state = .flash ↔ holds l.flash) ∧
    ((s.guard.lamps[n]).state = .on ↔ ¬holds l.flash ∧ holds l.on) ∧
    ((s.guard.lamps[n]).state = .off ↔ ¬holds l.flash ∧ ¬holds l.on)) ∧
  (∀ (s : State) (t : Term) (hold safe : Bool), s.termValue { t with hold := hold, safe := safe } = s.termValue t) ∧
  (∀ (s : State) (t : Term), (s.entry t.station).state ≠ .fresh → s.termValue t = false)

/-- Outputs (R90, R104, R107, R112, R138, R139, R141): every valve output is off while the gate is closed; while it is open the
solenoid of a direction is energised exactly while its function is in PRESSURISE to STOPPING toward it, fully in PULL_IN and by
its pulses in HOLD, never both directions, the proportional output in the high times of its pulses, and a contactor while its
machine is in STARTING or RUNNING; a lamp is lit in ACTIVE while it is ON, or FLASH in the lit half. -/
def Obligations.OutputsFollowState : Prop :=
  (∀ s : State, s.gateOpen = false → OutputsOff s) ∧
  (∀ s : State, s.gateOpen = true ↔ s.life = .active ∧ s.field.stopLoopClosed = true ∧ s.field.supplyOk = true ∧
    ∀ n : StationId, s.unit.trips[n] ≠ some .eStop) ∧
  (∀ (s : State) (f : FnId), MotionLaw s f →
    ((s.fns[f]).motion.moving = false →
      s.solenoidOut f .toOpen = false ∧ s.solenoidOut f .toClose = false ∧ s.proportionalOut f = false) ∧
    (s.gateOpen = true → ∀ d : Dir, (s.solenoidEnergised f d = true ↔
      (s.fns[f]).motion.moving = true ∧ (s.fns[f]).target = some d))) ∧
  (∀ (s : State) (f : FnId) (d : Dir), s.solenoidEnergised f d = true →
    ((s.drive[f]).phase = .pullIn → s.solenoidOut f d = true) ∧
    (∀ (high low level : Nat) (inHigh : Bool), (s.drive[f]).phase = .hold → (s.drive[f]).sol = .running high low inHigh level →
      s.solenoidOut f d = inHigh)) ∧
  (∀ (s : State) (f : FnId), ¬(s.solenoidOut f .toOpen = true ∧ s.solenoidOut f .toClose = true)) ∧
  (∀ (s : State) (f : FnId), s.gateOpen = true → ((s.drive[f]).prop = .off → s.proportionalOut f = false) ∧
    ∀ (high low level : Nat) (inHigh : Bool), (s.drive[f]).prop = .running high low inHigh level →
      s.proportionalOut f = inHigh) ∧
  (∀ (s : State) (f : FnId), s.role ≠ .pump →
    s.so (Fin.ofNat 8 (2 * f.val)) = s.solenoidOut f .toOpen ∧ s.so (Fin.ofNat 8 (2 * f.val + 1)) = s.solenoidOut f .toClose) ∧
  (∀ s : State, s.role = .pump → s.gateOpen = true →
    (s.so 0 = true ↔ s.flow.a.state = .starting ∨ s.flow.a.state = .running) ∧
    (s.so 1 = true ↔ s.flow.b.state = .starting ∨ s.flow.b.state = .running)) ∧
  (∀ (s : State) (n : Fin 8), s.lamp n = true ↔ s.isActive = true ∧
    ((s.guard.lamps[n]).state = .on ∨ ((s.guard.lamps[n]).state = .flash ∧ s.guard.flash = some .lit)))

/-- The dump valve output after every command (R140): energised exactly while the gate is open and some function is in
PRESSURISE, TRAVEL, CREEP, SEAT or STOPPING, so never where every slot is in NONE; what a station publishes does not show it. -/
def Obligations.DumpValveFollowsMotion : Prop :=
  (∀ (c : Instr) (s t : State), Machine.exec c s = .next t →
    (t.dv = true ↔ t.gateOpen = true ∧ ∃ f : FnId, (t.fns[f]).motion = .pressurise ∨ (t.fns[f]).motion = .travel ∨
      (t.fns[f]).motion = .creep ∨ (t.fns[f]).motion = .seat ∨ (t.fns[f]).motion = .stopping) ∧
    ((∀ f : FnId, (t.fns[f]).motion = .none) → t.dv = false)) ∧
  (∀ (s : State) (b : Bool), ({ s with dump := b }).stationByte = s.stationByte ∧ ({ s with dump := b }).ownRecord = s.ownRecord)
end

