-- ==== Sys2Proof/Laws/State.lean ====
section
/-! SUPPORT. One lemma for each field under each update of a block, and what the views that read one field only make of it:
no later proof unfolds a record update. -/

namespace Sys2Proof.Machine

variable (s : State)

/-! ### `State.onLoop` -/

@[simp] theorem State.onLoop_pending (g : Loop → Loop) : (s.onLoop g).pending = s.pending := rfl
@[simp] theorem State.onLoop_choice (g : Loop → Loop) : (s.onLoop g).choice = s.choice := rfl
@[simp] theorem State.onLoop_life (g : Loop → Loop) : (s.onLoop g).life = s.life := rfl
@[simp] theorem State.onLoop_resetCause (g : Loop → Loop) : (s.onLoop g).resetCause = s.resetCause := rfl
@[simp] theorem State.onLoop_station (g : Loop → Loop) : (s.onLoop g).station = s.station := rfl
@[simp] theorem State.onLoop_bitRate (g : Loop → Loop) : (s.onLoop g).bitRate = s.bitRate := rfl
@[simp] theorem State.onLoop_header (g : Loop → Loop) : (s.onLoop g).header = s.header := rfl
@[simp] theorem State.onLoop_report (g : Loop → Loop) : (s.onLoop g).report = s.report := rfl
@[simp] theorem State.onLoop_setup (g : Loop → Loop) : (s.onLoop g).setup = s.setup := rfl
@[simp] theorem State.onLoop_joinWindow (g : Loop → Loop) : (s.onLoop g).joinWindow = s.joinWindow := rfl
@[simp] theorem State.onLoop_announceTimer (g : Loop → Loop) : (s.onLoop g).announceTimer = s.announceTimer := rfl
@[simp] theorem State.onLoop_goodFrames (g : Loop → Loop) : (s.onLoop g).goodFrames = s.goodFrames := rfl
@[simp] theorem State.onLoop_loop (g : Loop → Loop) : (s.onLoop g).loop = g s.loop := rfl
@[simp] theorem State.onLoop_pub (g : Loop → Loop) : (s.onLoop g).pub = s.pub := rfl
@[simp] theorem State.onLoop_image (g : Loop → Loop) : (s.onLoop g).image = s.image := rfl
@[simp] theorem State.onLoop_guard (g : Loop → Loop) : (s.onLoop g).guard = s.guard := rfl
@[simp] theorem State.onLoop_field (g : Loop → Loop) : (s.onLoop g).field = s.field := rfl
@[simp] theorem State.onLoop_fns (g : Loop → Loop) : (s.onLoop g).fns = s.fns := rfl
@[simp] theorem State.onLoop_drive (g : Loop → Loop) : (s.onLoop g).drive = s.drive := rfl
@[simp] theorem State.onLoop_dump (g : Loop → Loop) : (s.onLoop g).dump = s.dump := rfl
@[simp] theorem State.onLoop_panel (g : Loop → Loop) : (s.onLoop g).panel = s.panel := rfl
@[simp] theorem State.onLoop_unit (g : Loop → Loop) : (s.onLoop g).unit = s.unit := rfl
@[simp] theorem State.onLoop_flow (g : Loop → Loop) : (s.onLoop g).flow = s.flow := rfl
@[simp] theorem State.onLoop_cfg (g : Loop → Loop) : (s.onLoop g).cfg = s.cfg := rfl
@[simp] theorem State.onLoop_timing (g : Loop → Loop) : (s.onLoop g).timing = s.timing := rfl
@[simp] theorem State.onLoop_role (g : Loop → Loop) : (s.onLoop g).role = s.role := rfl
@[simp] theorem State.onLoop_isActive (g : Loop → Loop) : (s.onLoop g).isActive = s.isActive := rfl
@[simp] theorem State.onLoop_running (g : Loop → Loop) : (s.onLoop g).running = s.running := rfl
@[simp] theorem State.onLoop_follows (g : Loop → Loop) : (s.onLoop g).follows = s.follows := rfl
@[simp] theorem State.onLoop_maySend (g : Loop → Loop) : (s.onLoop g).maySend = s.maySend := rfl
@[simp] theorem State.onLoop_isPanel (g : Loop → Loop) : (s.onLoop g).isPanel = s.isPanel := rfl
@[simp] theorem State.onLoop_fnSetup (g : Loop → Loop) (h : FnId) : (s.onLoop g).fnSetup h = s.fnSetup h := rfl

/-! ### `State.onPub` -/

@[simp] theorem State.onPub_pending (g : Publisher → Publisher) : (s.onPub g).pending = s.pending := rfl
@[simp] theorem State.onPub_choice (g : Publisher → Publisher) : (s.onPub g).choice = s.choice := rfl
@[simp] theorem State.onPub_life (g : Publisher → Publisher) : (s.onPub g).life = s.life := rfl
@[simp] theorem State.onPub_resetCause (g : Publisher → Publisher) : (s.onPub g).resetCause = s.resetCause := rfl
@[simp] theorem State.onPub_station (g : Publisher → Publisher) : (s.onPub g).station = s.station := rfl
@[simp] theorem State.onPub_bitRate (g : Publisher → Publisher) : (s.onPub g).bitRate = s.bitRate := rfl
@[simp] theorem State.onPub_header (g : Publisher → Publisher) : (s.onPub g).header = s.header := rfl
@[simp] theorem State.onPub_report (g : Publisher → Publisher) : (s.onPub g).report = s.report := rfl
@[simp] theorem State.onPub_setup (g : Publisher → Publisher) : (s.onPub g).setup = s.setup := rfl
@[simp] theorem State.onPub_joinWindow (g : Publisher → Publisher) : (s.onPub g).joinWindow = s.joinWindow := rfl
@[simp] theorem State.onPub_announceTimer (g : Publisher → Publisher) : (s.onPub g).announceTimer = s.announceTimer := rfl
@[simp] theorem State.onPub_goodFrames (g : Publisher → Publisher) : (s.onPub g).goodFrames = s.goodFrames := rfl
@[simp] theorem State.onPub_loop (g : Publisher → Publisher) : (s.onPub g).loop = s.loop := rfl
@[simp] theorem State.onPub_pub (g : Publisher → Publisher) : (s.onPub g).pub = g s.pub := rfl
@[simp] theorem State.onPub_image (g : Publisher → Publisher) : (s.onPub g).image = s.image := rfl
@[simp] theorem State.onPub_guard (g : Publisher → Publisher) : (s.onPub g).guard = s.guard := rfl
@[simp] theorem State.onPub_field (g : Publisher → Publisher) : (s.onPub g).field = s.field := rfl
@[simp] theorem State.onPub_fns (g : Publisher → Publisher) : (s.onPub g).fns = s.fns := rfl
@[simp] theorem State.onPub_drive (g : Publisher → Publisher) : (s.onPub g).drive = s.drive := rfl
@[simp] theorem State.onPub_dump (g : Publisher → Publisher) : (s.onPub g).dump = s.dump := rfl
@[simp] theorem State.onPub_panel (g : Publisher → Publisher) : (s.onPub g).panel = s.panel := rfl
@[simp] theorem State.onPub_unit (g : Publisher → Publisher) : (s.onPub g).unit = s.unit := rfl
@[simp] theorem State.onPub_flow (g : Publisher → Publisher) : (s.onPub g).flow = s.flow := rfl
@[simp] theorem State.onPub_cfg (g : Publisher → Publisher) : (s.onPub g).cfg = s.cfg := rfl
@[simp] theorem State.onPub_timing (g : Publisher → Publisher) : (s.onPub g).timing = s.timing := rfl
@[simp] theorem State.onPub_role (g : Publisher → Publisher) : (s.onPub g).role = s.role := rfl
@[simp] theorem State.onPub_isActive (g : Publisher → Publisher) : (s.onPub g).isActive = s.isActive := rfl
@[simp] theorem State.onPub_running (g : Publisher → Publisher) : (s.onPub g).running = s.running := rfl
@[simp] theorem State.onPub_follows (g : Publisher → Publisher) : (s.onPub g).follows = s.follows := rfl
@[simp] theorem State.onPub_maySend (g : Publisher → Publisher) : (s.onPub g).maySend = s.maySend := rfl
@[simp] theorem State.onPub_isPanel (g : Publisher → Publisher) : (s.onPub g).isPanel = s.isPanel := rfl
@[simp] theorem State.onPub_fnSetup (g : Publisher → Publisher) (h : FnId) : (s.onPub g).fnSetup h = s.fnSetup h := rfl

/-! ### `State.onField` -/

@[simp] theorem State.onField_pending (g : FieldInputs → FieldInputs) : (s.onField g).pending = s.pending := rfl
@[simp] theorem State.onField_choice (g : FieldInputs → FieldInputs) : (s.onField g).choice = s.choice := rfl
@[simp] theorem State.onField_life (g : FieldInputs → FieldInputs) : (s.onField g).life = s.life := rfl
@[simp] theorem State.onField_resetCause (g : FieldInputs → FieldInputs) : (s.onField g).resetCause = s.resetCause := rfl
@[simp] theorem State.onField_station (g : FieldInputs → FieldInputs) : (s.onField g).station = s.station := rfl
@[simp] theorem State.onField_bitRate (g : FieldInputs → FieldInputs) : (s.onField g).bitRate = s.bitRate := rfl
@[simp] theorem State.onField_header (g : FieldInputs → FieldInputs) : (s.onField g).header = s.header := rfl
@[simp] theorem State.onField_report (g : FieldInputs → FieldInputs) : (s.onField g).report = s.report := rfl
@[simp] theorem State.onField_setup (g : FieldInputs → FieldInputs) : (s.onField g).setup = s.setup := rfl
@[simp] theorem State.onField_joinWindow (g : FieldInputs → FieldInputs) : (s.onField g).joinWindow = s.joinWindow := rfl
@[simp] theorem State.onField_announceTimer (g : FieldInputs → FieldInputs) : (s.onField g).announceTimer = s.announceTimer := rfl
@[simp] theorem State.onField_goodFrames (g : FieldInputs → FieldInputs) : (s.onField g).goodFrames = s.goodFrames := rfl
@[simp] theorem State.onField_loop (g : FieldInputs → FieldInputs) : (s.onField g).loop = s.loop := rfl
@[simp] theorem State.onField_pub (g : FieldInputs → FieldInputs) : (s.onField g).pub = s.pub := rfl
@[simp] theorem State.onField_image (g : FieldInputs → FieldInputs) : (s.onField g).image = s.image := rfl
@[simp] theorem State.onField_guard (g : FieldInputs → FieldInputs) : (s.onField g).guard = s.guard := rfl
@[simp] theorem State.onField_field (g : FieldInputs → FieldInputs) : (s.onField g).field = g s.field := rfl
@[simp] theorem State.onField_fns (g : FieldInputs → FieldInputs) : (s.onField g).fns = s.fns := rfl
@[simp] theorem State.onField_drive (g : FieldInputs → FieldInputs) : (s.onField g).drive = s.drive := rfl
@[simp] theorem State.onField_dump (g : FieldInputs → FieldInputs) : (s.onField g).dump = s.dump := rfl
@[simp] theorem State.onField_panel (g : FieldInputs → FieldInputs) : (s.onField g).panel = s.panel := rfl
@[simp] theorem State.onField_unit (g : FieldInputs → FieldInputs) : (s.onField g).unit = s.unit := rfl
@[simp] theorem State.onField_flow (g : FieldInputs → FieldInputs) : (s.onField g).flow = s.flow := rfl
@[simp] theorem State.onField_cfg (g : FieldInputs → FieldInputs) : (s.onField g).cfg = s.cfg := rfl
@[simp] theorem State.onField_timing (g : FieldInputs → FieldInputs) : (s.onField g).timing = s.timing := rfl
@[simp] theorem State.onField_role (g : FieldInputs → FieldInputs) : (s.onField g).role = s.role := rfl
@[simp] theorem State.onField_isActive (g : FieldInputs → FieldInputs) : (s.onField g).isActive = s.isActive := rfl
@[simp] theorem State.onField_running (g : FieldInputs → FieldInputs) : (s.onField g).running = s.running := rfl
@[simp] theorem State.onField_follows (g : FieldInputs → FieldInputs) : (s.onField g).follows = s.follows := rfl
@[simp] theorem State.onField_maySend (g : FieldInputs → FieldInputs) : (s.onField g).maySend = s.maySend := rfl
@[simp] theorem State.onField_isPanel (g : FieldInputs → FieldInputs) : (s.onField g).isPanel = s.isPanel := rfl
@[simp] theorem State.onField_fnSetup (g : FieldInputs → FieldInputs) (h : FnId) : (s.onField g).fnSetup h = s.fnSetup h := rfl

/-! ### `State.onUnit` -/

@[simp] theorem State.onUnit_pending (g : IntentTrip → IntentTrip) : (s.onUnit g).pending = s.pending := rfl
@[simp] theorem State.onUnit_choice (g : IntentTrip → IntentTrip) : (s.onUnit g).choice = s.choice := rfl
@[simp] theorem State.onUnit_life (g : IntentTrip → IntentTrip) : (s.onUnit g).life = s.life := rfl
@[simp] theorem State.onUnit_resetCause (g : IntentTrip → IntentTrip) : (s.onUnit g).resetCause = s.resetCause := rfl
@[simp] theorem State.onUnit_station (g : IntentTrip → IntentTrip) : (s.onUnit g).station = s.station := rfl
@[simp] theorem State.onUnit_bitRate (g : IntentTrip → IntentTrip) : (s.onUnit g).bitRate = s.bitRate := rfl
@[simp] theorem State.onUnit_header (g : IntentTrip → IntentTrip) : (s.onUnit g).header = s.header := rfl
@[simp] theorem State.onUnit_report (g : IntentTrip → IntentTrip) : (s.onUnit g).report = s.report := rfl
@[simp] theorem State.onUnit_setup (g : IntentTrip → IntentTrip) : (s.onUnit g).setup = s.setup := rfl
@[simp] theorem State.onUnit_joinWindow (g : IntentTrip → IntentTrip) : (s.onUnit g).joinWindow = s.joinWindow := rfl
@[simp] theorem State.onUnit_announceTimer (g : IntentTrip → IntentTrip) : (s.onUnit g).announceTimer = s.announceTimer := rfl
@[simp] theorem State.onUnit_goodFrames (g : IntentTrip → IntentTrip) : (s.onUnit g).goodFrames = s.goodFrames := rfl
@[simp] theorem State.onUnit_loop (g : IntentTrip → IntentTrip) : (s.onUnit g).loop = s.loop := rfl
@[simp] theorem State.onUnit_pub (g : IntentTrip → IntentTrip) : (s.onUnit g).pub = s.pub := rfl
@[simp] theorem State.onUnit_image (g : IntentTrip → IntentTrip) : (s.onUnit g).image = s.image := rfl
@[simp] theorem State.onUnit_guard (g : IntentTrip → IntentTrip) : (s.onUnit g).guard = s.guard := rfl
@[simp] theorem State.onUnit_field (g : IntentTrip → IntentTrip) : (s.onUnit g).field = s.field := rfl
@[simp] theorem State.onUnit_fns (g : IntentTrip → IntentTrip) : (s.onUnit g).fns = s.fns := rfl
@[simp] theorem State.onUnit_drive (g : IntentTrip → IntentTrip) : (s.onUnit g).drive = s.drive := rfl
@[simp] theorem State.onUnit_dump (g : IntentTrip → IntentTrip) : (s.onUnit g).dump = s.dump := rfl
@[simp] theorem State.onUnit_panel (g : IntentTrip → IntentTrip) : (s.onUnit g).panel = s.panel := rfl
@[simp] theorem State.onUnit_unit (g : IntentTrip → IntentTrip) : (s.onUnit g).unit = g s.unit := rfl
@[simp] theorem State.onUnit_flow (g : IntentTrip → IntentTrip) : (s.onUnit g).flow = s.flow := rfl
@[simp] theorem State.onUnit_cfg (g : IntentTrip → IntentTrip) : (s.onUnit g).cfg = s.cfg := rfl
@[simp] theorem State.onUnit_timing (g : IntentTrip → IntentTrip) : (s.onUnit g).timing = s.timing := rfl
@[simp] theorem State.onUnit_role (g : IntentTrip → IntentTrip) : (s.onUnit g).role = s.role := rfl
@[simp] theorem State.onUnit_isActive (g : IntentTrip → IntentTrip) : (s.onUnit g).isActive = s.isActive := rfl
@[simp] theorem State.onUnit_running (g : IntentTrip → IntentTrip) : (s.onUnit g).running = s.running := rfl
@[simp] theorem State.onUnit_follows (g : IntentTrip → IntentTrip) : (s.onUnit g).follows = s.follows := rfl
@[simp] theorem State.onUnit_maySend (g : IntentTrip → IntentTrip) : (s.onUnit g).maySend = s.maySend := rfl
@[simp] theorem State.onUnit_isPanel (g : IntentTrip → IntentTrip) : (s.onUnit g).isPanel = s.isPanel := rfl
@[simp] theorem State.onUnit_fnSetup (g : IntentTrip → IntentTrip) (h : FnId) : (s.onUnit g).fnSetup h = s.fnSetup h := rfl

/-! ### `State.onFlow` -/

@[simp] theorem State.onFlow_pending (g : Flow → Flow) : (s.onFlow g).pending = s.pending := rfl
@[simp] theorem State.onFlow_choice (g : Flow → Flow) : (s.onFlow g).choice = s.choice := rfl
@[simp] theorem State.onFlow_life (g : Flow → Flow) : (s.onFlow g).life = s.life := rfl
@[simp] theorem State.onFlow_resetCause (g : Flow → Flow) : (s.onFlow g).resetCause = s.resetCause := rfl
@[simp] theorem State.onFlow_station (g : Flow → Flow) : (s.onFlow g).station = s.station := rfl
@[simp] theorem State.onFlow_bitRate (g : Flow → Flow) : (s.onFlow g).bitRate = s.bitRate := rfl
@[simp] theorem State.onFlow_header (g : Flow → Flow) : (s.onFlow g).header = s.header := rfl
@[simp] theorem State.onFlow_report (g : Flow → Flow) : (s.onFlow g).report = s.report := rfl
@[simp] theorem State.onFlow_setup (g : Flow → Flow) : (s.onFlow g).setup = s.setup := rfl
@[simp] theorem State.onFlow_joinWindow (g : Flow → Flow) : (s.onFlow g).joinWindow = s.joinWindow := rfl
@[simp] theorem State.onFlow_announceTimer (g : Flow → Flow) : (s.onFlow g).announceTimer = s.announceTimer := rfl
@[simp] theorem State.onFlow_goodFrames (g : Flow → Flow) : (s.onFlow g).goodFrames = s.goodFrames := rfl
@[simp] theorem State.onFlow_loop (g : Flow → Flow) : (s.onFlow g).loop = s.loop := rfl
@[simp] theorem State.onFlow_pub (g : Flow → Flow) : (s.onFlow g).pub = s.pub := rfl
@[simp] theorem State.onFlow_image (g : Flow → Flow) : (s.onFlow g).image = s.image := rfl
@[simp] theorem State.onFlow_guard (g : Flow → Flow) : (s.onFlow g).guard = s.guard := rfl
@[simp] theorem State.onFlow_field (g : Flow → Flow) : (s.onFlow g).field = s.field := rfl
@[simp] theorem State.onFlow_fns (g : Flow → Flow) : (s.onFlow g).fns = s.fns := rfl
@[simp] theorem State.onFlow_drive (g : Flow → Flow) : (s.onFlow g).drive = s.drive := rfl
@[simp] theorem State.onFlow_dump (g : Flow → Flow) : (s.onFlow g).dump = s.dump := rfl
@[simp] theorem State.onFlow_panel (g : Flow → Flow) : (s.onFlow g).panel = s.panel := rfl
@[simp] theorem State.onFlow_unit (g : Flow → Flow) : (s.onFlow g).unit = s.unit := rfl
@[simp] theorem State.onFlow_flow (g : Flow → Flow) : (s.onFlow g).flow = g s.flow := rfl
@[simp] theorem State.onFlow_cfg (g : Flow → Flow) : (s.onFlow g).cfg = s.cfg := rfl
@[simp] theorem State.onFlow_timing (g : Flow → Flow) : (s.onFlow g).timing = s.timing := rfl
@[simp] theorem State.onFlow_role (g : Flow → Flow) : (s.onFlow g).role = s.role := rfl
@[simp] theorem State.onFlow_isActive (g : Flow → Flow) : (s.onFlow g).isActive = s.isActive := rfl
@[simp] theorem State.onFlow_running (g : Flow → Flow) : (s.onFlow g).running = s.running := rfl
@[simp] theorem State.onFlow_follows (g : Flow → Flow) : (s.onFlow g).follows = s.follows := rfl
@[simp] theorem State.onFlow_maySend (g : Flow → Flow) : (s.onFlow g).maySend = s.maySend := rfl
@[simp] theorem State.onFlow_isPanel (g : Flow → Flow) : (s.onFlow g).isPanel = s.isPanel := rfl
@[simp] theorem State.onFlow_fnSetup (g : Flow → Flow) (h : FnId) : (s.onFlow g).fnSetup h = s.fnSetup h := rfl

/-! ### `State.onPanel` -/

@[simp] theorem State.onPanel_pending (g : Panel → Panel) : (s.onPanel g).pending = s.pending := rfl
@[simp] theorem State.onPanel_choice (g : Panel → Panel) : (s.onPanel g).choice = s.choice := rfl
@[simp] theorem State.onPanel_life (g : Panel → Panel) : (s.onPanel g).life = s.life := rfl
@[simp] theorem State.onPanel_resetCause (g : Panel → Panel) : (s.onPanel g).resetCause = s.resetCause := rfl
@[simp] theorem State.onPanel_station (g : Panel → Panel) : (s.onPanel g).station = s.station := rfl
@[simp] theorem State.onPanel_bitRate (g : Panel → Panel) : (s.onPanel g).bitRate = s.bitRate := rfl
@[simp] theorem State.onPanel_header (g : Panel → Panel) : (s.onPanel g).header = s.header := rfl
@[simp] theorem State.onPanel_report (g : Panel → Panel) : (s.onPanel g).report = s.report := rfl
@[simp] theorem State.onPanel_setup (g : Panel → Panel) : (s.onPanel g).setup = s.setup := rfl
@[simp] theorem State.onPanel_joinWindow (g : Panel → Panel) : (s.onPanel g).joinWindow = s.joinWindow := rfl
@[simp] theorem State.onPanel_announceTimer (g : Panel → Panel) : (s.onPanel g).announceTimer = s.announceTimer := rfl
@[simp] theorem State.onPanel_goodFrames (g : Panel → Panel) : (s.onPanel g).goodFrames = s.goodFrames := rfl
@[simp] theorem State.onPanel_loop (g : Panel → Panel) : (s.onPanel g).loop = s.loop := rfl
@[simp] theorem State.onPanel_pub (g : Panel → Panel) : (s.onPanel g).pub = s.pub := rfl
@[simp] theorem State.onPanel_image (g : Panel → Panel) : (s.onPanel g).image = s.image := rfl
@[simp] theorem State.onPanel_guard (g : Panel → Panel) : (s.onPanel g).guard = s.guard := rfl
@[simp] theorem State.onPanel_field (g : Panel → Panel) : (s.onPanel g).field = s.field := rfl
@[simp] theorem State.onPanel_fns (g : Panel → Panel) : (s.onPanel g).fns = s.fns := rfl
@[simp] theorem State.onPanel_drive (g : Panel → Panel) : (s.onPanel g).drive = s.drive := rfl
@[simp] theorem State.onPanel_dump (g : Panel → Panel) : (s.onPanel g).dump = s.dump := rfl
@[simp] theorem State.onPanel_panel (g : Panel → Panel) : (s.onPanel g).panel = g s.panel := rfl
@[simp] theorem State.onPanel_unit (g : Panel → Panel) : (s.onPanel g).unit = s.unit := rfl
@[simp] theorem State.onPanel_flow (g : Panel → Panel) : (s.onPanel g).flow = s.flow := rfl
@[simp] theorem State.onPanel_cfg (g : Panel → Panel) : (s.onPanel g).cfg = s.cfg := rfl
@[simp] theorem State.onPanel_timing (g : Panel → Panel) : (s.onPanel g).timing = s.timing := rfl
@[simp] theorem State.onPanel_role (g : Panel → Panel) : (s.onPanel g).role = s.role := rfl
@[simp] theorem State.onPanel_isActive (g : Panel → Panel) : (s.onPanel g).isActive = s.isActive := rfl
@[simp] theorem State.onPanel_running (g : Panel → Panel) : (s.onPanel g).running = s.running := rfl
@[simp] theorem State.onPanel_follows (g : Panel → Panel) : (s.onPanel g).follows = s.follows := rfl
@[simp] theorem State.onPanel_maySend (g : Panel → Panel) : (s.onPanel g).maySend = s.maySend := rfl
@[simp] theorem State.onPanel_isPanel (g : Panel → Panel) : (s.onPanel g).isPanel = s.isPanel := rfl
@[simp] theorem State.onPanel_fnSetup (g : Panel → Panel) (h : FnId) : (s.onPanel g).fnSetup h = s.fnSetup h := rfl

/-! ### `State.onFn` -/

@[simp] theorem State.onFn_pending (f : FnId) (g : Fn → Fn) : (s.onFn f g).pending = s.pending := rfl
@[simp] theorem State.onFn_choice (f : FnId) (g : Fn → Fn) : (s.onFn f g).choice = s.choice := rfl
@[simp] theorem State.onFn_life (f : FnId) (g : Fn → Fn) : (s.onFn f g).life = s.life := rfl
@[simp] theorem State.onFn_resetCause (f : FnId) (g : Fn → Fn) : (s.onFn f g).resetCause = s.resetCause := rfl
@[simp] theorem State.onFn_station (f : FnId) (g : Fn → Fn) : (s.onFn f g).station = s.station := rfl
@[simp] theorem State.onFn_bitRate (f : FnId) (g : Fn → Fn) : (s.onFn f g).bitRate = s.bitRate := rfl
@[simp] theorem State.onFn_header (f : FnId) (g : Fn → Fn) : (s.onFn f g).header = s.header := rfl
@[simp] theorem State.onFn_report (f : FnId) (g : Fn → Fn) : (s.onFn f g).report = s.report := rfl
@[simp] theorem State.onFn_setup (f : FnId) (g : Fn → Fn) : (s.onFn f g).setup = s.setup := rfl
@[simp] theorem State.onFn_joinWindow (f : FnId) (g : Fn → Fn) : (s.onFn f g).joinWindow = s.joinWindow := rfl
@[simp] theorem State.onFn_announceTimer (f : FnId) (g : Fn → Fn) : (s.onFn f g).announceTimer = s.announceTimer := rfl
@[simp] theorem State.onFn_goodFrames (f : FnId) (g : Fn → Fn) : (s.onFn f g).goodFrames = s.goodFrames := rfl
@[simp] theorem State.onFn_loop (f : FnId) (g : Fn → Fn) : (s.onFn f g).loop = s.loop := rfl
@[simp] theorem State.onFn_pub (f : FnId) (g : Fn → Fn) : (s.onFn f g).pub = s.pub := rfl
@[simp] theorem State.onFn_image (f : FnId) (g : Fn → Fn) : (s.onFn f g).image = s.image := rfl
@[simp] theorem State.onFn_guard (f : FnId) (g : Fn → Fn) : (s.onFn f g).guard = s.guard := rfl
@[simp] theorem State.onFn_field (f : FnId) (g : Fn → Fn) : (s.onFn f g).field = s.field := rfl
@[simp] theorem State.onFn_fns (f : FnId) (g : Fn → Fn) : (s.onFn f g).fns = s.fns.set f (g s.fns[f]) := rfl
@[simp] theorem State.onFn_drive (f : FnId) (g : Fn → Fn) : (s.onFn f g).drive = s.drive := rfl
@[simp] theorem State.onFn_dump (f : FnId) (g : Fn → Fn) : (s.onFn f g).dump = s.dump := rfl
@[simp] theorem State.onFn_panel (f : FnId) (g : Fn → Fn) : (s.onFn f g).panel = s.panel := rfl
@[simp] theorem State.onFn_unit (f : FnId) (g : Fn → Fn) : (s.onFn f g).unit = s.unit := rfl
@[simp] theorem State.onFn_flow (f : FnId) (g : Fn → Fn) : (s.onFn f g).flow = s.flow := rfl
@[simp] theorem State.onFn_cfg (f : FnId) (g : Fn → Fn) : (s.onFn f g).cfg = s.cfg := rfl
@[simp] theorem State.onFn_timing (f : FnId) (g : Fn → Fn) : (s.onFn f g).timing = s.timing := rfl
@[simp] theorem State.onFn_role (f : FnId) (g : Fn → Fn) : (s.onFn f g).role = s.role := rfl
@[simp] theorem State.onFn_isActive (f : FnId) (g : Fn → Fn) : (s.onFn f g).isActive = s.isActive := rfl
@[simp] theorem State.onFn_running (f : FnId) (g : Fn → Fn) : (s.onFn f g).running = s.running := rfl
@[simp] theorem State.onFn_follows (f : FnId) (g : Fn → Fn) : (s.onFn f g).follows = s.follows := rfl
@[simp] theorem State.onFn_maySend (f : FnId) (g : Fn → Fn) : (s.onFn f g).maySend = s.maySend := rfl
@[simp] theorem State.onFn_isPanel (f : FnId) (g : Fn → Fn) : (s.onFn f g).isPanel = s.isPanel := rfl
@[simp] theorem State.onFn_fnSetup (f : FnId) (g : Fn → Fn) (h : FnId) : (s.onFn f g).fnSetup h = s.fnSetup h := rfl

/-! ### `State.onDrive` -/

@[simp] theorem State.onDrive_pending (f : FnId) (g : Drive → Drive) : (s.onDrive f g).pending = s.pending := rfl
@[simp] theorem State.onDrive_choice (f : FnId) (g : Drive → Drive) : (s.onDrive f g).choice = s.choice := rfl
@[simp] theorem State.onDrive_life (f : FnId) (g : Drive → Drive) : (s.onDrive f g).life = s.life := rfl
@[simp] theorem State.onDrive_resetCause (f : FnId) (g : Drive → Drive) : (s.onDrive f g).resetCause = s.resetCause := rfl
@[simp] theorem State.onDrive_station (f : FnId) (g : Drive → Drive) : (s.onDrive f g).station = s.station := rfl
@[simp] theorem State.onDrive_bitRate (f : FnId) (g : Drive → Drive) : (s.onDrive f g).bitRate = s.bitRate := rfl
@[simp] theorem State.onDrive_header (f : FnId) (g : Drive → Drive) : (s.onDrive f g).header = s.header := rfl
@[simp] theorem State.onDrive_report (f : FnId) (g : Drive → Drive) : (s.onDrive f g).report = s.report := rfl
@[simp] theorem State.onDrive_setup (f : FnId) (g : Drive → Drive) : (s.onDrive f g).setup = s.setup := rfl
@[simp] theorem State.onDrive_joinWindow (f : FnId) (g : Drive → Drive) : (s.onDrive f g).joinWindow = s.joinWindow := rfl
@[simp] theorem State.onDrive_announceTimer (f : FnId) (g : Drive → Drive) : (s.onDrive f g).announceTimer = s.announceTimer := rfl
@[simp] theorem State.onDrive_goodFrames (f : FnId) (g : Drive → Drive) : (s.onDrive f g).goodFrames = s.goodFrames := rfl
@[simp] theorem State.onDrive_loop (f : FnId) (g : Drive → Drive) : (s.onDrive f g).loop = s.loop := rfl
@[simp] theorem State.onDrive_pub (f : FnId) (g : Drive → Drive) : (s.onDrive f g).pub = s.pub := rfl
@[simp] theorem State.onDrive_image (f : FnId) (g : Drive → Drive) : (s.onDrive f g).image = s.image := rfl
@[simp] theorem State.onDrive_guard (f : FnId) (g : Drive → Drive) : (s.onDrive f g).guard = s.guard := rfl
@[simp] theorem State.onDrive_field (f : FnId) (g : Drive → Drive) : (s.onDrive f g).field = s.field := rfl
@[simp] theorem State.onDrive_fns (f : FnId) (g : Drive → Drive) : (s.onDrive f g).fns = s.fns := rfl
@[simp] theorem State.onDrive_drive (f : FnId) (g : Drive → Drive) : (s.onDrive f g).drive = s.drive.set f (g s.drive[f]) := rfl
@[simp] theorem State.onDrive_dump (f : FnId) (g : Drive → Drive) : (s.onDrive f g).dump = s.dump := rfl
@[simp] theorem State.onDrive_panel (f : FnId) (g : Drive → Drive) : (s.onDrive f g).panel = s.panel := rfl
@[simp] theorem State.onDrive_unit (f : FnId) (g : Drive → Drive) : (s.onDrive f g).unit = s.unit := rfl
@[simp] theorem State.onDrive_flow (f : FnId) (g : Drive → Drive) : (s.onDrive f g).flow = s.flow := rfl
@[simp] theorem State.onDrive_cfg (f : FnId) (g : Drive → Drive) : (s.onDrive f g).cfg = s.cfg := rfl
@[simp] theorem State.onDrive_timing (f : FnId) (g : Drive → Drive) : (s.onDrive f g).timing = s.timing := rfl
@[simp] theorem State.onDrive_role (f : FnId) (g : Drive → Drive) : (s.onDrive f g).role = s.role := rfl
@[simp] theorem State.onDrive_isActive (f : FnId) (g : Drive → Drive) : (s.onDrive f g).isActive = s.isActive := rfl
@[simp] theorem State.onDrive_running (f : FnId) (g : Drive → Drive) : (s.onDrive f g).running = s.running := rfl
@[simp] theorem State.onDrive_follows (f : FnId) (g : Drive → Drive) : (s.onDrive f g).follows = s.follows := rfl
@[simp] theorem State.onDrive_maySend (f : FnId) (g : Drive → Drive) : (s.onDrive f g).maySend = s.maySend := rfl
@[simp] theorem State.onDrive_isPanel (f : FnId) (g : Drive → Drive) : (s.onDrive f g).isPanel = s.isPanel := rfl
@[simp] theorem State.onDrive_fnSetup (f : FnId) (g : Drive → Drive) (h : FnId) : (s.onDrive f g).fnSetup h = s.fnSetup h := rfl

/-! ### `State.onFnField` -/

@[simp] theorem State.onFnField_pending (f : FnId) (g : FnField → FnField) : (s.onFnField f g).pending = s.pending := rfl
@[simp] theorem State.onFnField_choice (f : FnId) (g : FnField → FnField) : (s.onFnField f g).choice = s.choice := rfl
@[simp] theorem State.onFnField_life (f : FnId) (g : FnField → FnField) : (s.onFnField f g).life = s.life := rfl
@[simp] theorem State.onFnField_resetCause (f : FnId) (g : FnField → FnField) : (s.onFnField f g).resetCause = s.resetCause := rfl
@[simp] theorem State.onFnField_station (f : FnId) (g : FnField → FnField) : (s.onFnField f g).station = s.station := rfl
@[simp] theorem State.onFnField_bitRate (f : FnId) (g : FnField → FnField) : (s.onFnField f g).bitRate = s.bitRate := rfl
@[simp] theorem State.onFnField_header (f : FnId) (g : FnField → FnField) : (s.onFnField f g).header = s.header := rfl
@[simp] theorem State.onFnField_report (f : FnId) (g : FnField → FnField) : (s.onFnField f g).report = s.report := rfl
@[simp] theorem State.onFnField_setup (f : FnId) (g : FnField → FnField) : (s.onFnField f g).setup = s.setup := rfl
@[simp] theorem State.onFnField_joinWindow (f : FnId) (g : FnField → FnField) : (s.onFnField f g).joinWindow = s.joinWindow := rfl
@[simp] theorem State.onFnField_announceTimer (f : FnId) (g : FnField → FnField) : (s.onFnField f g).announceTimer = s.announceTimer := rfl
@[simp] theorem State.onFnField_goodFrames (f : FnId) (g : FnField → FnField) : (s.onFnField f g).goodFrames = s.goodFrames := rfl
@[simp] theorem State.onFnField_loop (f : FnId) (g : FnField → FnField) : (s.onFnField f g).loop = s.loop := rfl
@[simp] theorem State.onFnField_pub (f : FnId) (g : FnField → FnField) : (s.onFnField f g).pub = s.pub := rfl
@[simp] theorem State.onFnField_image (f : FnId) (g : FnField → FnField) : (s.onFnField f g).image = s.image := rfl
@[simp] theorem State.onFnField_guard (f : FnId) (g : FnField → FnField) : (s.onFnField f g).guard = s.guard := rfl
@[simp] theorem State.onFnField_field (f : FnId) (g : FnField → FnField) : (s.onFnField f g).field = { s.field with fns := s.field.fns.set f (g s.field.fns[f]) } := rfl
@[simp] theorem State.onFnField_fns (f : FnId) (g : FnField → FnField) : (s.onFnField f g).fns = s.fns := rfl
@[simp] theorem State.onFnField_drive (f : FnId) (g : FnField → FnField) : (s.onFnField f g).drive = s.drive := rfl
@[simp] theorem State.onFnField_dump (f : FnId) (g : FnField → FnField) : (s.onFnField f g).dump = s.dump := rfl
@[simp] theorem State.onFnField_panel (f : FnId) (g : FnField → FnField) : (s.onFnField f g).panel = s.panel := rfl
@[simp] theorem State.onFnField_unit (f : FnId) (g : FnField → FnField) : (s.onFnField f g).unit = s.unit := rfl
@[simp] theorem State.onFnField_flow (f : FnId) (g : FnField → FnField) : (s.onFnField f g).flow = s.flow := rfl
@[simp] theorem State.onFnField_cfg (f : FnId) (g : FnField → FnField) : (s.onFnField f g).cfg = s.cfg := rfl
@[simp] theorem State.onFnField_timing (f : FnId) (g : FnField → FnField) : (s.onFnField f g).timing = s.timing := rfl
@[simp] theorem State.onFnField_role (f : FnId) (g : FnField → FnField) : (s.onFnField f g).role = s.role := rfl
@[simp] theorem State.onFnField_isActive (f : FnId) (g : FnField → FnField) : (s.onFnField f g).isActive = s.isActive := rfl
@[simp] theorem State.onFnField_running (f : FnId) (g : FnField → FnField) : (s.onFnField f g).running = s.running := rfl
@[simp] theorem State.onFnField_follows (f : FnId) (g : FnField → FnField) : (s.onFnField f g).follows = s.follows := rfl
@[simp] theorem State.onFnField_maySend (f : FnId) (g : FnField → FnField) : (s.onFnField f g).maySend = s.maySend := rfl
@[simp] theorem State.onFnField_isPanel (f : FnId) (g : FnField → FnField) : (s.onFnField f g).isPanel = s.isPanel := rfl
@[simp] theorem State.onFnField_fnSetup (f : FnId) (g : FnField → FnField) (h : FnId) : (s.onFnField f g).fnSetup h = s.fnSetup h := rfl

/-! ### `State.onEntry` -/

@[simp] theorem State.onEntry_pending (n : StationId) (g : Entry → Entry) : (s.onEntry n g).pending = s.pending := rfl
@[simp] theorem State.onEntry_choice (n : StationId) (g : Entry → Entry) : (s.onEntry n g).choice = s.choice := rfl
@[simp] theorem State.onEntry_life (n : StationId) (g : Entry → Entry) : (s.onEntry n g).life = s.life := rfl
@[simp] theorem State.onEntry_resetCause (n : StationId) (g : Entry → Entry) : (s.onEntry n g).resetCause = s.resetCause := rfl
@[simp] theorem State.onEntry_station (n : StationId) (g : Entry → Entry) : (s.onEntry n g).station = s.station := rfl
@[simp] theorem State.onEntry_bitRate (n : StationId) (g : Entry → Entry) : (s.onEntry n g).bitRate = s.bitRate := rfl
@[simp] theorem State.onEntry_header (n : StationId) (g : Entry → Entry) : (s.onEntry n g).header = s.header := rfl
@[simp] theorem State.onEntry_report (n : StationId) (g : Entry → Entry) : (s.onEntry n g).report = s.report := rfl
@[simp] theorem State.onEntry_setup (n : StationId) (g : Entry → Entry) : (s.onEntry n g).setup = s.setup := rfl
@[simp] theorem State.onEntry_joinWindow (n : StationId) (g : Entry → Entry) : (s.onEntry n g).joinWindow = s.joinWindow := rfl
@[simp] theorem State.onEntry_announceTimer (n : StationId) (g : Entry → Entry) : (s.onEntry n g).announceTimer = s.announceTimer := rfl
@[simp] theorem State.onEntry_goodFrames (n : StationId) (g : Entry → Entry) : (s.onEntry n g).goodFrames = s.goodFrames := rfl
@[simp] theorem State.onEntry_loop (n : StationId) (g : Entry → Entry) : (s.onEntry n g).loop = s.loop := rfl
@[simp] theorem State.onEntry_pub (n : StationId) (g : Entry → Entry) : (s.onEntry n g).pub = s.pub := rfl
@[simp] theorem State.onEntry_image (n : StationId) (g : Entry → Entry) : (s.onEntry n g).image = s.image.set n (g s.image[n]) := rfl
@[simp] theorem State.onEntry_guard (n : StationId) (g : Entry → Entry) : (s.onEntry n g).guard = s.guard := rfl
@[simp] theorem State.onEntry_field (n : StationId) (g : Entry → Entry) : (s.onEntry n g).field = s.field := rfl
@[simp] theorem State.onEntry_fns (n : StationId) (g : Entry → Entry) : (s.onEntry n g).fns = s.fns := rfl
@[simp] theorem State.onEntry_drive (n : StationId) (g : Entry → Entry) : (s.onEntry n g).drive = s.drive := rfl
@[simp] theorem State.onEntry_dump (n : StationId) (g : Entry → Entry) : (s.onEntry n g).dump = s.dump := rfl
@[simp] theorem State.onEntry_panel (n : StationId) (g : Entry → Entry) : (s.onEntry n g).panel = s.panel := rfl
@[simp] theorem State.onEntry_unit (n : StationId) (g : Entry → Entry) : (s.onEntry n g).unit = s.unit := rfl
@[simp] theorem State.onEntry_flow (n : StationId) (g : Entry → Entry) : (s.onEntry n g).flow = s.flow := rfl
@[simp] theorem State.onEntry_cfg (n : StationId) (g : Entry → Entry) : (s.onEntry n g).cfg = s.cfg := rfl
@[simp] theorem State.onEntry_timing (n : StationId) (g : Entry → Entry) : (s.onEntry n g).timing = s.timing := rfl
@[simp] theorem State.onEntry_role (n : StationId) (g : Entry → Entry) : (s.onEntry n g).role = s.role := rfl
@[simp] theorem State.onEntry_isActive (n : StationId) (g : Entry → Entry) : (s.onEntry n g).isActive = s.isActive := rfl
@[simp] theorem State.onEntry_running (n : StationId) (g : Entry → Entry) : (s.onEntry n g).running = s.running := rfl
@[simp] theorem State.onEntry_follows (n : StationId) (g : Entry → Entry) : (s.onEntry n g).follows = s.follows := rfl
@[simp] theorem State.onEntry_maySend (n : StationId) (g : Entry → Entry) : (s.onEntry n g).maySend = s.maySend := rfl
@[simp] theorem State.onEntry_isPanel (n : StationId) (g : Entry → Entry) : (s.onEntry n g).isPanel = s.isPanel := rfl
@[simp] theorem State.onEntry_fnSetup (n : StationId) (g : Entry → Entry) (h : FnId) : (s.onEntry n g).fnSetup h = s.fnSetup h := rfl

/-! ### `State.finish` -/

@[simp] theorem State.finish_pending : s.finish.pending = s.pending := rfl
@[simp] theorem State.finish_choice : s.finish.choice = s.choice := rfl
@[simp] theorem State.finish_life : s.finish.life = s.life := rfl
@[simp] theorem State.finish_resetCause : s.finish.resetCause = s.resetCause := rfl
@[simp] theorem State.finish_station : s.finish.station = s.station := rfl
@[simp] theorem State.finish_bitRate : s.finish.bitRate = s.bitRate := rfl
@[simp] theorem State.finish_header : s.finish.header = s.header := rfl
@[simp] theorem State.finish_report : s.finish.report = s.report := rfl
@[simp] theorem State.finish_setup : s.finish.setup = s.setup := rfl
@[simp] theorem State.finish_joinWindow : s.finish.joinWindow = s.joinWindow := rfl
@[simp] theorem State.finish_announceTimer : s.finish.announceTimer = s.announceTimer := rfl
@[simp] theorem State.finish_goodFrames : s.finish.goodFrames = s.goodFrames := rfl
@[simp] theorem State.finish_loop : s.finish.loop = s.loop := rfl
@[simp] theorem State.finish_pub : s.finish.pub = s.pub := rfl
@[simp] theorem State.finish_image : s.finish.image = s.image := rfl
@[simp] theorem State.finish_guard : s.finish.guard = s.guard := rfl
@[simp] theorem State.finish_field : s.finish.field = s.field := rfl
@[simp] theorem State.finish_fns : s.finish.fns = s.fns := rfl
@[simp] theorem State.finish_drive : s.finish.drive = s.drive := rfl
@[simp] theorem State.finish_dump : s.finish.dump = s.dumpNow := rfl
@[simp] theorem State.finish_panel : s.finish.panel = s.panel := rfl
@[simp] theorem State.finish_unit : s.finish.unit = s.unit := rfl
@[simp] theorem State.finish_flow : s.finish.flow = s.flow := rfl
@[simp] theorem State.finish_cfg : s.finish.cfg = s.cfg := rfl
@[simp] theorem State.finish_timing : s.finish.timing = s.timing := rfl
@[simp] theorem State.finish_role : s.finish.role = s.role := rfl
@[simp] theorem State.finish_isActive : s.finish.isActive = s.isActive := rfl
@[simp] theorem State.finish_running : s.finish.running = s.running := rfl
@[simp] theorem State.finish_follows : s.finish.follows = s.follows := rfl
@[simp] theorem State.finish_maySend : s.finish.maySend = s.maySend := rfl
@[simp] theorem State.finish_isPanel : s.finish.isPanel = s.isPanel := rfl
@[simp] theorem State.finish_fnSetup (h : FnId) : s.finish.fnSetup h = s.fnSetup h := rfl

/-! ### One slot of a vector -/

@[simp] theorem State.onFn_same (f : FnId) (g : Fn → Fn) : (s.onFn f g).fns[f] = g s.fns[f] := by simp

theorem State.onFn_other {f h : FnId} (g : Fn → Fn) (ne : f ≠ h) : (s.onFn f g).fns[h] = s.fns[h] := by
  simp only [State.onFn_fns, Fin.getElem_fin]
  exact Vector.getElem_set_ne _ _ (fun e => ne (Fin.ext e))

@[simp] theorem State.onDrive_same (f : FnId) (g : Drive → Drive) : (s.onDrive f g).drive[f] = g s.drive[f] := by simp

theorem State.onDrive_other {f h : FnId} (g : Drive → Drive) (ne : f ≠ h) : (s.onDrive f g).drive[h] = s.drive[h] := by
  simp only [State.onDrive_drive, Fin.getElem_fin]
  exact Vector.getElem_set_ne _ _ (fun e => ne (Fin.ext e))

@[simp] theorem State.onFnField_same (f : FnId) (g : FnField → FnField) :
    (s.onFnField f g).field.fns[f] = g s.field.fns[f] := by simp

theorem State.onFnField_other {f h : FnId} (g : FnField → FnField) (ne : f ≠ h) :
    (s.onFnField f g).field.fns[h] = s.field.fns[h] := by
  simp only [State.onFnField_field, Fin.getElem_fin]
  exact Vector.getElem_set_ne _ _ (fun e => ne (Fin.ext e))

@[simp] theorem State.onEntry_same (n : StationId) (g : Entry → Entry) : (s.onEntry n g).image[n] = g s.image[n] := by simp

theorem State.onEntry_other {n m : StationId} (g : Entry → Entry) (ne : n ≠ m) :
    (s.onEntry n g).image[m] = s.image[m] := by
  simp only [State.onEntry_image, Fin.getElem_fin]
  exact Vector.getElem_set_ne _ _ (fun e => ne (Fin.ext e))

end Sys2Proof.Machine
end

