-- ==== Sys2Proof/Laws/Frames.lean ====
section
/-! SUPPORT. What each shared operation can change: one frame lemma for each, in the terms of `Settled`, `Noticed` and
`Tripped`. -/

namespace Sys2Proof.Machine

/-! ## STATUS requests -/

@[simp] theorem statusRequest_twice (x : Slot Unit) : statusRequest (statusRequest x) = statusRequest x := by
  cases x <;> rfl

theorem Asked.refl (s : State) : Asked s s := ⟨.inl rfl, id⟩

theorem Asked.trans {s t u : State} (h : Asked s t) (k : Asked t u) : Asked s u := by
  refine ⟨?_, fun d => k.deferred (h.deferred d)⟩
  rcases h.status with a | a <;> rcases k.status with b | b <;> simp [a, b]

/-- A cause changes the STATUS slot and the deferred flag only (R48, R49). -/
theorem statusCause_eq (s : State) : s.statusCause =
    { s with loop := { s.loop with status := s.statusCause.loop.status },
             pub := { s.pub with deferred := s.statusCause.pub.deferred } } := by
  unfold State.statusCause State.requestStatus State.onLoop State.onPub
  split
  · split <;> rfl
  · rfl

theorem statusCause_asked (s : State) : Asked s s.statusCause := by
  unfold State.statusCause State.requestStatus State.onLoop State.onPub
  split
  · split
    · exact ⟨.inl rfl, fun _ => rfl⟩
    · exact ⟨.inr rfl, id⟩
  · exact Asked.refl s

/-- An operation that the publisher examines changes, beyond the operation, the STATUS slot and the deferred flag only. -/
theorem act_eq (op : State → State) (s : State) : s.act op =
    { op s with loop := { (op s).loop with status := (s.act op).loop.status },
                pub := { (op s).pub with deferred := (s.act op).pub.deferred } } := by
  unfold State.act
  dsimp only
  split
  · exact statusCause_eq (op s)
  · rfl

theorem act_asked (op : State → State) (s : State) : Asked (op s) (s.act op) := by
  unfold State.act
  dsimp only
  split
  · exact statusCause_asked (op s)
  · exact Asked.refl _

section
variable (op : State → State) (s : State)
@[simp] theorem act_pending : (s.act op).pending = (op s).pending := by rw [act_eq]
@[simp] theorem act_choice : (s.act op).choice = (op s).choice := by rw [act_eq]
@[simp] theorem act_life : (s.act op).life = (op s).life := by rw [act_eq]
@[simp] theorem act_resetCause : (s.act op).resetCause = (op s).resetCause := by rw [act_eq]
@[simp] theorem act_station : (s.act op).station = (op s).station := by rw [act_eq]
@[simp] theorem act_bitRate : (s.act op).bitRate = (op s).bitRate := by rw [act_eq]
@[simp] theorem act_header : (s.act op).header = (op s).header := by rw [act_eq]
@[simp] theorem act_report : (s.act op).report = (op s).report := by rw [act_eq]
@[simp] theorem act_setup : (s.act op).setup = (op s).setup := by rw [act_eq]
@[simp] theorem act_joinWindow : (s.act op).joinWindow = (op s).joinWindow := by rw [act_eq]
@[simp] theorem act_announceTimer : (s.act op).announceTimer = (op s).announceTimer := by rw [act_eq]
@[simp] theorem act_goodFrames : (s.act op).goodFrames = (op s).goodFrames := by rw [act_eq]
@[simp] theorem act_image : (s.act op).image = (op s).image := by rw [act_eq]
@[simp] theorem act_guard : (s.act op).guard = (op s).guard := by rw [act_eq]
@[simp] theorem act_field : (s.act op).field = (op s).field := by rw [act_eq]
@[simp] theorem act_fns : (s.act op).fns = (op s).fns := by rw [act_eq]
@[simp] theorem act_drive : (s.act op).drive = (op s).drive := by rw [act_eq]
@[simp] theorem act_dump : (s.act op).dump = (op s).dump := by rw [act_eq]
@[simp] theorem act_panel : (s.act op).panel = (op s).panel := by rw [act_eq]
@[simp] theorem act_unit : (s.act op).unit = (op s).unit := by rw [act_eq]
@[simp] theorem act_flow : (s.act op).flow = (op s).flow := by rw [act_eq]
@[simp] theorem act_isActive : (s.act op).isActive = (op s).isActive := by unfold State.isActive; rw [act_life]
@[simp] theorem act_cfg : (s.act op).cfg = (op s).cfg := by unfold State.cfg; rw [act_setup]
@[simp] theorem act_role : (s.act op).role = (op s).role := by unfold State.role; rw [act_cfg]
end

/-! ## Algebra of the frames -/

theorem Settled.refl (s : State) : Settled s s :=
  ⟨rfl, Asked.refl s, fun _ _ => ⟨rfl, rfl⟩, fun _ => ⟨rfl, rfl, rfl⟩⟩

theorem Settled.life {s t : State} (h : Settled s t) : t.life = s.life := by rw [h.rest]

theorem Settled.isActive {s t : State} (h : Settled s t) : t.isActive = s.isActive := by
  unfold State.isActive; rw [h.life]

/-- The equation of a frame is transitive. -/
theorem Settled.trans {s t u : State} (h : Settled s t) (k : Settled t u) : Settled s u := by
  refine ⟨?_, h.asked.trans k.asked, fun f hf => ?_, fun hi => ?_⟩
  · have e := h.rest
    have e' := k.rest
    generalize t.fns = a, t.drive = b, t.dump = c, t.guard = d, t.loop.status = x, t.pub.deferred = y at e
    subst e
    generalize u.fns = a', u.drive = b', u.dump = c', u.guard = d', u.loop.status = x', u.pub.deferred = y' at e' ⊢
    subst e'
    rfl
  · have p := h.steady f hf
    have q := k.steady f (by rw [p.1]; exact hf)
    exact ⟨q.1.trans p.1, q.2.trans p.2⟩
  · have p := h.idle hi
    have q := k.idle (by rw [h.isActive]; exact hi)
    exact ⟨q.1.trans p.1, q.2.1.trans p.2.1, q.2.2.trans p.2.2⟩

theorem Noticed.refl (s : State) : Noticed s s := ⟨rfl, Asked.refl s⟩

theorem Noticed.trans {s t u : State} (h : Noticed s t) (k : Noticed t u) : Noticed s u := by
  refine ⟨?_, h.asked.trans k.asked⟩
  have e := h.rest
  have e' := k.rest
  generalize t.fns = a, t.drive = b, t.dump = c, t.guard = d, t.flow = z, t.loop.status = x, t.pub.deferred = y at e
  subst e
  generalize u.fns = a', u.drive = b', u.dump = c', u.guard = d', u.flow = z', u.loop.status = x',
    u.pub.deferred = y' at e' ⊢
  subst e'
  rfl

theorem Settled.noticed {s t : State} (h : Settled s t) : Noticed s t := by
  refine ⟨?_, h.asked⟩
  have e := h.rest
  generalize t.fns = a, t.drive = b, t.dump = c, t.guard = d, t.loop.status = x, t.pub.deferred = y at e
  subst e
  rfl

theorem Tripped.refl (s : State) : Tripped s s := ⟨rfl, Asked.refl s, id⟩

theorem Tripped.trans {s t u : State} (h : Tripped s t) (k : Tripped t u) : Tripped s u := by
  refine ⟨?_, h.asked.trans k.asked, fun a => k.asserted (h.asserted a)⟩
  have e := h.rest
  have e' := k.rest
  generalize t.fns = a, t.drive = b, t.dump = c, t.guard = d, t.flow = z, t.loop.status = x, t.pub.deferred = y,
    t.unit.trips = p, t.unit.tripAsserted = q, t.unit.lastTrip = r, t.loop.trip = w at e
  subst e
  generalize u.fns = a', u.drive = b', u.dump = c', u.guard = d', u.flow = z', u.loop.status = x',
    u.pub.deferred = y', u.unit.trips = p', u.unit.tripAsserted = q', u.unit.lastTrip = r', u.loop.trip = w' at e' ⊢
  subst e'
  rfl

theorem Noticed.tripped {s t : State} (h : Noticed s t) : Tripped s t := by
  have e := h.rest
  have hu : t.unit = s.unit := by rw [e]
  refine ⟨?_, h.asked, fun a => by rw [hu]; exact a⟩
  generalize t.fns = a, t.drive = b, t.dump = c, t.guard = d, t.flow = z, t.loop.status = x, t.pub.deferred = y at e
  subst e
  rfl

/-! ## One function moves -/

/-- What an operation on one function may change: that function, its drive, and a STATUS request. -/
structure Moved (f : FnId) (s t : State) : Prop where
  rest : t = { s with
    fns := t.fns, drive := t.drive,
    loop := { s.loop with status := t.loop.status }, pub := { s.pub with deferred := t.pub.deferred } }
  asked : Asked s t
  others : ∀ h : FnId, f ≠ h → t.fns[h] = s.fns[h] ∧ t.drive[h] = s.drive[h]

theorem Moved.refl (f : FnId) (s : State) : Moved f s s := ⟨rfl, Asked.refl s, fun _ _ => ⟨rfl, rfl⟩⟩

theorem Moved.trans {f : FnId} {s t u : State} (h : Moved f s t) (k : Moved f t u) : Moved f s u := by
  refine ⟨?_, h.asked.trans k.asked, fun g ne => ?_⟩
  · have e := h.rest
    have e' := k.rest
    generalize t.fns = a, t.drive = b, t.loop.status = x, t.pub.deferred = y at e
    subst e
    generalize u.fns = a', u.drive = b', u.loop.status = x', u.pub.deferred = y' at e' ⊢
    subst e'
    rfl
  · have p := h.others g ne
    have q := k.others g ne
    exact ⟨q.1.trans p.1, q.2.trans p.2⟩

/-- An operation that is examined at once keeps the frame of the operation. -/
theorem Moved.act {f : FnId} {op : State → State} {s : State} (h : Moved f s (op s)) : Moved f s (s.act op) := by
  refine ⟨?_, h.asked.trans (act_asked op s), fun g ne => by simpa using h.others g ne⟩
  have e := h.rest
  have e' := act_eq op s
  generalize op s = t at e e'
  generalize t.fns = a, t.drive = b, t.loop.status = x, t.pub.deferred = y at e
  subst e
  generalize s.act op = u at e' ⊢
  generalize u.loop.status = x', u.pub.deferred = y' at e' ⊢
  subst e'
  rfl

theorem onFn_moved (f : FnId) (g : Fn → Fn) (s : State) : Moved f s (s.onFn f g) :=
  ⟨rfl, ⟨.inl rfl, id⟩, fun _ ne => ⟨State.onFn_other s g ne, rfl⟩⟩

theorem onDrive_moved (f : FnId) (g : Drive → Drive) (s : State) : Moved f s (s.onDrive f g) :=
  ⟨rfl, ⟨.inl rfl, id⟩, fun _ ne => ⟨rfl, State.onDrive_other s g ne⟩⟩

theorem toIdle_moved (m : Motion) (f : FnId) (s : State) : Moved f s (s.toIdle m f) := by
  unfold State.toIdle
  dsimp only
  exact (onFn_moved f _ s).trans (onDrive_moved f _ _)

theorem endStopping_moved (f : FnId) (s : State) : Moved f s (s.endStopping f) := (toIdle_moved _ f s).act

theorem enterStopping_moved (f : FnId) (c : FaultCode) (s : State) : Moved f s (s.enterStopping f c) := by
  unfold State.enterStopping
  dsimp only
  split
  · exact ((onFn_moved f _ s).act).trans (endStopping_moved f _)
  · exact (onFn_moved f _ s).act

theorem immediateStop_moved (f : FnId) (s : State) : Moved f s (s.immediateStop f) := by
  unfold State.immediateStop
  have first : ∀ c : FaultCode, Moved f s
      (s.act (fun t => (t.toIdle .rest f).onFn f (fun y => { y with fault := c }))) := fun c =>
    Moved.act (op := fun t => (t.toIdle .rest f).onFn f (fun y => { y with fault := c }))
      ((toIdle_moved _ f s).trans (onFn_moved f _ _))
  have held : ∀ t : State, Moved f t (t.act (State.onFn f (fun y => { y with motion := .heldFault }))) := fun t =>
    (onFn_moved f _ t).act
  dsimp only
  by_cases m : (s.fns[f]).motion.moving = true
  · rw [if_pos m]
    generalize (if (s.fns[f]).fault.latched then (s.fns[f]).fault else FaultCode.stopped) = code
    split
    · exact (first _).trans (held _)
    · exact first _
  · rw [if_neg m]
    split
    · exact (toIdle_moved _ f s).act
    · exact Moved.refl f s

theorem halt_moved (f : FnId) (s : State) : Moved f s (s.halt f) := by
  unfold State.halt
  split
  · exact (toIdle_moved _ f s).act
  · exact enterStopping_moved f _ s
  · exact enterStopping_moved f _ s
  · exact enterStopping_moved f _ s
  · exact Moved.refl f s

theorem leaveRest_moved (f : FnId) (d : Dir) (s : State) : Moved f s (s.leaveRest f d) := (onFn_moved f _ s).act

theorem enterPressurise_moved (f : FnId) (s : State) : Moved f s (s.enterPressurise f) :=
  Moved.act (op := fun t => (t.onFn f _).onDrive f _) ((onFn_moved f _ s).trans (onDrive_moved f _ _))

theorem enterTravel_moved (f : FnId) (s : State) : Moved f s (s.enterTravel f) := (onFn_moved f _ s).act

theorem endSeat_moved (f : FnId) (s : State) : Moved f s (s.endSeat f) := by
  unfold State.endSeat
  split
  · exact enterStopping_moved f _ s
  · exact (toIdle_moved _ f s).act

theorem enterSeat_moved (f : FnId) (s : State) : Moved f s (s.enterSeat f) := by
  unfold State.enterSeat
  dsimp only
  split
  · exact ((onFn_moved f _ s).act).trans (endSeat_moved f _)
  · exact (onFn_moved f _ s).act

theorem releaseAt_moved (f : FnId) (s : State) : Moved f s (s.releaseAt f) := by
  unfold State.releaseAt
  split
  · split
    · exact onFn_moved f _ s
    · split
      · exact onFn_moved f _ s
      · exact Moved.refl f s
  · exact Moved.refl f s

theorem pumpNoticeAt_moved (f : FnId) (s : State) : Moved f s (s.pumpNoticeAt f) := by
  unfold State.pumpNoticeAt
  split
  · split
    · exact enterPressurise_moved f s
    · exact Moved.refl f s
  · split
    · exact Moved.refl f s
    · exact enterStopping_moved f _ s
  · split
    · exact Moved.refl f s
    · exact enterStopping_moved f _ s
  · split
    · exact Moved.refl f s
    · exact enterStopping_moved f _ s
  · exact Moved.refl f s

theorem permitStop_moved {f : FnId} {d : Dir} {s t : State} (h : s.permitStop f d = some t) : Moved f s t := by
  unfold State.permitStop at h
  dsimp only at h
  split at h
  · cases h
  · cases h; exact enterStopping_moved f _ s

theorem demandStop_moved {f : FnId} {d : Dir} {s t : State} (h : s.demandStop f d = some t) : Moved f s t := by
  unfold State.demandStop at h
  split at h
  · cases h
  · split at h
    · cases h; exact enterSeat_moved f s
    · cases h; exact enterStopping_moved f _ s

theorem stopFor_moved {f : FnId} {d : Dir} {s t : State} (h : s.stopFor f d = some t) : Moved f s t := by
  unfold State.stopFor at h
  split at h <;> rcases Option.or_eq_some_iff.mp h with h | ⟨_, h⟩
  · exact permitStop_moved h
  · exact demandStop_moved h
  · exact demandStop_moved h
  · exact permitStop_moved h

/-- What a reaction to guard results can do (R87): it moves one function, and only one that is not steady. -/
theorem react_moved {s t : State} {f : FnId} (h : s.react f = some t) :
    Moved f s t ∧ (s.fns[f]).motion.steady = false := by
  unfold State.react at h
  split at h
  next e =>
    refine ⟨?_, by rw [e]; rfl⟩
    split at h
    · cases h; exact leaveRest_moved f _ s
    · split at h
      · cases h; exact leaveRest_moved f _ s
      · cases h
  next e _ =>
    refine ⟨?_, by rw [e]; rfl⟩
    split at h
    · cases h
    · cases h; exact (toIdle_moved _ f s).act
  next e _ => exact ⟨stopFor_moved h, by rw [e]; rfl⟩
  next e _ => exact ⟨stopFor_moved h, by rw [e]; rfl⟩
  next e _ => exact ⟨stopFor_moved h, by rw [e]; rfl⟩
  next => cases h

/-! ## Evaluations -/

/-- The evaluation of the guards (R86, R88). -/
theorem evaluate_settled (s : State) : Settled s s.evaluate := by
  unfold State.evaluate
  split
  next h =>
    have a := act_asked (fun x => { x with guard := x.guardNow }) s
    refine ⟨?_, ⟨a.status, a.deferred⟩, fun f _ => by simp, fun hi => by simp [h] at hi⟩
    have e := act_eq (fun x => { x with guard := x.guardNow }) s
    generalize s.act _ = u at e ⊢
    generalize u.loop.status = x', u.pub.deferred = y' at e ⊢
    subst e
    rfl
  · exact Settled.refl s

/-- A function that is not steady moves in ACTIVE. -/
theorem Moved.settled {f : FnId} {s t : State} (h : Moved f s t) (ns : (s.fns[f]).motion.steady = false)
    (act : s.isActive = true) : Settled s t := by
  refine ⟨?_, h.asked, fun g hg => ?_, fun hi => by simp [act] at hi⟩
  · have e := h.rest
    generalize t.fns = a, t.drive = b, t.loop.status = x, t.pub.deferred = y at e
    subst e
    rfl
  · exact h.others g (fun e => by rw [← e, ns] at hg; cases hg)

theorem sweep_settled (fs : List FnId) : ∀ s : State, s.isActive = true → Settled s (State.sweep fs s).1 := by
  induction fs with
  | nil => intro s _; exact Settled.refl s
  | cons f fs ih =>
    intro s act
    unfold State.sweep
    split
    · exact ih s act
    next s1 h =>
      have m := react_moved h
      have k := (m.1.settled m.2 act).trans (evaluate_settled s1)
      exact k.trans (ih _ (by rw [k.isActive]; exact act))

theorem settleRounds_settled (n : Nat) : ∀ s : State, s.isActive = true → Settled s (State.settleRounds n s) := by
  induction n with
  | zero => intro s _; exact Settled.refl s
  | succ n ih =>
    intro s act
    unfold State.settleRounds
    have k := sweep_settled s.choice.functions s act
    split
    next s1 h =>
      rw [h] at k
      exact k.trans (ih s1 (by rw [k.isActive]; exact act))
    next s1 h => rw [h] at k; exact k

/-- All that the guard evaluation of an event and the reactions to it can change (R86, R87). -/
theorem settle_settled (s : State) : Settled s s.settle := by
  unfold State.settle
  split
  next act =>
    have k := evaluate_settled s
    exact k.trans (settleRounds_settled _ _ (by rw [k.isActive]; exact act))
  · exact Settled.refl s

/-- Outside ACTIVE nothing is evaluated (R88). -/
theorem settle_idle {s : State} (h : s.isActive = false) : s.settle = s := by simp [State.settle, h]

/-! ## Stops of every function -/

theorem Moved.noticed {f : FnId} {s t : State} (h : Moved f s t) : Noticed s t := by
  refine ⟨?_, h.asked⟩
  have e := h.rest
  generalize t.fns = a, t.drive = b, t.loop.status = x, t.pub.deferred = y at e
  subst e
  rfl

theorem eachFn_noticed {op : FnId → State → State} (h : ∀ f s, Noticed s (op f s)) (s : State) :
    Noticed s (s.eachFn op) := (((h 0 s).trans (h 1 _)).trans (h 2 _)).trans (h 3 _)

/-- A station-wide stop moves functions and clears the drive (R104, R107, R139). -/
theorem stopNow_noticed (s : State) : Noticed s s.stopNow := by
  have k := eachFn_noticed (fun f s => (immediateStop_moved f s).noticed) s
  unfold State.stopNow
  generalize s.eachFn State.immediateStop = u at k ⊢
  exact k.trans ⟨rfl, ⟨.inl rfl, id⟩⟩

theorem stopNow_drive (s : State) : s.stopNow.drive = Vector.replicate 4 Drive.off := rfl

/-! ## The flow arbiter -/

theorem flow_noticed (g : State → Flow) (s : State) : Noticed s (s.act (fun t => { t with flow := g t })) := by
  have a := act_asked (fun t => { t with flow := g t }) s
  refine ⟨?_, ⟨a.status, a.deferred⟩⟩
  have e := act_eq (fun t => { t with flow := g t }) s
  generalize s.act _ = u at e ⊢
  generalize u.loop.status = x', u.pub.deferred = y' at e ⊢
  subst e
  rfl

theorem arbitrate_noticed (s : State) : Noticed s s.arbitrate := by
  unfold State.arbitrate
  split
  · exact flow_noticed _ s
  · exact Noticed.refl s

theorem pumpEnters_noticed (p : PumpId) (m : PumpState) (s : State) : Noticed s (s.pumpEnters p m) :=
  flow_noticed (fun t => (t.flow.setPump p { state := m, runUp := none }).recount s.cfg.own.unitsPerPump) s

theorem pumpGateStop_noticed (p : PumpId) (s : State) : Noticed s (s.pumpGateStop p) := by
  unfold State.pumpGateStop
  split
  · exact pumpEnters_noticed p _ s
  · exact Noticed.refl s

theorem gateEdge_noticed (old s : State) : Noticed s (State.gateEdge old s) := by
  unfold State.gateEdge
  split
  · split
    · exact ((pumpGateStop_noticed .a s).trans (pumpGateStop_noticed .b _)).trans (arbitrate_noticed _)
    · split
      · exact arbitrate_noticed s
      · exact Noticed.refl s
  · exact Noticed.refl s

/-! ## Notices of the image -/

theorem foldl_noticed {op : FnId → State → State} (h : ∀ f s, Noticed s (op f s)) (fs : List FnId) :
    ∀ s : State, Noticed s (fs.foldl (fun t f => op f t) s) := by
  induction fs with
  | nil => exact Noticed.refl
  | cons f fs ih => intro s; exact (h f s).trans (ih _)

theorem releaseNotice_noticed (n : StationId) (s : State) : Noticed s (s.releaseNotice n) := by
  unfold State.releaseNotice
  split
  · exact eachFn_noticed (fun f s => (releaseAt_moved f s).noticed) s
  · exact Noticed.refl s

theorem pumpNotice_noticed (n : StationId) (s : State) : Noticed s (s.pumpNotice n) := by
  unfold State.pumpNotice
  split
  · exact foldl_noticed (fun f s => (pumpNoticeAt_moved f s).noticed) _ s
  · exact Noticed.refl s

theorem claimNotice_noticed (n : StationId) (s : State) : Noticed s (s.claimNotice n) := by
  unfold State.claimNotice
  split
  · exact arbitrate_noticed s
  · exact Noticed.refl s

/-- All that a change notice can change (R70 to R72). -/
theorem changeNotice_noticed (n : StationId) (s : State) : Noticed s (s.changeNotice n) := by
  unfold State.changeNotice
  dsimp only
  have a := releaseNotice_noticed n s
  have b : Noticed (s.releaseNotice n)
      (if (s.releaseNotice n).choice.guardFirst then (s.releaseNotice n).settle else s.releaseNotice n) := by
    split
    · exact (settle_settled _).noticed
    · exact Noticed.refl _
  exact (((a.trans b).trans (pumpNotice_noticed n _)).trans (claimNotice_noticed n _)).trans
    (settle_settled _).noticed

/-- All that a change of LONE can cause (R36). -/
theorem loneChanged_noticed (s : State) : Noticed s s.loneChanged := by
  unfold State.loneChanged
  dsimp only
  have a : Noticed s (if s.choice.guardFirst then s.settle else s) := by
    split
    · exact (settle_settled _).noticed
    · exact Noticed.refl _
  generalize (if s.choice.guardFirst then s.settle else s) = t at a
  have b : Noticed t (if t.loop.lone then t.eachFn State.halt else t) := by
    split
    · exact eachFn_noticed (fun f s => (halt_moved f s).noticed) t
    · exact Noticed.refl _
  exact ((a.trans b).trans (arbitrate_noticed _)).trans (settle_settled _).noticed

/-! ## Trips -/

theorem tripGained_noticed (old : State) (g : Option StopClass) (s : State) : Noticed s (State.tripGained old g s) := by
  unfold State.tripGained
  split
  · exact Noticed.refl s
  · exact (stopNow_noticed s).trans (gateEdge_noticed old _)
  · exact eachFn_noticed (fun f s => (halt_moved f s).noticed) s

/-- What the entry of a trip can change (R151, R155). -/
theorem enterTrip_tripped (n : StationId) (c : StopClass) (s : State) : Tripped s (s.enterTrip n c) := by
  unfold State.enterTrip
  dsimp only
  refine Tripped.trans (t := s.onUnit (fun u => { u with trips := u.trips.set n (tripEntry (s.unit.trips[n]) c).1 }))
    ⟨rfl, ⟨.inl rfl, id⟩, id⟩ (tripGained_noticed _ _ _).tripped

/-- The trip list after the entry of a trip (R151). -/
theorem enterTrip_trips (n : StationId) (c : StopClass) (s : State) :
    (s.enterTrip n c).unit.trips = s.unit.trips.set n (tripEntry (s.unit.trips[n]) c).1 := by
  unfold State.enterTrip
  dsimp only
  rw [(tripGained_noticed _ _ _).rest]
  rfl

theorem queueTrip_tripped (r : TripReason) (s : State) : Tripped s (s.queueTrip r) := by
  unfold State.queueTrip
  split
  · exact ⟨rfl, ⟨.inl rfl, id⟩, id⟩
  · exact Tripped.refl s

theorem requeueTrip_tripped (s : State) : Tripped s s.requeueTrip := by
  unfold State.requeueTrip
  split
  · exact queueTrip_tripped _ s
  · exact Tripped.refl s

/-- What a rising trip cause can change (R55, R152). -/
theorem raiseCause_tripped (s : State) : Tripped s s.raiseCause := by
  unfold State.raiseCause
  split
  · split
    · exact Tripped.refl s
    next r _ =>
      refine Tripped.trans (t := s.act (State.onUnit (fun u => { u with tripAsserted := true }))) ?_
        ((enterTrip_tripped _ _ _).trans (queueTrip_tripped r _))
      have a := act_asked (State.onUnit (fun u => { u with tripAsserted := true })) s
      refine ⟨?_, ⟨a.status, a.deferred⟩, fun _ => by simp⟩
      have e := act_eq (State.onUnit (fun u => { u with tripAsserted := true })) s
      generalize s.act _ = u at e ⊢
      generalize u.loop.status = x', u.pub.deferred = y' at e ⊢
      subst e
      rfl
  · exact Tripped.refl s

/-- What taking a latched fault can change (R125). -/
theorem takeLatched_tripped (f : FnId) (c : FaultCode) (s : State) : Tripped s (s.takeLatched f c) := by
  have base : Moved f s (s.act (State.onFn f (fun x => { x with fault := shownFault (s.fns[f]).fault c }))) :=
    (onFn_moved f _ s).act
  unfold State.takeLatched
  dsimp only
  generalize (s.act (State.onFn f (fun x => { x with fault := shownFault (s.fns[f]).fault c }))) = t at base ⊢
  have k : ∀ u : State, Moved f t u → Tripped s (if c.raisesTrip = true then u.raiseCause else u) := by
    intro u h
    have b := (base.trans h).noticed.tripped
    split
    · exact b.trans (raiseCause_tripped u)
    · exact b
  apply k
  split
  · split
    · exact (toIdle_moved _ f t).act
    · exact Moved.refl f t
  · exact (toIdle_moved _ f t).act
  · exact enterStopping_moved f _ t
  · exact enterStopping_moved f _ t
  · exact enterStopping_moved f _ t
  · exact Moved.refl f t

/-- A latched fault that is no trip cause moves its function and nothing else. -/
theorem takeLatched_moved (f : FnId) {c : FaultCode} (h : c.raisesTrip = false) (s : State) :
    Moved f s (s.takeLatched f c) := by
  have base : Moved f s (s.act (State.onFn f (fun x => { x with fault := shownFault (s.fns[f]).fault c }))) :=
    (onFn_moved f _ s).act
  unfold State.takeLatched
  dsimp only
  rw [h]
  generalize (s.act (State.onFn f (fun x => { x with fault := shownFault (s.fns[f]).fault c }))) = t at base ⊢
  simp only [Bool.false_eq_true, if_false]
  refine base.trans ?_
  split
  · split
    · exact (toIdle_moved _ f t).act
    · exact Moved.refl f t
  · exact (toIdle_moved _ f t).act
  · exact enterStopping_moved f _ t
  · exact enterStopping_moved f _ t
  · exact enterStopping_moved f _ t
  · exact Moved.refl f t

end Sys2Proof.Machine
end

