-- ==== Sys2Proof/Laws/Ops.lean ====
section
/-! SUPPORT. What the shared operations around an event do: its end, the causes outside ACTIVE, a request to the pending
set, an arrival, the status notice, and the entry to WITHDRAWN. -/

namespace Sys2Proof.Machine

/-! ## The end of an event (R140) -/

theorem Noticed.finish (s : State) : Noticed s s.finish := ⟨rfl, ⟨.inl rfl, id⟩⟩

theorem Settled.finish (s : State) : Settled s s.finish :=
  ⟨rfl, ⟨.inl rfl, id⟩, fun _ _ => ⟨rfl, rfl⟩, fun _ => ⟨rfl, rfl, rfl⟩⟩

theorem Tripped.finish (s : State) : Tripped s s.finish := (Noticed.finish s).tripped

theorem Noticed.life {s t : State} (h : Noticed s t) : t.life = s.life := by rw [h.rest]

theorem Tripped.life {s t : State} (h : Tripped s t) : t.life = s.life := by rw [h.rest]

/-! ## Outside ACTIVE (R48, R38) -/

/-- No STATUS is queued outside ACTIVE. -/
theorem statusCause_inactive {s : State} (h : s.isActive = false) : s.statusCause = s := by
  unfold State.statusCause State.mayQueue
  simp [h]

/-- So an operation that leaves the station outside ACTIVE has its own effect only. -/
theorem act_inactive {op : State → State} {s : State} (h : (op s).isActive = false) : s.act op = op s := by
  unfold State.act
  dsimp only
  split
  · exact statusCause_inactive h
  · rfl

/-! ## Times (R17) -/

theorem bt_pos (s : State) : 0 < s.bt := by
  unfold State.bt bitTicks
  cases s.bitRate <;> decide

/-- A count of whole bit times is reached when its ticks are. -/
theorem wholeBits_reached (s : State) (n t : Nat) : n ≤ wholeBits s.bitRate t ↔ n * s.bt ≤ t :=
  Nat.le_div_iff_mul_le (bt_pos s)

/-! ## The end of a followed frame (R18, R26, R29) -/

@[simp] theorem frameEnd_life (w : Wave) (s : State) : (s.frameEnd w).life = s.life := rfl
@[simp] theorem frameEnd_setup (w : Wave) (s : State) : (s.frameEnd w).setup = s.setup := rfl
@[simp] theorem frameEnd_station (w : Wave) (s : State) : (s.frameEnd w).station = s.station := rfl
@[simp] theorem frameEnd_image (w : Wave) (s : State) : (s.frameEnd w).image = s.image := rfl
@[simp] theorem frameEnd_unit (w : Wave) (s : State) : (s.frameEnd w).unit = s.unit := rfl
@[simp] theorem frameEnd_fns (w : Wave) (s : State) : (s.frameEnd w).fns = s.fns := rfl
@[simp] theorem frameEnd_drive (w : Wave) (s : State) : (s.frameEnd w).drive = s.drive := rfl
@[simp] theorem frameEnd_field (w : Wave) (s : State) : (s.frameEnd w).field = s.field := rfl
@[simp] theorem frameEnd_flow (w : Wave) (s : State) : (s.frameEnd w).flow = s.flow := rfl
@[simp] theorem frameEnd_pub (w : Wave) (s : State) : (s.frameEnd w).pub = s.pub := rfl
@[simp] theorem frameEnd_wait (w : Wave) (s : State) : (s.frameEnd w).loop.wait = false := rfl

/-! ## Evaluations to which nothing reacts (R87) -/

/-- A round in which no function has anything to do leaves the state as it is. -/
theorem sweep_none {s : State} (h : ∀ f : FnId, s.react f = none) : ∀ fs : List FnId, State.sweep fs s = (s, false)
  | [] => rfl
  | f :: fs => by
      unfold State.sweep
      rw [h f]
      exact sweep_none h fs

/-- An event after which every function is calm leaves the evaluated state. -/
theorem settle_calm {s : State} (h : Calm s) : s.settle = s.evaluate := by
  unfold State.settle
  split
  · show State.settleRounds (15 + 1) s.evaluate = s.evaluate
    unfold State.settleRounds
    rw [sweep_none h]
  next c =>
    unfold State.evaluate
    rw [if_neg c]

/-! ## Arrivals (R25) -/

theorem running_of {s : State} (h : s.life = .joining ∨ s.life = .active) : s.running = true := by
  unfold State.running
  rcases h with h | h <;> rw [h]

/-- A station that hears a frame sends none. -/
theorem hears_send {s : State} {w : Wave} {f : Frame} (h : s.hears w = some f) : s.loop.send = none := by
  unfold State.hears at h
  split at h
  next c =>
    simp at c
    exact c.2
  · cases h

/-- A good frame counts in WITHDRAWN only (R16). -/
theorem countGood_eq {s : State} (h : s.life = .joining ∨ s.life = .active) : s.countGood = s := by
  unfold State.countGood
  rcases h with h | h <;> rw [h] <;> simp

/-- A good frame of a kind from a peer ends on the line and is delivered. -/
theorem arrival_eq {kind : FrameKind} (deliver : Frame → State → State) {w : Wave} {f : Frame} {s : State}
    (hl : s.life = .joining ∨ s.life = .active) (hh : s.hears w = some f) (hk : f.kind = kind.code)
    (hn : f.station ≠ s.station) : s.arrival kind deliver w = (deliver f (s.frameEnd w)).countGood := by
  unfold State.arrival
  rw [hh]
  dsimp only
  rw [if_pos ⟨hk, hn⟩, if_pos (running_of hl)]

theorem entry_other {s : State} {n : StationId} (h : n ≠ s.station) : s.entry n = s.image[n] := by
  unfold State.entry
  rw [if_neg h]

/-- An ANNOUNCE request in JOINING and ACTIVE reaches its slot (R27, R38). -/
theorem queueAnnounce_eq {s : State} (ask : Bool) (h : s.life = .joining ∨ s.life = .active) : s.queueAnnounce ask =
    { s with loop := { s.loop with announce := announceRequest ask s.loop.idBegun s.loop.announce } } := by
  unfold State.queueAnnounce
  rw [if_pos]
  · rfl
  · unfold State.mayQueue State.isActive
    rcases h with h | h <;> rw [h] <;> rfl

/-- The notice of a STATUS arrival at the trip list (R154), and what an opening of the gate by it may change. -/
theorem statusNotice_noticed {n : StationId} {s : State} {b : Byte} (hn : n ≠ s.station)
    (hf : (s.image[n]).state = .fresh) (hb : (s.image[n]).byte = some b) :
    Noticed { s with unit := { s.unit with
      trips := if s.unit.resetWindow.isSome = true ∧ b.getLsbD 6 = false then s.unit.trips.set n none else s.unit.trips } }
      (s.statusNotice n) := by
  unfold State.statusNotice
  have r : s.removable n = (s.unit.resetWindow.isSome && !bit b 6) := by
    unfold State.removable State.isFresh
    rw [entry_other hn, hf, hb]
    simp
  have e : s.removeTrip n = { s with unit := { s.unit with
      trips := if s.unit.resetWindow.isSome = true ∧ b.getLsbD 6 = false then s.unit.trips.set n none
        else s.unit.trips } } := by
    unfold State.removeTrip
    rw [r]
    simp only [bit, Bool.and_eq_true, Bool.not_eq_true']
    split <;> rfl
  show Noticed _ (State.gateEdge s (s.removeTrip n)).settle
  rw [e]
  exact (gateEdge_noticed _ _).trans (settle_settled _).noticed

/-! ## Entry to WITHDRAWN (R15) -/

/-- Two states that differ in their functions and their drive at most. -/
def FnsOnly (s t : State) : Prop := t = { s with fns := t.fns, drive := t.drive }

theorem FnsOnly.trans {s t u : State} (h : FnsOnly s t) (k : FnsOnly t u) : FnsOnly s u := by
  unfold FnsOnly at h k ⊢
  generalize t.fns = a, t.drive = b at h
  subst h
  generalize u.fns = a', u.drive = b' at k
  subst k
  rfl

theorem toIdle_fnsOnly (m : Motion) (f : FnId) (s : State) : FnsOnly s (State.toIdle m f s) := rfl

theorem FnsOnly.isActive {s t : State} (h : FnsOnly s t) : t.isActive = s.isActive := by
  unfold FnsOnly at h
  rw [h]
  rfl

/-- Outside ACTIVE an immediate stop touches functions and drive only (R123). -/
theorem immediateStop_inactive (f : FnId) {s : State} (h : s.isActive = false) : FnsOnly s (s.immediateStop f) := by
  have k : ∀ op : State → State, (∀ t, FnsOnly t (op t)) → s.act op = op s := fun op ho =>
    act_inactive (by rw [(ho s).isActive]; exact h)
  unfold State.immediateStop
  dsimp only
  split
  · generalize (if (s.fns[f]).fault.latched then (s.fns[f]).fault else FaultCode.stopped) = code
    rw [k (fun t => (t.toIdle .rest f).onFn f (fun y => { y with fault := code })) (fun _ => rfl)]
    split
    next c =>
      have : ((State.toIdle .rest f s).onFn f (fun y => { y with fault := code })).isActive = false := h
      rw [this] at c
      simp at c
    · exact rfl
  · split
    · rw [k _ (toIdle_fnsOnly _ _)]
      exact toIdle_fnsOnly _ _ _
    · exact rfl

theorem withdrawFn_fnsOnly (f : FnId) {s : State} (h : s.isActive = false) : FnsOnly s (State.withdrawFn f s) := by
  unfold State.withdrawFn
  split
  · exact rfl
  · exact immediateStop_inactive f h

theorem eachFn_fnsOnly {op : FnId → State → State} (ho : ∀ f s, s.isActive = false → FnsOnly s (op f s)) {s : State}
    (h : s.isActive = false) : FnsOnly s (s.eachFn op) := by
  unfold State.eachFn
  have a := ho 0 s h
  have ha := a.isActive.trans h
  have b := ho 1 _ ha
  have hb := b.isActive.trans ha
  have c := ho 2 _ hb
  have hc := c.isActive.trans hb
  exact ((a.trans b).trans c).trans (ho 3 _ hc)

/-- The station right after it withdraws, but for its functions (R15, R36, R52, R56, R88, R142, R145, R156). -/
theorem enterWithdrawn_eq (s : State) : ∃ fns : Vector Fn 4, s.enterWithdrawn = { s with
    life := .withdrawn, joinWindow := none, goodFrames := 0, fns := fns
    drive := Vector.replicate 4 Drive.off
    loop := { s.loop with trip := .empty, intent := .empty, status := .empty, announce := .empty, send := none,
                          wait := false, lone := false }
    pub := { s.pub with refresh := none, inhibitTimer := none, deferred := false, inhibit := false }
    guard := s.guard.cleared
    panel := { Panel.atReset with selection := s.panel.selection }
    unit := { s.unit with tripRepeat := none }
    flow := Flow.atReset } := by
  have a := eachFn_fnsOnly (op := State.withdrawFn) (fun f t h => withdrawFn_fnsOnly f h)
    (s := { s with life := .withdrawn, joinWindow := none, goodFrames := 0 }) rfl
  unfold State.enterWithdrawn
  dsimp only
  generalize (State.eachFn State.withdrawFn _) = t at a
  unfold FnsOnly at a
  generalize hg : t.fns = g, hd : t.drive = d at a
  subst a
  exact ⟨g, rfl⟩

end Sys2Proof.Machine
end

