-- ==== Sys2Proof/WellFormed.lean ====
section
/-! DEFINITION. Which commands the hardware can bring about at all, judged by their operands alone. A command that
is not well-formed names an event that no station sees; `exec` gives it the same total treatment as any other. -/

namespace Sys2Proof

/-- A wave begins with a dominant run, and no stretch of it is empty (R20: it starts at a dominant edge). -/
def Wave.wf (w : Wave) : Bool :=
  (match w with
    | [] => false
    | g :: _ => g.dominant) &&
  w.all (fun g => 0 < g.ticks)

/-- A self-drop that aborts a send comes before the ID cell, so it is none of LENGTH and CRC (R33). -/
def AbortCause.wf : AbortCause → Bool
  | .selfDrop .length => false
  | .selfDrop .crc => false
  | _ => true

/-- The header is seven bytes; an image's remaining bytes are 61 to 4089 (R4); a late start comes no earlier than the
moment the station became free (R30). -/
def Instr.wf : Instr → Bool
  | .headerReadComplete bytes => bytes.length == Config.headerBytes
  | .imageReadComplete bytes _ =>
      Config.minImage - Config.headerBytes ≤ bytes.length && bytes.length ≤ Config.maxImage - Config.headerBytes
  | .frameDropped w => w.wf
  | .undeliveredGoodFrame w => w.wf
  | .statusArrival w => w.wf
  | .announceArrival w => w.wf
  | .intentArrival w => w.wf
  | .tripArrival w => w.wf
  | .lateStart since free => free ≤ since
  | .sendAbort c => c.wf
  | .resetCondition _ => true
  | .leaveReset _ _ => true
  | .configFaultAnnounceTimer => true
  | .joinWindowExpiry => true
  | .withdrawnIdleTimeout => true
  | .lineBusy => true
  | .lineIdle _ => true
  | .lineStuck _ => true
  | .stuckEnd _ => true
  | .sendStart => true
  | .idCellStart => true
  | .arbitrationLoss _ => true
  | .sendComplete _ => true
  | .sendWaitEnd _ => true
  | .changeInhibitExpiry => true
  | .refreshExpiry => true
  | .tripRepeatExpiry => true
  | .ageExpiry _ => true
  | .flashTimerExpiry => true
  | .inputLevelChange _ _ => true
  | .debounceExpiry _ => true
  | .discrepancyExpiry _ _ => true
  | .controlPeriod _ _ => true
  | .pressureConversion _ => true
  | .stopLoopOpening => true
  | .stopLoopReadsClosed => true
  | .stopLoopClosingExpiry => true
  | .supplyFallsBelow19V => true
  | .supplyBackAt19V => true
  | .supplyRisesTo20V => true
  | .supplyFallsBelow20V => true
  | .lowTimerExpiry => true
  | .recoveryTimerExpiry => true
  | .grantWaitExpiry _ => true
  | .pressuriseTimeout _ => true
  | .strokeTimeout _ => true
  | .stallWindowExpiry _ => true
  | .seatTimerExpiry _ => true
  | .pullInExpiry _ => true
  | .intentRefreshExpiry => true
  | .intentLeaseExpiry _ => true
  | .resetWindowExpiry => true
  | .runUpExpiry _ => true
  | .idleTimerExpiry => true
  | .pulseTimeExpiry _ => true

end Sys2Proof
end

