-- ==== Sys2Proof/Tests/Slice0.lean ====
section
/-! SUPPORT. The model's own tests: what WellFormed refuses, the figures that the manual works out (each with its
section), and for every obligation with hypotheses a station and operands that meet them. -/

namespace Sys2Proof.Tests

open Sys2Proof.Machine

set_option Elab.async false

/-! ## Stations to test on -/

/-- The default timing block of section 11. -/
def timing : Timing :=
  { refresh := 50, changeInhibit := 4, stale := 150, intentRefresh := 100, intentLease := 300, debounce := 10,
    discrepancy := 300, positionStep := 10, pwm := 1000 }

/-- The profile of sections 8.3 to 8.5: Lt 800, Lc 200, z 150, r 5. -/
def profile : Profile :=
  { pressureThreshold := 60, pressuriseTimeout := 1500, grantWait := 10, strokeLimit := 60, stallWindow := 1000,
    stallDelta := 5, seatTime := 200, pullIn := 50, holdDuty := 400, travelLevel := 800, creepLevel := 200,
    creepZone := 150, ramp := 5, stopRamp := 10, skewDeadband := 10, skewGain := 24, skewTrip := 60, claimUnits := 12,
    claimPriority := 1 }

/-- A POSITIONED function with two OPEN sensors and the calibration of section 6.5. -/
def lift : FnSetup :=
  { kind := .positioned, pair := none, openA := 0, openB := some 2, closedA := 1, closedB := none, c0 := 410, c1 := 3686,
    openProfile := profile, closeProfile := profile, openTerms := [], closeTerms := [] }

/-- An END_ONLY function. -/
def lock : FnSetup := { lift with kind := .endOnly, openA := 3, openB := none, closedA := 4, c0 := 0, c1 := 0 }

/-- The roles of the small arrangement: panels at 0 and 4, the station itself at 1, a pump at 2, a MOTION at 3. -/
def briefs (own : Role) : Vector Brief 16 :=
  let b := fun (r : Role) => { Brief.blank with role := r }
  ((((Vector.replicate 16 Brief.blank).set 0 (b .panelCommand)).set 1 (b own)).set 2 (b .pump)).set 3 (b .motion) |>.set 4
    (b .panelStop)

/-- A MOTION station with a lift at F0 and a lock at F1. -/
def motionSetup : Setup :=
  { timing := timing, fingerprint := 0x25FA9F0C, subscription := [2], briefs := briefs .motion,
    own := { OwnSection.blank with role := .motion, pumpStation := 2, fns := #v[some lift, some lock, none, none] } }

/-- A PUMP station with two pumps of 16 units. -/
def pumpSetup : Setup :=
  { timing := timing, fingerprint := 0x25FA9F0C, subscription := [3], briefs := briefs .pump,
    own := { OwnSection.blank with role := .pump, unitsPerPump := 16, runUpMs := 2500, idleStopS := 30 } }

/-- A PANEL_COMMAND station: OPEN on DI0, CLOSE on DI1, STOP on DI2, RESET on DI3, COMMAND_KEY on DI4. -/
def panelSetup : Setup :=
  { timing := timing, fingerprint := 0x25FA9F0C, subscription := [], briefs := briefs .panelCommand,
    own := { OwnSection.blank with
      role := .panelCommand
      panel := { PanelInputs.blank with
        openB := some 0, closeB := some 1, stop := some 2, reset := some 3, commandKey := some 4 } } }

/-- The field of a healthy station: the stop loop closed and the supply at 24 V. -/
def healthy : FieldInputs :=
  { FieldInputs.afterReset { FieldLines.atReset with stopLoopClosed := true, supply := .from20 } with
    stopLoopClosed := true, supplyOk := true, di := Vector.replicate 16 { accepted := some false, debounce := none }
    fns :=
      let x := { FnField.atReset with endState := .between, position := 500, lastRaw := some 500 }
      #v[x, x, FnField.atReset, FnField.atReset] }

/-- A station in a life cycle state with a setup, its line IDLE and its configured functions in REST. -/
def station (life : Life) (c : Setup) : State :=
  { State.reset with
    life := life, station := 1, setup := some c, field := healthy
    loop := { Loop.atReset with line := some .idle, idleRule := .noFrame }
    guard := { GuardEngine.loaded c.own with flash := if life = .active then some .lit else none }
    fns := #v[{ Fn.atReset with motion := .rest }, { Fn.atReset with motion := .rest }, Fn.atReset, Fn.atReset] }

/-- The same with its guards evaluated. -/
def active (c : Setup) : State := (station .active c).evaluate

/-- The station after a command. -/
def after (c : Instr) (s : State) : State :=
  match exec c s with
  | .next t => t
  | .fault _ => s
  | .refused _ => s

/-- The wave of a frame at 100 kbit/s. -/
def wave (kind n : Nat) (data : List Byte) : Wave := driveWave .k100 (frameLevels (frameBytes kind n 1 data))

/-- A station byte with ACTIVE, STOP_LOOP_CLOSED and FIELD_SUPPLY_OK. -/
def sound : Byte := 0xB0

/-- An entry of a peer that shares the image, in a state. -/
def peer (st : EntryState) (r : Role) : Entry :=
  { state := st, role := some r, fpMatch := .matched, age := none, byte := none, record := none }

/-- A FRESH entry with a record. -/
def fresh (r : Role) (rec : Option Record) : Entry :=
  { peer .fresh r with age := some 150, byte := some sound, record := rec }

/-- The pump's record with a grant list. -/
def granting (gs : List (StationId × FnId)) : Record := .pump .running .running 32 gs

/-- The pump's entry FRESH, with a grant list. -/
def withGrants (gs : List (StationId × FnId)) (s : State) : State :=
  { s with image := s.image.set 2 (fresh .pump (some (granting gs))) }

/-- F0 in a motion state toward OPEN, its drive at a level; F1 waits for its release. -/
def moving (m : Motion) (level : Nat) (s : State) : State :=
  { s with
    fns := (s.fns.set 1 { s.fns[(1 : FnId)] with released := false }).set 0 { Fn.atReset with
      motion := m, target := some .toOpen, released := false, grantWait := if m = .awaitFlow then some 10000 else none
      pressurise := if m = .pressurise then some 1500 else none
      stroke := if m.moving then some 60000 else none, stall := if m.moving then some 1000 else none
      stallRef := if m.moving then some 500 else none, wrongRef := if m.moving then some 500 else none
      seat := if m = .seat then some 200 else none }
    drive := s.drive.set 0 { Drive.off with
      level := level, phase := .hold, prop := PulseGen.hand 1000 level .off, sol := PulseGen.start 1000 400 } }

/-- The effective intent OPEN, from the panel at 0. -/
def wanting (s : State) : State :=
  { s with unit := { s.unit with
      table := s.unit.table.set 0 (some { kind := .toOpen, lease := some 300 }), effective := some .toOpen } }

/-- F0 at a level in a motion state toward OPEN, demanded and granted, the guards evaluated. -/
def opening (m : Motion) (level : Nat) : State :=
  (moving m level (wanting (withGrants [(1, 0)] (station .active motionSetup)))).evaluate

/-- A frame of a kind in flight, before or after its ID cell began. -/
def sending (k : FrameKind) (begun : Bool) (data : List Byte) (s : State) : State :=
  let m : Send := { kind := k, markTicks := 960, idBegun := begun, edition := 1, data := data, bytes := [] }
  { s with loop := { s.loop with
      line := some .busy, follow := .frame, send := some m
      trip := if k = .trip then .inFlight .fieldSupplyLow none else s.loop.trip
      intent := if k = .intent then .inFlight { kind := .toOpen, underway := false } none else s.loop.intent
      status := if k = .status then .inFlight () none else s.loop.status
      announce := if k = .announce then .inFlight true none else s.loop.announce } }

/-- A HOLD term on the pump, and a START term. -/
def terms : List Term :=
  [{ station := 2, selector := .stationFlags, operator := .maskedEqual 0x80 0x80, hold := false, safe := false, invert := false },
   { station := 2, selector := .pumpCapacity, operator := .atLeast 33, hold := true, safe := true, invert := false }]

/-! ## What WellFormed refuses -/

theorem test_wf_header : Instr.wf (.headerReadComplete [3, 0, 68, 0, 0, 0]) = false := by decide
theorem test_wf_image : Instr.wf (.imageReadComplete (List.replicate 60 0) FieldLines.atReset) = false := by decide
theorem test_wf_wave_empty : Instr.wf (.frameDropped []) = false := by decide
theorem test_wf_wave_recessive : Instr.wf (.statusArrival [⟨false, 80⟩]) = false := by decide
theorem test_wf_wave_stretch : Instr.wf (.tripArrival [⟨true, 960⟩, ⟨false, 0⟩]) = false := by decide
theorem test_wf_wave_undelivered : Instr.wf (.undeliveredGoodFrame [⟨false, 1⟩]) = false := by decide
theorem test_wf_wave_announce : Instr.wf (.announceArrival []) = false := by decide
theorem test_wf_wave_intent : Instr.wf (.intentArrival [⟨true, 0⟩]) = false := by decide
theorem test_wf_late : Instr.wf (.lateStart 10 11) = false := by decide
theorem test_wf_abort_length : Instr.wf (.sendAbort (.selfDrop .length)) = false := by decide
theorem test_wf_abort_crc : Instr.wf (.sendAbort (.selfDrop .crc)) = false := by decide

/-! ## The table's bits -/

/-- No row of the table has bits. -/
theorem test_decode_none : decodeTableWord 8 0 = none ∧ (State.reset.withFetchWord 8 0).pending = [] := by decide

/-! ## Figures that the manual works out -/

def digits : List Byte := [0x31, 0x32, 0x33, 0x34, 0x35, 0x36, 0x37, 0x38, 0x39]

/-- R24: the check over the text 123456789. -/
theorem test_crc16_check : crc16 digits = 0x29B1 := by decide +kernel

/-- R5: the fingerprint over the same text. -/
theorem test_crc32_check : crc32 digits = 0xCBF43926 := by decide +kernel

/-- Section 8.2: a reversed calibration. -/
theorem test_position_reversed :
    [3786, 3785, 3715, 3700, 2300, 900, 815, 814].map (fun a => unclamped { lift with c0 := 3700, c1 := 900 } a) =
      [-31, -30, -5, 0, 500, 1000, 1030, 1031] := by decide +kernel

/-- Section 6.5: the readings around the fault band. -/
theorem test_position_band :
    [0, 310, 311, 410, 3785, 3786, 4095].map (unclamped lift) = [-125, -31, -30, 0, 1030, 1031, 1125] := by decide +kernel

/-- R130: a reading beyond c0 by 50 of 2950. -/
theorem test_position_rail : unclamped { lift with c0 := 50, c1 := 3000 } 0 = -17 := by decide +kernel

/-- Section 6.6: readings and pressures. -/
theorem test_pressure : [102, 103, 2048, 3583, 3584, 4095].map bar = [9, 10, 200, 349, 350, 400] := by decide +kernel

/-- Section 8.3: base levels of one profile. -/
theorem test_base_level : [400, 150, 149, 95, 1, 0].map (baseLevel profile) = [800, 800, 796, 580, 204, 200] := by
  decide +kernel

/-- R136: from 785 at a stop rate of 10, 5 after 78 periods and 0 after 79. -/
theorem test_stop_ramp : (rampStep 10 0)^[78] 785 = 5 ∧ (rampStep 10 0)^[79] 785 = 0 := by decide +kernel

/-- Section 8.6: pulse times. -/
theorem test_pulse_times :
    [(1000, 785), (1000, 15), (1000, 0), (1000, 1000), (1500, 333), (1550, 331), (500, 1), (500, 39), (4000, 4),
     (4000, 995)].map (fun x => highTime x.1 x.2) = [785, 20, 0, 1000, 500, 513, 20, 20, 20, 3980] := by decide +kernel

/-- A SYNC cell whose third dominant edge comes after `n` ticks, behind a good start mark. -/
def syncWave (bt n : Nat) : Wave :=
  [⟨true, 12 * bt⟩, ⟨false, 2 * bt⟩, ⟨true, 2 * bt⟩, ⟨false, 2 * bt⟩, ⟨true, 2 * bt⟩, ⟨false, n - 6 * bt⟩, ⟨true, 2 * bt⟩]

/-- R21's table at 100 kbit/s: 598 and 681 ticks are SYNC_ERROR, 600 and 680 are not (this wave ends within its frame). -/
theorem test_sync_window :
    receive .k100 (syncWave 80 598) = .dropped .syncError ∧ receive .k100 (syncWave 80 600) = .dropped .framing ∧
    receive .k100 (syncWave 80 680) = .dropped .framing ∧ receive .k100 (syncWave 80 681) = .dropped .syncError := by
  decide +kernel

/-- R21's table: the measured bit times. -/
theorem test_sync_rounding :
    [600, 652, 680, 1200, 1291, 1300, 1360].map (fun n => roundHalfUp n 8) = [75, 82, 85, 150, 161, 163, 170] := by decide

/-- R20: marks of 9, 10, 20 and 21 whole bit times. -/
theorem test_mark_window :
    [9, 10, 20, 21].map (fun n => receive .k100 [⟨true, n * 80⟩]) =
      [.dropped .shortMark, .dropped .syncError, .dropped .syncError, .dropped .longMark] := by decide +kernel

/-- Section 2.2's table: the bit times of a TRIP frame and of the longest, without heard slot and end gap. -/
theorem test_frame_length :
    (frameLevels (frameBytes 0 1 0 [0, 7])).length = 93 - 9 ∧
    (frameLevels (frameBytes 2 1 0 (List.replicate 20 0))).length = 273 - 9 := by decide +kernel

/-- Section 3.5's layout: E_STOP of the stop loop, a SINGLE toward CLOSE under way, a panel with UNDERWAY at 3/F1. -/
theorem test_layouts :
    TripReason.encode .stopLoopOpen = [0x00, 0x07] ∧ TripReason.encode (.functionFault 2) = [0x81, 0x02] ∧
    IntentFrame.encode { kind := .single 6 1 .toClose, underway := true } = [0x85, 0x99] ∧
    encodeStatus sound (.panel true false false 3 1) = [0xB0, 0x80, 0x0D] := by decide +kernel

/-- R166 in section 11.2: with 16 units, 12 are granted and the second 12 stop the walk for capacity. -/
theorem test_walk_stops :
    grantWalk 16 [⟨4, 0, 12, 1⟩, ⟨5, 0, 12, 1⟩] [] 0 = ([(4, 0)], .forCapacity) := by decide +kernel

/-- R165 in section 11.4: of two priority-1 grants the youngest goes, and 16 units are left. -/
theorem test_revoke_youngest :
    revoke [⟨6, 1, 4, 2⟩, ⟨4, 0, 12, 1⟩, ⟨5, 0, 12, 1⟩] 16 3 [(4, 0), (5, 0), (6, 1)] = [(4, 0), (6, 1)] := by decide +kernel

/-! ## Witnesses: the step, the life cycle -/

theorem witness_StepRunsFrontCommand :
    ({ State.reset with pending := [Instr.lineBusy, .sendStart] }).pending = Instr.lineBusy :: [.sendStart] := rfl

/-- The station that reads its image. -/
def loading : State := { State.reset with life := .loading, station := 1 }

theorem witness_StrapsAndHeaderChecked :
    State.reset.life = .reset ∧ (active motionSetup).life ≠ .reset ∧ loading.life = .loading ∧ loading.header = none ∧
    (after (.headerReadComplete [3, 0, 68, 1, 2, 3, 4]) loading).header.isSome = true ∧
    (after (.headerReadComplete [3, 16, 0, 1, 2, 3, 4]) loading).header.isSome = true ∧
    (after (.headerReadComplete [3, 0, 67, 1, 2, 3, 4]) loading).report.fingerprint = 0x01020304 ∧
    (after (.headerReadComplete [3, 16, 1, 1, 2, 3, 4]) loading).life = .configFault ∧
    (after (.headerReadComplete [2, 0, 68, 1, 2, 3, 4]) loading).report.fingerprint = 0 ∧
    (after (.headerReadComplete [3, 0]) loading).header.map Header.length = some 255 := by decide +kernel

/-- An image after its header, in eight pieces: the lift and the lock at station 1, the pump at station 2, no other
station. -/
def pieces : List (List Byte) :=
  [[50, 4, 0, 150, 100, 1, 44, 10, 1, 44, 10, 3, 232, 0, 3, 0, 0, 139, 1, 2, 1, 0, 128, 130, 129, 0],
   [1, 154, 14, 102, 0, 60, 5, 220, 10, 60, 3, 232, 5, 0, 200, 50, 1, 144, 3, 32, 0, 200, 0, 150, 5, 10],
   [10, 24, 60, 12, 1, 0, 60, 5, 220, 10, 60, 3, 232, 5, 0, 200, 50, 1, 144, 3, 32, 0, 200, 0, 150, 5],
   [10, 10, 24, 60, 12, 1, 0, 0, 2, 0, 131, 0, 132, 0, 0, 0, 0, 0, 0, 60, 5, 220, 10, 8, 3, 232],
   [5, 0, 200, 50, 1, 144, 3, 32, 0, 200, 0, 150, 5, 10, 10, 24, 60, 4, 3, 0, 60, 5, 220, 10, 8, 3],
   [232, 5, 0, 200, 50, 1, 144, 3, 32, 0, 200, 0, 150, 5, 10, 10, 24, 60, 4, 3, 0, 0, 0, 0, 0, 0],
   [9, 2, 16, 9, 196, 0, 30, 0, 0, 3, 0, 0, 3, 0, 0, 3, 0, 0, 3, 0, 0, 3, 0, 0, 3, 0],
   [0, 3, 0, 0, 3, 0, 0, 3, 0, 0, 3, 0, 0, 3, 0, 0, 3, 0, 0, 3, 0]]

def body : List Byte := pieces.flatten

/-- The header of that image. -/
def header : Header := { format := 3, length := 210, fingerprint := 0x25FA9F0C }

/-- The station whose header has been checked. -/
def headed : State := { loading with header := some header }

/-- The remainder of the fingerprint after each piece. -/
theorem body_crc : crc32 body = header.fingerprint := by
  have step : ∀ (p : List Byte) (ps : List (List Byte)) (r : BitVec 32),
      (p :: ps).flatten.foldl crc32Byte r = ps.flatten.foldl crc32Byte (p.foldl crc32Byte r) := by simp
  have e : pieces = pieces[0] :: pieces[1] :: pieces[2] :: pieces[3] :: pieces[4] :: pieces[5] :: pieces[6] :: pieces[7] :: [] := by decide +kernel
  have h0 : (pieces[0]).foldl crc32Byte 0xFFFFFFFF = 0xEA6DA685 := by decide +kernel
  have h1 : (pieces[1]).foldl crc32Byte 0xEA6DA685 = 0x0722F2B0 := by decide +kernel
  have h2 : (pieces[2]).foldl crc32Byte 0x0722F2B0 = 0xA99832D3 := by decide +kernel
  have h3 : (pieces[3]).foldl crc32Byte 0xA99832D3 = 0x9164AF09 := by decide +kernel
  have h4 : (pieces[4]).foldl crc32Byte 0x9164AF09 = 0x534A6EED := by decide +kernel
  have h5 : (pieces[5]).foldl crc32Byte 0x534A6EED = 0x2B03BA85 := by decide +kernel
  have h6 : (pieces[6]).foldl crc32Byte 0x2B03BA85 = 0xF8419653 := by decide +kernel
  have h7 : (pieces[7]).foldl crc32Byte 0xF8419653 = 0xDA0560F3 := by decide +kernel
  unfold crc32 body
  rw [e, step, h0, step, h1, step, h2, step, h3, step, h4, step, h5, step, h6, step, h7]
  decide +kernel

/-- What a load leaves of that image: the setup that R11 keeps, the first conversion of a reading of 0, and JOINING. -/
def isGood (r : LoadResult) : Bool :=
  match r.result with
  | .error _ => false
  | .ok c =>
      let t := headed.goodLoad c healthy.lines
      r.ownRole == some .motion && c.subscription == [2] && c.own.fns[0] == some lift && c.timing == timing &&
      t.life == .joining && (t.field.fns[(0 : FnId)]).position == 1023 && (t.fns[(0 : FnId)]).fault == .transducer &&
      t.loop.announce == .waiting true

theorem isGood_spec {r : LoadResult} (h : isGood r = true) :
    ∃ c : Setup, r = { ownRole := some .motion, result := .ok c } := by
  obtain ⟨o, x⟩ := r
  cases x with
  | error e => cases h
  | ok c =>
    simp only [isGood, Bool.and_eq_true, beq_iff_eq] at h
    exact ⟨c, by rw [h.1.1.1.1.1.1.1]⟩

/-- Sections 1.4 and 1.5: that image loads. -/
theorem test_load : isGood (loadImage 1 header body) = true := by
  unfold loadImage
  rw [if_neg (by simp [body_crc])]
  decide +kernel

/-- A good load: the walk reaches role MOTION and every check holds. -/
theorem witness_ImageLoadEnds_good :
    headed.life = .loading ∧ headed.header = some header ∧ body.length = header.length - 7 ∧
    ∃ c : Setup, loadImage headed.station header body = { ownRole := some .motion, result := .ok c } :=
  ⟨rfl, rfl, by decide +kernel, isGood_spec test_load⟩

/-- The first conversion of the lift at the edges of the band, none of the lock, and a lift with two terms and one lamp, whose
terms have a value each. -/
theorem witness_ImageLoadEnds_first :
    let term : Term := { station := 2, selector := .stationFlags, operator := .atLeast 0, hold := true, safe := true, invert := false }
    let c := { motionSetup with own := { motionSetup.own with
      fns := motionSetup.own.fns.set 0 (some { lift with openTerms := [term, term] }), lamps := [{ on := [term], flash := [] }] } }
    let t := fun (a : Reading) => headed.goodLoad c { healthy.lines with ai := healthy.lines.ai.set 0 a }
    (headed.fns[(0 : FnId)]).fault ≠ .transducer ∧
    ([310, 311, 3785, 3786] : List Reading).map (fun a => (((t a).field.fns[(0 : FnId)]).position, ((t a).fns[(0 : FnId)]).fault)) =
      [(1023, .transducer), (0, .none), (1000, .none), (1023, .transducer)] ∧
    ((t 311).field.fns[(1 : FnId)]).position = 1023 ∧ ((t 311).guard.fns[(0 : FnId)]).opening.values = [false, false] ∧
    ((t 311).guard.fns[(0 : FnId)]).closing.values = [] ∧ ((t 311).guard.lamps[(0 : Fin 8)]).onValues = [false] := by decide +kernel

/-- A failing load: a stored fingerprint that does not match. -/
theorem witness_ImageLoadEnds_failed :
    loadImage 1 { header with fingerprint := 0 } body = { ownRole := none, result := .error .fingerprint } := by
  unfold loadImage
  rw [if_pos (by rw [body_crc]; decide)]

/-- The class that a load of these bytes under their own fingerprint ends with. -/
def loadClass (own : StationId) (b : List Byte) : Option LoadFault :=
  match (loadImage own { header with fingerprint := crc32 b } b).result with
  | .error e => some e
  | .ok _ => none

/-- The bytes after the header of an image with nine MOTION stations, all slots free, and a PUMP station at 9. -/
def manyMotion : List Byte :=
  body.take 13 ++ (List.replicate 9 ([0, 9, 1, 9, 0, 0, 0, 0, 0] : List Byte)).flatten ++ [0, 9, 2, 16, 9, 196, 0, 30, 0] ++
    (List.replicate 6 ([0, 3, 0] : List Byte)).flatten

/-- R6's counts and lengths at their bounds; then one image per class: a role of 6, a byte left over, a refresh of 19, a pump
station of 16, a span of 499, a pump station that is none, and nine subscriptions. -/
theorem witness_LoadChecksInOrder :
    ((walkFrom 1 0 0 []).result.toOption = some [] ∧
      [[0], [0, 2, 0], [0, 4, 0], [0, 3, 6], [0, 3, 5]].map (fun bs => match (walkFrom 1 1 0 bs).result with
        | .error e => e.code
        | .ok _ => 0) = [1, 1, 1, 3, 1]) ∧
    ((match rawFn (1 :: List.replicate 64 0) with
        | .error e => e.code
        | .ok _ => 0) = 1 ∧
      (match rawFn (2 :: (List.replicate 63 0 ++ [9, 8])) with
        | .error e => e.code
        | .ok _ => 0) = 3 ∧
      (match rawFn [3] with
        | .error e => e.code
        | .ok _ => 0) = 3 ∧
      [[9], [0, 0], [0]].map (fun bs => match rawLamps bs with
        | .error e => e.code
        | .ok _ => 0) = [3, 1, 0]) ∧
    ∀ b : List Byte, (b = body.set 18 6 → loadClass 1 b = some .range) ∧ (b = body ++ [0] → loadClass 1 b = some .format) ∧
      (b = body.set 0 19 → loadClass 1 b = some .range) ∧ (b = body.set 19 16 → loadClass 1 b = some .range) ∧
      (b = (body.set 28 3).set 29 141 → loadClass 1 b = some .calibration) ∧
      (b = (body.set 28 3).set 29 142 → loadClass 1 b = none) ∧ (b = body.set 19 3 → loadClass 1 b = some .terms) ∧
      (b = manyMotion → loadClass 9 b = some .subscription) := by
  refine ⟨by decide +kernel, by decide +kernel, fun b => ⟨?_, ?_, ?_, ?_, ?_, ?_, ?_, ?_⟩⟩ <;>
    (intro h; unfold loadClass loadImage; rw [if_neg (by simp)]; subst h; decide +kernel)

/-- The walk's step: two UNUSED sections, the own number at the second; a failure in the first or the second; a role above 5 in
the second. Then failures of records and lamps as their section's: a function kind of 3 in the second record, nine lamps after four
records, a short fixed part, a lamp that is missing, a byte after the last lamp, terms cut short. -/
theorem witness_LoadChecksInOrder_walk :
    let read := fun (index : Nat) (bs : List Byte) =>
      let w := walkFrom 1 2 index bs
      (match w.result with
        | .error e => e.code
        | .ok ss => 10 + ss.length, w.ownRole)
    let code := fun (role : Role) (bs : List Byte) => match rawBody role bs with
      | .error e => e.code
      | .ok _ => 0
    let term : List Byte := [1, 2, 3, 4, 5]
    [read 0 [0, 3, 0, 0, 4, 5, 0], read 1 [0, 4, 5, 0, 0, 3, 0], read 1 [0, 4, 0, 0, 0, 3, 0], read 0 [0, 3, 0, 0, 4, 0, 0],
      read 1 [0, 4, 5, 0, 0, 3, 6]] =
      [(12, some .monitor), (12, some .monitor), (1, some .unused), (1, some .unused), (3, some .monitor)] ∧
    [code .motion [2, 0, 3], code .motion [2, 0, 0, 0, 0, 9], code .motion [], code .panelStop [0, 0], code .pump [1, 1, 244, 0, 5, 1],
      code .monitor [1, 0, 0, 7], code .monitor ([1, 1, 1] ++ term), code .monitor ([1, 1, 1] ++ term ++ term), code .unused [0]] =
      [3, 3, 1, 1, 1, 1, 1, 0, 1] ∧
    (match rawFn (1 :: (List.replicate 63 0 ++ [1, 1] ++ term)) with
      | .error e => e.code
      | .ok _ => 0) = 1 := by decide +kernel

/-- Section 1.5's bytes: entries, terms at the bounds of their operands, profiles, timing blocks and lamp counts. -/
theorem witness_LoadChecksInOrder_layout :
    [0x8F, 0x80, 0x0F, 0x90, 0x10].map readEntry = [some (some 15), some (some 0), some none, none, none] ∧
    readTerm [0x31, 0x23, 1, 1, 0xFF] =
      some { station := 3, selector := .fnMotion 2, operator := .member 0x1FF, hold := true, safe := true, invert := true } ∧
    readTerm [0x31, 0x23, 1, 2, 0] = none ∧ readTerm [0x31, 0x43, 0, 0, 0] = none ∧ readTerm [0x31, 0x23, 2, 0, 0] = none ∧
    readTerm [0x27, 0x08, 0, 3, 0xFF] =
      some { station := 2, selector := .pumpCapacity, operator := .atLeast 1023, hold := false, safe := false, invert := false } ∧
    readTerm [0x27, 0x08, 0, 4, 0] = none ∧ readTerm [0x29, 0, 0, 0, 0] = none ∧
    profile.inRange = true ∧ { profile with creepLevel := 801 }.inRange = false ∧ { profile with seatTime := 501 }.inRange = false ∧
    timing.inRange = true ∧ { timing with stale := 99 }.inRange = false ∧ { timing with pwm := 1025 }.inRange = false ∧
    (match rawLamp [4, 5] with
      | .error e => e.code
      | .ok _ => 0) = 3 := by decide +kernel

/-- The sections of a MOTION station, a PUMP station and a panel at the bounds of their fields. -/
theorem witness_LoadChecksInOrder_sections :
    (((rawBody .motion ((body.drop 19).take 136)).toOption.bind readOwn).any (fun o =>
      o.pumpStation == 2 && o.fns[0] == some lift && o.fns[1].any (fun x => x.kind == .endOnly && x.openA == 3 && x.closedA == 4) &&
        o.fns[2].isNone && o.fns[3].isNone)) = true ∧
    [[32, 39, 16, 2, 88, 0], [1, 1, 244, 0, 5, 0], [33, 39, 16, 2, 88, 0], [1, 1, 243, 0, 5, 0], [1, 1, 244, 2, 89, 0]].map (fun bs =>
      ((rawBody .pump bs).toOption.bind readOwn).map (fun o => (o.unitsPerPump, o.runUpMs, o.idleStopS))) =
      [some (32, 10000, 600), some (1, 500, 5), none, none, none] ∧
    [[0x82, 0x83, 0, 0], [0x82, 0x93, 0, 0]].map (fun bs =>
      ((rawBody .panelStop bs).toOption.bind readOwn).map (fun o => (o.panel.stop, o.panel.reset, o.panel.underway))) =
      [some (some 2, some 3, none), none] :=
  ⟨by decide +kernel, by decide +kernel, by decide +kernel⟩

/-- A JOINING station whose join window runs; its stop loop is open and its supply low. -/
def joining : State :=
  let s := station .joining motionSetup
  { s with joinWindow := some 150, field := { s.field with stopLoopClosed := false, supplyOk := false } }

theorem witness_JoinWindowEntersActive :
    joining.life = .joining ∧ joining.joinWindow.isSome = true ∧ joining.pub.inhibit = false ∧ joining.role = .motion ∧
    joining.field.stopLoopClosed = false ∧ joining.field.supplyOk = false ∧ (joining.fns[(0 : FnId)]).motion = .rest ∧
    (after .joinWindowExpiry joining).loop.trip = .waiting .stopLoopOpen := by decide +kernel

/-- The TRIP queued at the entry by what is present: loop and supply, supply, the lower of two faulted functions, the TRIP last
queued, nothing (R14, R55, R56). -/
theorem witness_JoinWindowEntersActive_trip :
    let at_ := fun (loop supply : Bool) (a b : FaultCode) (asserted : Bool) =>
      { joining with
        field := { joining.field with stopLoopClosed := loop, supplyOk := supply }
        fns := (joining.fns.set 0 { joining.fns[(0 : FnId)] with fault := a }).set 1 { joining.fns[(1 : FnId)] with fault := b }
        unit := { joining.unit with tripAsserted := asserted, lastTrip := if asserted then some (.functionFault 3) else none } }
    [at_ false false .stall .none true, at_ true false .none .none false, at_ true true .stall .skew false,
     at_ true true .transducer .wrongDirection false, at_ true true .stopped .none true, at_ true true .none .strokeTimeout false].map
        (fun s => (slots.any (fun f => (s.fns[f]).motion.claims), (after .joinWindowExpiry s).loop.trip)) =
      [(false, .waiting .stopLoopOpen), (false, .waiting .fieldSupplyLow), (false, .waiting (.functionFault 0)),
       (false, .waiting (.functionFault 1)), (false, .waiting (.functionFault 3)), (false, .empty)] := by decide +kernel

/-- A WITHDRAWN station. -/
def withdrawn : State := { station .withdrawn motionSetup with goodFrames := 15 }

theorem witness_IdleTimeoutRejoins : withdrawn.life = .withdrawn ∧ withdrawn.loop.line = some .idle := by decide +kernel

/-! ## Witnesses: the line -/

/-- A station whose line is BUSY with nothing followed, under an idle rule. -/
def busy (r : IdleRule) (s : State) : State := { s with loop := { s.loop with line := some .busy, idleRule := r } }

/-- A station whose wait after an own send runs. -/
def held (s : State) : State := { s with loop := { s.loop with wait := true } }

theorem witness_LineStateFollowsDurations :
    (active motionSetup).follows = true ∧ (active motionSetup).loop.line = some .idle ∧
    (after .lineBusy (held (active motionSetup))).loop.wait = true ∧
    (busy .endGap (active motionSetup)).loop.send = none ∧ (busy .endGap (active motionSetup)).loop.follow = .nothing ∧
    [(IdleRule.join, 24), (.noFrame, 10), (.endGap, 8), (.afterStuck, 8)].all (fun x =>
      (after (.lineIdle (x.2 * 80)) (busy x.1 (active motionSetup))).loop.line == some .idle &&
      (after (.lineIdle (x.2 * 80 - 1)) (busy x.1 (active motionSetup))).loop.line == some .busy) = true ∧
    41 * (active motionSetup).bt ≤ 3280 ∧ (active motionSetup).loop.send = none ∧
    (sending .status true [] (active motionSetup)).loop.send.isSome = true ∧
    (after (.lineStuck 3280) (held (active motionSetup))).loop.wait = true ∧
    (after (.lineStuck 3279) (active motionSetup)).loop.line = some .idle ∧
    (after (.stuckEnd 80) (active motionSetup).stick).loop.line = some .busy ∧
    (after (.stuckEnd 79) (active motionSetup).stick).loop.line = some .stuck ∧
    (after (.sendWaitEnd 960) (held (active motionSetup))).loop.wait = false ∧
    (after (.sendWaitEnd 959) (held (active motionSetup))).loop.wait = true := by decide +kernel

/-- Drops before and after an accepted start mark under a wait, frames that are counted or heard and no more, and one frame of each
kind that is not well-formed; a pump's record of a MOTION section. -/
theorem witness_FramesWithoutEffectEnd :
    (receive .k100 [⟨true, 720⟩] = .dropped .shortMark ∧ receive .k100 [⟨true, 800⟩] = .dropped .syncError ∧
      (active motionSetup).follows = true ∧ (active motionSetup).bitRate = .k100 ∧ (active motionSetup).loop.send = none ∧
      (after (.frameDropped [⟨true, 720⟩]) (held (active motionSetup))).loop.wait = true ∧
      (after (.frameDropped [⟨true, 800⟩]) (held (active motionSetup))).loop.wait = false) ∧
    (withdrawn.hears (wave 4 2 []) = some { kind := 4, station := 2, edition := 1, data := [] } ∧
      withdrawn.hears (wave 15 2 [1]) = some { kind := 15, station := 2, edition := 1, data := [1] } ∧
      (withdrawn.hears (wave 3 1 [])).map Frame.station = some withdrawn.station ∧
      (after (.undeliveredGoodFrame (wave 4 2 [])) withdrawn).life = .joining ∧
      (after (.undeliveredGoodFrame (wave 4 2 [])) { withdrawn with goodFrames := 14 }).goodFrames = 15 ∧
      (after (.undeliveredGoodFrame (wave 4 2 [1])) (active motionSetup)).loop.heardSlot = some { start := 5920, length := 80 }) ∧
    (active motionSetup).hears (wave 0 3 [0, 6]) = some { kind := 0, station := 3, edition := 1, data := [0, 6] } ∧
    decodeTrip [0, 6] = none ∧
    (active motionSetup).hears (wave 1 3 [6, 0]) = some { kind := 1, station := 3, edition := 1, data := [6, 0] } ∧
    decodeIntent [6, 0] = none ∧
    (active motionSetup).hears (wave 2 3 [0x30, 0, 0]) = some { kind := 2, station := 3, edition := 1, data := [0x30, 0, 0] } ∧
    decodeStatus [0x30, 0, 0] = none ∧
    (decodeStatus (encodeStatus sound (granting []))).isSome = true ∧
    (granting []).fits ((active motionSetup).cfg.briefs[(3 : StationId)]).role = false ∧
    (active motionSetup).hears (wave 3 3 [6]) = some { kind := 3, station := 3, edition := 1, data := [6] } ∧
    decodeAnnounce [6] = none := by decide +kernel

/-- A good frame in CONFIG_FAULT ends on the line by either command (assumption 49). -/
theorem witness_FramesWithoutEffectEnd_fault :
    let s := { State.reset with life := .configFault, station := 1, loop := { Loop.atReset with line := some .busy, follow := .frame } }
    s.hears (wave 2 3 [0x30, 0, 0]) = some { kind := 2, station := 3, edition := 1, data := [0x30, 0, 0] } ∧
    [Instr.statusArrival (wave 2 3 [0x30, 0, 0]), .undeliveredGoodFrame (wave 2 3 [0x30, 0, 0])].map (fun c =>
      ((after c s).loop.idleRule, (after c s).loop.follow, (after c s).loop.heardSlot)) =
      [(.join, .nothing, none), (.join, .nothing, none)] := by decide +kernel

/-! ## Witnesses: arrivals -/

/-- A station's entry for the pump in a state. -/
def withPump (e : Entry) (s : State) : State := { s with image := s.image.set 2 e }

/-- The pump's STATUS. -/
def pumpStatus : List Byte := encodeStatus sound (granting [(1, 0)])

theorem witness_StatusArrivalUpdatesEntry :
    (active motionSetup).life = .active ∧
    (active motionSetup).hears (wave 2 2 pumpStatus) = some { kind := 2, station := 2, edition := 1, data := pumpStatus } ∧
    (2 : StationId) ≠ (active motionSetup).station ∧ decodeStatus pumpStatus = some (sound, granting [(1, 0)]) ∧
    (granting [(1, 0)]).fits ((active motionSetup).cfg.briefs[(2 : StationId)]).role = true ∧
    ((active motionSetup).image[(2 : StationId)]).state = .absent ∧
    [EntryState.absent, .unverified, .known, .stale, .fresh, .foreign].map (fun e =>
      ((after (.statusArrival (wave 2 2 pumpStatus)) (withPump (peer e .pump) (active motionSetup))).image[(2 : StationId)]).state)
      = [.unverified, .unverified, .fresh, .fresh, .fresh, .foreign] := by decide +kernel

/-- A repeat of what the pump's FRESH entry holds, at a station whose guard results are current (R63). -/
theorem witness_StatusArrivalUpdatesEntry_repeat :
    let s := (withGrants [(1, 0)] (active motionSetup)).evaluate
    let e := s.image[(2 : StationId)]
    e.state = .fresh ∧ e.byte = some sound ∧ e.record = some (granting [(1, 0)]) ∧ s.unit.resetWindow = none ∧
    s.cfg.subscription.contains 2 = true ∧ s.guard = s.guardNow ∧ slots.all (fun f => (s.evaluate.react f).isNone) = true ∧
    (let t := after (.statusArrival (wave 2 2 pumpStatus)) s
     t.image[(2 : StationId)] = e ∧ t.loop.status = s.loop.status ∧ t.fns = s.fns) := by decide +kernel

/-- The trip of a sender whose STATUS shows TRIP_ASSERTED clear leaves while the reset window runs (R154). -/
theorem test_trip_removed :
    let s := withPump (peer .known .pump) (active motionSetup)
    let u := { s.unit with trips := s.unit.trips.set 2 (some .cStop), resetWindow := some 300 }
    (after (.statusArrival (wave 2 2 pumpStatus)) { s with unit := u }).unit.trips[(2 : StationId)] = none := by
  decide +kernel

/-- The content of an ANNOUNCE of the pump. -/
def announced : AnnounceFrame :=
  { role := .pump, fingerprint := 0x25FA9F0C, cause := .pin, ask := true, configFault := false, cls := .none }

theorem witness_AnnounceArrivalJudgesSender :
    (active motionSetup).hears (wave 3 2 announced.encode) =
      some { kind := 3, station := 2, edition := 1, data := announced.encode } ∧
    decodeAnnounce announced.encode = some announced ∧
    decodeAnnounce { announced with role := .motion }.encode = some { announced with role := .motion } ∧
    (let t := after (.announceArrival (wave 3 2 announced.encode)) (active motionSetup)
     (t.image[(2 : StationId)]).state = .known ∧ t.loop.announce = .waiting false) ∧
    (after (.announceArrival (wave 3 2 { announced with configFault := true }.encode)) (active motionSetup)).loop.announce = .empty ∧
    [{ announced with role := .motion }, { announced with fingerprint := 0 }, { announced with configFault := true }].all
      (fun a => ((after (.announceArrival (wave 3 2 a.encode)) (active motionSetup)).image[(2 : StationId)]).state == .foreign)
      = true := by decide +kernel

/-- A station with both panels FRESH. -/
def withPanels (s : State) : State :=
  { s with image := (s.image.set 0 (fresh .panelCommand none)).set 4 (fresh .panelStop none) }

/-- The wave of an INTENT. -/
def intentWave (n : Nat) (k : IntentKind) (u : Bool) : Wave := wave 1 n (IntentFrame.encode { kind := k, underway := u })

theorem witness_IntentArrivalEntersTable :
    let s := withPanels (active motionSetup)
    s.hears (intentWave 0 .toOpen true) = some { kind := 1, station := 0, edition := 1, data := [0x81, 0] } ∧
    decodeIntent [0x81, 0] = some { kind := .toOpen, underway := true } ∧
    (s.image[(0 : StationId)]).role = some .panelCommand ∧ (s.image[(4 : StationId)]).role = some .panelStop ∧
    ((after (.intentArrival (intentWave 0 .toOpen true)) s).unit.table[(0 : StationId)]).map IntentEntry.kind = some .stop ∧
    (after (.intentArrival (intentWave 4 .toOpen false)) s).unit.table[(4 : StationId)] = none ∧
    (let a := active motionSetup
     (a.hears (intentWave 0 .toOpen true)).isSome = true ∧ (a.image[(0 : StationId)]).state = .absent ∧
     (a.image[(0 : StationId)]).role = none ∧
     (after (.intentArrival (intentWave 0 .toOpen true)) a).unit.table[(0 : StationId)] = none) ∧
    ((after (.intentArrival (intentWave 4 .stop false)) s).unit.table[(4 : StationId)]).map IntentEntry.kind = some .stop ∧
    (let t := after (.intentArrival (intentWave 4 .reset false)) { s with unit := { s.unit with restartHold := true } }
     t.unit.restartHold = false ∧ t.unit.resetWindow = some 300) := by decide +kernel

/-- OPEN moves the released lift out of REST (R110). -/
theorem test_open_leaves_rest :
    ((after (.intentArrival (intentWave 0 .toOpen false)) (withPanels (active motionSetup))).fns[(0 : FnId)]).motion = .awaitFlow := by
  decide +kernel

/-- The wave of a TRIP of station 3. -/
def tripWave (r : TripReason) : Wave := wave 0 3 r.encode

theorem witness_TripArrivalStops :
    let s := opening .travel 785
    s.life = .active ∧ s.hears (tripWave .stopLoopOpen) = some { kind := 0, station := 3, edition := 1, data := [0, 7] } ∧
    decodeTrip [0, 7] = some .stopLoopOpen ∧ decodeTrip [0x82, 7] = some .fieldSupplyLow ∧
    s.unit.trips[(3 : StationId)] = none ∧ s.solenoidEnergised 0 .toOpen = true ∧ (s.fns[(0 : FnId)]).motion.moving = true ∧
    (s.fns[(0 : FnId)]).fault.latched = false ∧
    ((after (.tripArrival (tripWave .stopLoopOpen)) s).fns[(0 : FnId)]).motion = .rest ∧
    [(Motion.awaitFlow, 0), (.pressurise, 0), (.travel, 785), (.creep, 0), (.seat, 200), (.stopping, 785)].map (fun x =>
      let f := (after (.tripArrival (tripWave .fieldSupplyLow)) (opening x.1 x.2)).fns[(0 : FnId)]
      (f.motion, f.fault)) =
      [(.rest, .none), (.rest, .stopped), (.stopping, .stopped), (.rest, .stopped), (.seat, .none), (.stopping, .none)] := by
  decide +kernel

/-- A WITHDRAWN station at its fifteenth and sixteenth good frame, of each kind. -/
theorem witness_WithdrawnAbsorbsAndCounts :
    let s := withPanels (withPump (peer .known .pump) withdrawn)
    s.life = .withdrawn ∧ s.hears (wave 2 2 pumpStatus) = some { kind := 2, station := 2, edition := 1, data := pumpStatus } ∧
    s.hears (wave 3 2 announced.encode) = some { kind := 3, station := 2, edition := 1, data := announced.encode } ∧
    s.hears (intentWave 0 .toOpen false) = some { kind := 1, station := 0, edition := 1, data := [1, 0] } ∧
    s.hears (tripWave .stopLoopOpen) = some { kind := 0, station := 3, edition := 1, data := [0, 7] } ∧
    (2 : StationId) ≠ s.station ∧ Role.panelCommand.allows .toOpen = true ∧
    (let t := after (.statusArrival (wave 2 2 pumpStatus)) { s with goodFrames := 14 }
     t.goodFrames = 15 ∧ (t.image[(2 : StationId)]).state = .fresh ∧ t.loop.announce = .empty) ∧
    (let t := after (.intentArrival (intentWave 0 .toOpen false)) s
     t.life = .joining ∧ t.unit.effective = some .toOpen ∧ t.loop.announce = .waiting true) ∧
    (after (.tripArrival (tripWave .stopLoopOpen)) s).unit.trips[(3 : StationId)] = some .eStop := by decide +kernel

/-! ## Witnesses: own sends -/

/-- Everything waits. -/
def waiting (s : State) : State :=
  { s with loop := { s.loop with
      trip := .waiting .stopLoopOpen, intent := .waiting { kind := .stop, underway := false }, status := .waiting ()
      announce := .waiting false } }

theorem witness_StartTakesLowestKind :
    let s := waiting (active motionSetup)
    let edge := fun (w : Bool) => { s with loop := { s.loop with line := some .busy, follow := .run w } }
    s.maySend = true ∧ s.loop.send = none ∧ s.loop.trip.isWaiting = true ∧ s.loop.trip.isInFlight = false ∧
    s.loop.intent.isInFlight = false ∧ s.loop.status.isInFlight = false ∧ s.loop.announce.isInFlight = false ∧
    s.loop.line = some .idle ∧ s.loop.wait = false ∧ (busy .noFrame s).loop.follow = .nothing ∧ 79 < s.bt ∧
    ((after .sendStart s).loop.send.map Send.markTicks) = some 960 ∧
    ((after (.lateStart 79 79) (busy .noFrame s)).loop.send.map Send.markTicks) = some 881 ∧
    ((after (.lateStart 0 0) (edge false)).loop.send.map Send.markTicks) = some 960 ∧
    ((after (.lateStart 1 1) (edge true)).loop.send.map Send.markTicks) = some 959 ∧
    (after (.lateStart 80 1) (busy .noFrame s)).loop.send = none ∧ (after (.lateStart 79 0) (busy .noFrame s)).loop.send = none ∧
    (after (.lateStart 79 79) (held (busy .noFrame s))).loop.send = none ∧ (after (.lateStart 79 0) (edge true)).loop.send = none ∧
    (let a := { s with loop := { s.loop with trip := .empty, intent := .empty, status := .empty } }
     (after .sendStart a).loop.kind = some .announce) := by decide +kernel

theorem witness_IdCellFixesContent :
    [FrameKind.trip, .intent, .status, .announce].all (fun k =>
      (after .idCellStart (sending k false [0x80, 7] (active motionSetup))).loop.send.any (fun m => m.idBegun)) = true ∧
    (let s := sending .status false [] (active motionSetup)
     let m := (after .idCellStart s).loop.send
     m.map Send.edition = some 1 ∧
     (after .idCellStart { s with pub := { s.pub with lastSent := m.map Send.data } }).loop.send.map Send.edition = some 0)
      := by decide +kernel

/-- The contents of section 3.5 of a MOTION station in TRAVEL and in REST, of a PUMP station with a grant, of a panel under way with
a selection, and of the ANNOUNCE of a good and of a failed load. -/
theorem witness_IdCellFixesContent_data :
    (opening .travel 785).statusData = [0xB0, 0x49, 0x0F, 0x31, 0xF4, 0x18, 0x0F, 1, 0xF4, 0x0C, 0x0F, 3, 0xFF, 0x0C, 0x0F, 3, 0xFF] ∧
    (active motionSetup).statusData.drop 1 = [0x18, 0x0F, 1, 0xF4, 0x18, 0x0F, 1, 0xF4, 0x0C, 0x0F, 3, 0xFF, 0x0C, 0x0F, 3, 0xFF] ∧
    (let s := station .active pumpSetup
     { s with flow := { s.flow with a := ⟨.running, none⟩, b := ⟨.tripped, none⟩, capacity := 16, grants := [(15, 3)] }
              unit := { s.unit with restartHold := true, tripAsserted := true } }.statusData =
       [0xF4, 0x0B, 16, 1, 0xBF, 0, 0, 0, 0, 0, 0, 0]) ∧
    (let s := active { panelSetup with own := { panelSetup.own with panel := { panelSetup.own.panel with underway := some 5 } } }
     { s with field := { s.field with di := s.field.di.set 5 ⟨some true, none⟩ }, panel := { s.panel with selection := some (3, 1) }
              resetCause := .supplyDip, loop := { s.loop with lone := true } }.statusData = [0xBA, 0x80, 0x0D]) ∧
    ((active motionSetup).announceFrame true).encode = [1, 0x25, 0xFA, 0x9F, 0x0C, 0, 0x80] ∧
    ({ State.reset with life := .configFault, resetCause := .pin
                        report := { cls := .terms, role := .monitor, fingerprint := 0x01020304 } }.announceFrame true).encode =
      [5, 1, 2, 3, 4, 1, 0x45] := by decide +kernel

/-- A STATUS in flight after a number of aborts. -/
def aborting (n : Nat) (begun : Bool) (s : State) : State :=
  let t := sending .status begun [] s
  { t with loop := { t.loop with aborts := n } }

theorem witness_LossAndAbortReturnFrame :
    (let s := sending .announce true [] (active motionSetup)
     s.loop.send.map Send.idBegun = some true ∧ (byte (FrameKind.announce.code * 16 + s.station.val)).getLsbD (7 - 2) = true ∧
     (after (.arbitrationLoss 2) s).loop.announce = .waiting true ∧
     (after (.arbitrationLoss 0) s).loop.send.isSome = true) ∧
    (aborting 6 true (active motionSetup)).loop.send.isSome = true ∧
    (aborting 6 true (active motionSetup)).loop.aborts < 7 ∧
    (after (.sendAbort .bitError) (aborting 6 true (active motionSetup))).loop.aborts = 7 ∧
    (after (.sendAbort (.selfDrop .framing)) (aborting 0 false (active motionSetup))).loop.aborts = 1 ∧
    (after (.sendAbort .stuck) (aborting 0 false (active motionSetup))).loop.line = some .stuck := by decide +kernel

/-- In CONFIG_FAULT the eighth abort and a ninth return the ANNOUNCE and leave the count at 8 (R12, R35). -/
theorem witness_LossAndAbortReturnFrame_configFault :
    let s := sending .announce true [] { State.reset with life := .configFault }
    let abort := fun (n : Nat) => after (.sendAbort .bitError) { s with loop := { s.loop with aborts := n } }
    [7, 8].map (fun n => ((abort n).life, (abort n).loop.aborts, (abort n).loop.announce.isWaiting, (abort n).loop.send.isSome)) =
      [(.configFault, 8, true, false), (.configFault, 8, true, false)] := by decide +kernel

theorem witness_EighthAbortWithdraws :
    let s := aborting 7 true (opening .travel 785)
    s.loop.send.isSome = true ∧ s.loop.aborts = 7 ∧ s.life = .active ∧
    (after (.sendAbort .bitError) s).life = .withdrawn ∧
    ((after (.sendAbort .bitError) s).fns[(0 : FnId)]).fault = .stopped ∧
    (after (.sendAbort .bitError) (aborting 7 true (station .joining motionSetup))).life = .withdrawn ∧
    (after (.sendAbort (.selfDrop .syncError)) (aborting 7 false (opening .travel 785))).life = .withdrawn ∧
    (let t := after (.sendAbort .stuck) (aborting 7 false (opening .travel 785))
     t.life = .withdrawn ∧ t.loop.line = some .stuck) := by decide +kernel

/-- The panel's own INTENT in flight. -/
def asking (k : IntentKind) : State :=
  sending .intent true (IntentFrame.encode { kind := k, underway := false }) (active panelSetup)

theorem witness_CompletionEndsSend :
    [FrameKind.trip, .status, .announce].all (fun k =>
      (sending k true [] (active motionSetup)).maySend &&
      (after (.sendComplete false) (sending k true [] (active motionSetup))).loop.send.isNone) = true ∧
    (let s := sending .announce true [] { station .joining motionSetup with joinWindow := none }
     (after (.sendComplete true) s).joinWindow = some 150) ∧
    (let s := sending .announce true [] { State.reset with life := .configFault }
     s.maySend = true ∧ (after (.sendComplete true) s).announceTimer = some 1000) ∧
    (asking .toOpen).role = .panelCommand ∧ (asking .toOpen).life = .active ∧
    ((after (.sendComplete true) (asking .toOpen)).unit.table[(1 : StationId)]).map IntentEntry.kind = some .toOpen ∧
    (after (.sendComplete true) (asking .release)).unit.table[(1 : StationId)] = none ∧
    (after (.sendComplete true) (asking .reset)).unit.resetWindow = some 300 := by decide +kernel

/-- A panel's own INTENT in flight, with the UNDERWAY flag it was queued with. -/
def sendingIntent (c : Setup) (k : IntentKind) (underway : Bool) : State :=
  sending .intent true (IntentFrame.encode { kind := k, underway := underway }) (active c)

/-- The own entry after OPEN and SINGLE with UNDERWAY and CLOSE with it; and at a PANEL_STOP station after STOP, OPEN, RELEASE and
in JOINING (R146, R147). -/
theorem witness_CompletionEndsSend_own :
    let stop := { panelSetup with own := { panelSetup.own with role := .panelStop } }
    let kind := fun (s : State) => ((after (.sendComplete true) s).unit.table[(1 : StationId)]).map IntentEntry.kind
    let held := fun (s : State) => { s with unit := { s.unit with
      table := s.unit.table.set 1 (some { kind := .stop, lease := some 300 }) } }
    [sendingIntent panelSetup .toOpen true, sendingIntent panelSetup (.single 3 0 .toOpen) true, sendingIntent panelSetup .toClose true,
      sendingIntent stop .stop false, sendingIntent stop .toOpen false, held (sendingIntent stop .release false),
      { sendingIntent panelSetup .toOpen false with life := .joining }].map kind =
      [some .stop, some .stop, some .toClose, some .stop, none, none, none] ∧
    (sendingIntent stop .stop false).role = .panelStop ∧
    (sendingIntent stop .stop false).loop.send.map Send.data = some [3, 0] ∧
    decodeIntent [3, 0] = some { kind := .stop, underway := false } := by decide +kernel

/-- Section 2.8: the fourth unheard send sets LONE, the next heard one clears it (R36). -/
theorem test_lone :
    let s := sending .status true [] (active motionSetup)
    (after (.sendComplete false) { s with loop := { s.loop with unheard := 3 } }).loop.lone = true ∧
    (after (.sendComplete true) { s with loop := { s.loop with unheard := 4, lone := true } }).loop.lone = false := by
  decide +kernel

/-! ## Witnesses: the timers of chapters 3 to 5, and of the outputs -/

/-- An ACTIVE station with its publication timers running, the inhibit in force with a cause deferred, and TRIP_ASSERTED. -/
def published : State :=
  let s := active motionSetup
  { s with
    pub := { s.pub with refresh := some 50, inhibitTimer := some 4, deferred := true, inhibit := true }
    unit := { s.unit with tripRepeat := some 50, tripAsserted := true, lastTrip := some .fieldSupplyLow } }

theorem witness_PublicationTimersExpire :
    (let s := { State.reset with life := .configFault, announceTimer := some 1000 }
     s.life = .configFault ∧ s.announceTimer.isSome = true ∧ (after .configFaultAnnounceTimer s).loop.announce = .waiting false) ∧
    published.pub.inhibitTimer.isSome = true ∧ published.pub.refresh.isSome = true ∧ published.isActive = true ∧
    published.role = .motion ∧ published.unit.tripRepeat.isSome = true ∧
    published.tripCause.or published.unit.lastTrip = some .fieldSupplyLow ∧
    (after .changeInhibitExpiry published).loop.status = .waiting () ∧
    (after .tripRepeatExpiry published).loop.trip = .waiting .fieldSupplyLow := by decide +kernel

theorem witness_AgeExpiryStales :
    let s := withGrants [(1, 0)] (active motionSetup)
    s.running = true ∧ (s.image[(2 : StationId)]).age.isSome = true ∧ (s.image[(2 : StationId)]).state = .fresh ∧
    (let u := withPump { Entry.atReset with state := .unverified, age := some 150 } s
     (u.image[(2 : StationId)]).state = .unverified ∧ ((after (.ageExpiry 2) u).image[(2 : StationId)]).state = .absent) := by
  decide +kernel

/-- Section 11.5: the grant's station goes STALE under a function in TRAVEL. -/
theorem test_stale_pump_stops :
    ((after (.ageExpiry 2) (opening .travel 785)).fns[(0 : FnId)]).fault = .grantLost := by decide +kernel

theorem witness_OutputTimersExpire :
    let s := opening .travel 785
    let p := { s with drive := s.drive.set 0 { s.drive[(0 : FnId)] with phase := .pullIn, pullIn := some 50, sol := .off } }
    (p.drive[(0 : FnId)]).pullIn.isSome = true ∧ ((after (.pullInExpiry 0) p).drive[(0 : FnId)]).sol = .running 400 600 true 400 ∧
    (s.drive[(0 : FnId)]).prop = .running 785 215 true 785 ∧ (s.drive[(0 : FnId)]).sol = .running 400 600 true 400 ∧
    ((after (.pulseTimeExpiry (.proportional 0)) s).drive[(0 : FnId)]).prop = .running 785 215 false 785 ∧
    ((after (.pulseTimeExpiry (.solenoid 0)) (after (.pulseTimeExpiry (.solenoid 0)) s)).drive[(0 : FnId)]).sol =
      .running 400 600 true 400 := by decide +kernel

/-! ## Witnesses: field inputs -/

/-- An input of each kind, and section 6.8: the low timer starts at 18.2 V and stops at 19.3 V; LOW at its expiry; OK after the
recovery. -/
theorem witness_LineLevelsRunTimers :
    let s := active motionSetup
    let a := after .supplyFallsBelow19V s
    let l := after .lowTimerExpiry a
    let b := after .supplyRisesTo20V l
    (s.running = true ∧ s.field.lines.di[(15 : InputId)] ≠ true ∧ s.used 0 = true ∧ s.used 15 = false ∧
      ((after (.inputLevelChange 0 true) s).field.di[(0 : InputId)]).debounce = some 10) ∧
    s.field.supplyOk = true ∧ s.field.lines.supply ≠ .below19 ∧ a.field.lowTimer = some 20 ∧
    a.field.supplyOk = true ∧ a.field.lines.supply = .below19 ∧ (after .supplyBackAt19V a).field.lowTimer = none ∧
    l.field.supplyOk = false ∧ l.field.lines.supply ≠ .from20 ∧ b.field.recovery = some 100 ∧ b.field.supplyOk = false ∧
    b.field.lines.supply = .from20 ∧ (after .supplyFallsBelow20V b).field.recovery = none := by decide +kernel

/-- R92's table: a pump's inputs, whatever else names them, a panel's STOP and OPEN, an end sensor and a term's input, and an
input with no use. -/
theorem witness_LineLevelsRunTimers_bias :
    let term : Term := { station := 1, selector := .localInput 1, operator := .atLeast 1, hold := true, safe := true, invert := false }
    let lamps : List LampSetup := [{ on := [term], flash := [{ term with selector := .localInput 7 }] }]
    let p := active { pumpSetup with own := { pumpSetup.own with lamps := lamps } }
    ([0, 1, 2, 3, 7, 8] : List InputId).map p.bias = [.pullDown, .pullUp, .pullDown, .pullUp, .pullDown, .none] ∧
    ([0, 2, 4, 5] : List InputId).map (active panelSetup).bias = [.pullDown, .pullUp, .pullDown, .none] ∧
    ([0, 2, 5] : List InputId).map (active motionSetup).bias = [.pullDown, .pullDown, .none] ∧
    (active panelSetup).inputLevel 2 = true ∧ (active panelSetup).inputLevel 0 = false ∧ State.reset.running = false ∧
    State.reset.bias 0 = .none := by decide +kernel

/-- DI0 (OPEN A) has been high for its debounce time. -/
def pressed : State :=
  let s := after (.inputLevelChange 0 true) (active motionSetup)
  s

/-- The station with the lift at its OPEN end and that end's pair in a state. -/
def atOpen (p : EndPair) : State :=
  let s := active motionSetup
  { s with field := { s.field with
      lines := { s.field.lines with di := (s.field.lines.di.set 0 true).set 2 true }
      di := (s.field.di.set 0 ⟨some true, none⟩).set 2 ⟨some true, none⟩
      fns := s.field.fns.set 0 { s.field.fns[(0 : FnId)] with openEnd := p, endState := .atOpen } } }.evaluate

/-- An input's line takes a level for its debounce time. -/
def settled (i : InputId) (high : Bool) (s : State) : State := after (.debounceExpiry i) (after (.inputLevelChange i high) s)

/-- The four rows of R96 and END_LOST (R99): the OPEN pair from equal to differing and back, its CLOSED end of one sensor as it
was, a pair that does not change, and the lost end that returns. -/
theorem witness_DebounceAcceptsLevel :
    (pressed.running = true ∧ pressed.used 0 = true ∧ (pressed.field.di[(0 : InputId)]).debounce.isSome = true ∧
      pressed.fnSetup 0 = some lift ∧ lift.sensorB .toOpen = some 2 ∧ lift.sensorA .toOpen = 0 ∧ lift.sensorB .toClose = none ∧
      ((pressed.field.fns[(0 : FnId)]).endPair .toOpen).state = .agreed) ∧
    (let t := after (.debounceExpiry 0) pressed
     t.accepted 0 ≠ t.accepted 2 ∧ (t.field.fns[(0 : FnId)]).openEnd = { state := .pending, discrepancy := some 300 } ∧
     t.fns[(0 : FnId)] = pressed.fns[(0 : FnId)] ∧
     [(settled 2 true t), (settled 0 false t)].map (fun u => (u.field.fns[(0 : FnId)]).openEnd) =
       [⟨.agreed, none⟩, ⟨.agreed, none⟩]) ∧
    [atOpen ⟨.disagreed, none⟩, atOpen ⟨.pending, some 300⟩].map (fun x => ((settled 0 false x).field.fns[(0 : FnId)]).openEnd) =
      [⟨.disagreed, none⟩, ⟨.pending, some 300⟩] ∧
    (let t := settled 0 false (atOpen ⟨.agreed, none⟩)
     let u := settled 0 true t
     (t.field.fns[(0 : FnId)]).endState = .between ∧ (t.fns[(0 : FnId)]).motion = .rest ∧
     (t.fns[(0 : FnId)]).lostEnd = some .toOpen ∧ (t.fns[(0 : FnId)]).fault = .endLost ∧
     (u.field.fns[(0 : FnId)]).endState = .atOpen ∧ (u.fns[(0 : FnId)]).lostEnd = none ∧ (u.fns[(0 : FnId)]).fault = .none ∧
     slots.all (fun f => (t.evaluate.react f).isNone) = true) := by decide +kernel

/-- The lift's OPEN end in PENDING. -/
def differing (s : State) : State :=
  { s with field := { s.field with
      fns := s.field.fns.set 0 { s.field.fns[(0 : FnId)] with openEnd := { state := .pending, discrepancy := some 300 } } } }

theorem witness_DiscrepancyDisagrees :
    let s := differing (active motionSetup)
    s.running = true ∧ (s.fnSetup 0).isSome = true ∧ ((s.field.fns[(0 : FnId)]).endPair .toOpen).state = .pending ∧
    ((s.field.fns[(0 : FnId)]).endPair .toOpen).discrepancy.isSome = true ∧ (s.fns[(0 : FnId)]).motion = .rest ∧
    s.life = .active ∧ ((after (.discrepancyExpiry 0 .toOpen) s).fns[(0 : FnId)]).motion = .heldFault := by decide +kernel

/-- SENSOR_DISAGREE in each motion state, and beside TRANSDUCER; in JOINING it leaves the function in REST (R125). -/
theorem witness_DiscrepancyDisagrees_moving :
    [(Motion.awaitFlow, 0), (.pressurise, 0), (.travel, 785), (.creep, 0), (.seat, 200), (.stopping, 785)].map (fun x =>
      let s := differing (opening x.1 x.2)
      let t := after (.discrepancyExpiry 0 .toOpen) s
      ((t.fns[(0 : FnId)]).motion, (t.fns[(0 : FnId)]).fault, (t.fns[(0 : FnId)], t.drive[(0 : FnId)]) == s.faulted 0 .sensorDisagree)) =
      [(.heldFault, .sensorDisagree, true), (.heldFault, .sensorDisagree, true), (.stopping, .sensorDisagree, true),
       (.heldFault, .sensorDisagree, true), (.seat, .sensorDisagree, true), (.stopping, .sensorDisagree, true)] ∧
    (let t := after (.discrepancyExpiry 0 .toOpen) (differing (station .joining motionSetup))
     (t.fns[(0 : FnId)]).motion = .rest ∧ (t.fns[(0 : FnId)]).fault = .sensorDisagree) ∧
    (let s := differing (opening .stopping 785)
     let h := { s with fns := s.fns.set 0 { s.fns[(0 : FnId)] with fault := .transducer } }
     ((after (.discrepancyExpiry 0 .toOpen) h).fns[(0 : FnId)]).fault = .transducer) := by decide +kernel

/-- An ACTIVE PUMP station with machine A RUNNING and B STARTING, its idle timer running. -/
def pumping : State :=
  let s := station .active pumpSetup
  { s with
    fns := Vector.replicate 4 Fn.atReset
    flow := { s.flow with a := ⟨.running, none⟩, b := ⟨.starting, some 2500⟩, capacity := 16, idle := some 30 } }.evaluate

theorem witness_StopLoopStopsAndCloses :
    (let s := opening .travel 785
     s.running = true ∧ s.field.stopLoopClosed = true ∧ s.life = .active ∧ (s.fns[(0 : FnId)]).motion.moving = true ∧
     (s.fns[(0 : FnId)]).fault.latched = false ∧ s.role = .motion ∧
     (after .stopLoopOpening s).loop.trip = .waiting .stopLoopOpen) ∧
    FlowLaws pumping ∧
    (pumping.role = .pump ∧ pumping.gateOpen = true ∧ pumping.running = true ∧ pumping.field.stopLoopClosed = true ∧
      pumping.life = .active ∧ (after .stopLoopOpening pumping).flow.capacity = 0) ∧
    (let s := after .stopLoopOpening (active motionSetup)
     let c := after .stopLoopReadsClosed s
     s.running = true ∧ s.field.stopLoopClosed = false ∧ s.field.lines.stopLoopClosed = false ∧
     c.field.closing.isSome = true ∧ (after .stopLoopOpening c).field.closing = none ∧
     (after .stopLoopClosingExpiry c).field.stopLoopClosed = true ∧ (after .stopLoopClosingExpiry c).unit.tripAsserted = true) := by
  refine ⟨by decide +kernel, ?_, by decide +kernel, by decide +kernel⟩
  constructor
  · constructor <;> decide +kernel
  all_goals decide +kernel

/-- The gate of a PUMP station closed by an E_STOP and by a supply gone LOW: both machines OFF, a TRIPPED one kept (R159). -/
theorem witness_TripArrivalStops_pump :
    let s := pumping
    let k := { s with flow := { s.flow with b := ⟨.tripped, none⟩ } }
    s.hears (tripWave .stopLoopOpen) = some { kind := 0, station := 3, edition := 1, data := [0, 7] } ∧ s.role = .pump ∧
    s.gateOpen = true ∧ s.unit.trips[(3 : StationId)] = none ∧
    [after (.tripArrival (tripWave .stopLoopOpen)) s, after .lowTimerExpiry (after .supplyFallsBelow19V s),
      after (.tripArrival (tripWave .stopLoopOpen)) k].map (fun t => (t.flow.a.state, t.flow.b.state, t.flow.capacity)) =
      [(.off, .off, 0), (.off, .off, 0), (.off, .tripped, 0)] ∧ (after .supplyFallsBelow19V s).field.lowTimer.isSome = true := by
  decide +kernel

theorem witness_SupplyTimersChangeState :
    let a := after .supplyFallsBelow19V (opening .travel 785)
    let l := after .lowTimerExpiry a
    let b := after .supplyRisesTo20V l
    a.running = true ∧ a.field.lowTimer.isSome = true ∧ a.life = .active ∧ a.role = .motion ∧
    a.field.stopLoopClosed = true ∧ l.loop.trip = .waiting .fieldSupplyLow ∧ (l.fns[(0 : FnId)]).fault = .stopped ∧
    b.running = true ∧ b.field.recovery.isSome = true ∧ (after .recoveryTimerExpiry b).gateOpen = true := by decide +kernel

/-! ## Witnesses: motion and drive -/

theorem witness_ControlPeriodConverts :
    let s := opening .travel 785
    s.running = true ∧ s.fnSetup 0 = some lift ∧ lift.kind = .positioned ∧ (s.fns[(0 : FnId)]).fault ≠ .transducer ∧
    [310, 311, 3785, 3786].map (fun a => ((after (.controlPeriod 0 a) s).field.fns[(0 : FnId)]).position) = [1023, 0, 1000, 1023] ∧
    ((after (.controlPeriod 0 310) s).fns[(0 : FnId)]).fault = .transducer ∧
    (let h := { s with fns := s.fns.set 0 { s.fns[(0 : FnId)] with motion := .stopping, fault := .transducer } }
     (h.fns[(0 : FnId)]).fault = .transducer ∧ ((after (.controlPeriod 0 410) h).field.fns[(0 : FnId)]).position = 500) ∧
    (station .joining motionSetup).life ≠ .active ∧ (station .joining motionSetup).running = true ∧
    (s.isActive = true ∧ (s.fns[(0 : FnId)]).target = some .toOpen ∧ (s.fns[(0 : FnId)]).fault.latched = false ∧
      (s.fns[(0 : FnId)]).wrongRef = some 500 ∧ s.field.stopLoopClosed = true ∧ unclamped lift 1979 = 479 ∧
      unclamped lift 1982 = 480) ∧
    [(Motion.travel, 785, 1979), (.creep, 200, 1979), (.travel, 10, 1979), (.travel, 11, 1979), (.travel, 785, 1982)].map (fun x =>
      let t := after (.controlPeriod 0 x.2.2) (opening x.1 x.2.1)
      ((t.fns[(0 : FnId)]).motion, (t.fns[(0 : FnId)]).fault, (t.drive[(0 : FnId)]).level, t.unit.tripAsserted)) =
      [(.stopping, .wrongDirection, 775, true), (.stopping, .wrongDirection, 190, true), (.heldFault, .wrongDirection, 0, true),
       (.stopping, .wrongDirection, 1, true), (.travel, .none, 790, false)] ∧
    (after (.controlPeriod 0 1979) s).loop.trip = .waiting (.functionFault 0) := by decide +kernel

/-- TRANSDUCER in each motion state and at levels about one step of the stop ramp; in JOINING it leaves the function in REST. -/
theorem witness_ControlPeriodConverts_transducer :
    [(Motion.awaitFlow, 0), (.pressurise, 0), (.travel, 785), (.travel, 11), (.travel, 10), (.creep, 0), (.seat, 210),
      (.stopping, 785), (.stopping, 10)].map (fun x =>
      let s := opening x.1 x.2
      let t := after (.controlPeriod 0 310) s
      ((s.fns[(0 : FnId)]).target.isSome, (t.fns[(0 : FnId)]).motion, (t.fns[(0 : FnId)]).fault, (t.drive[(0 : FnId)]).level)) =
      [(true, .heldFault, .transducer, 0), (true, .heldFault, .transducer, 0), (true, .stopping, .transducer, 775),
       (true, .stopping, .transducer, 1), (true, .heldFault, .transducer, 0), (true, .heldFault, .transducer, 0),
       (true, .seat, .transducer, 205), (true, .stopping, .transducer, 775), (true, .heldFault, .transducer, 0)] ∧
    ((after (.controlPeriod 0 310) (active motionSetup)).fns[(0 : FnId)]).motion = .heldFault ∧
    (let t := after (.controlPeriod 0 310) (station .joining motionSetup)
     (t.fns[(0 : FnId)]).motion = .rest ∧ (t.fns[(0 : FnId)]).fault = .transducer) := by decide +kernel

/-- The lift paired with 3/F0 at a position, opening at 500. -/
def paired (q : Nat) : State :=
  let r : FnRecord := { motion := .travel, endState := .between, priority := 0, fault := .none, blocking := 15, units := 0, position := q }
  let c := { motionSetup with
    subscription := [2, 3]
    own := { motionSetup.own with fns := motionSetup.own.fns.set 0 (some { lift with pair := some (3, 0) }) } }
  let s := wanting (withGrants [(1, 0)] (station .active c))
  { moving .travel 785 s with image := s.image.set 3 (fresh .motion (some (.motion (Vector.replicate 4 r)))) }.evaluate

/-- The station whose position stage has taken a reading of the lift, its function left as given. -/
def readAt (raw : Reading) (y : Fn) (s : State) : State :=
  { s with
    fns := s.fns.set 0 y
    field := { s.field with
      lines := { s.field.lines with ai := s.field.lines.ai.set 0 raw }
      fns := s.field.fns.set 0 { s.field.fns[(0 : FnId)] with
        lastRaw := some (unclamped lift raw), position := min (unclamped lift raw).toNat 1000 } } }

/-- Whether no function has anything to do, as `Calm` says it. -/
def quietly (s : State) : Bool := slots.all (fun f => (s.evaluate.react f).isNone)

/-- Whether a reading takes the lift, in a state at a level, to a state, stall reference and level with nothing else to do. -/
def passes (m : Motion) (level : Nat) (raw : Reading) (next : Motion) (reference new : Nat) : Bool :=
  let s := opening m level
  let y : Fn := { s.fns[(0 : FnId)] with motion := next, stallRef := some reference }
  let t := after (.controlPeriod 0 raw) s
  y.wrongRef == some 500 && quietly (readAt raw y s) && !(readAt raw y s).skewTrips 0 && t.fns[(0 : FnId)] == y &&
    (t.drive[(0 : FnId)]).level == new

/-- New positions (R118, R119): 505 moves the stall reference and 504 does not, and 850 lies in the creep zone and 849 does not. -/
theorem witness_ControlPeriodRamps_new :
    [2061, 2064, 3191, 3195].map (unclamped lift) = [504, 505, 849, 850] ∧
    passes .travel 785 2061 .travel 500 790 = true ∧ passes .travel 785 2064 .travel 495 790 = true ∧
    passes .travel 785 3191 .travel 151 790 = true ∧ passes .travel 785 3195 .creep 150 790 = true ∧
    passes .creep 200 3191 .travel 151 205 = true ∧ passes .creep 200 3195 .creep 150 205 = true := by decide +kernel

/-- A peer 60 away raises no skew trip and one 61 away does, on either side (R134). -/
theorem witness_ControlPeriodRamps_skew :
    ([440, 560, 439, 561].all (fun q => let s := paired q
      s.isActive && s.peerPosition 0 == some q && quietly (readAt 2048 s.fns[(0 : FnId)] s)) = true) ∧
    [440, 560, 439, 561].map (fun q => let t := after (.controlPeriod 0 2048) (paired q)
      ((t.fns[(0 : FnId)]).motion, (t.fns[(0 : FnId)]).fault, (t.drive[(0 : FnId)]).level)) =
      [(.travel, .none, 780), (.travel, .none, 790), (.stopping, .skew, 775), (.stopping, .skew, 775)] ∧
    (after (.controlPeriod 0 2048) (paired 439)).loop.trip = .waiting (.functionFault 0) := by decide +kernel

/-- The station of each motion state with the reading that gives the position held. -/
theorem witness_ControlPeriodRamps :
    [(Motion.travel, 785), (.creep, 200), (.seat, 210), (.stopping, 785), (.stopping, 10), (.pressurise, 0)].all (fun x =>
      let s := opening x.1 x.2
      s.running && s.fnSetup 0 == some lift && (s.fns[(0 : FnId)]).target == some .toOpen && (s.fns[(0 : FnId)]).motion.moving &&
      (s.fns[(0 : FnId)]).fault != .transducer && min (unclamped lift 2048).toNat 1000 == (s.field.fns[(0 : FnId)]).position &&
      s.guard == s.guardNow && slots.all (fun f => (s.evaluate.react f).isNone) && !s.skewTrips 0) = true ∧
    unclamped lift 2048 = 500 ∧
    [(Motion.travel, 785), (.travel, 798), (.creep, 200), (.seat, 210), (.stopping, 785), (.pressurise, 0)].map (fun x =>
      ((after (.controlPeriod 0 2048) (opening x.1 x.2)).drive[(0 : FnId)]).level) = [790, 800, 205, 205, 775, 0] ∧
    ((after (.controlPeriod 0 2048) (opening .stopping 10)).fns[(0 : FnId)]).motion = .rest := by decide +kernel

theorem witness_PressureReadingStartsTravel :
    let s := opening .pressurise 0
    let t := after (.pressureConversion 615) s
    (s.fns[(0 : FnId)]).motion = .pressurise ∧ (s.profile 0).pressureThreshold = 60 ∧ bar 615 = 60 ∧ bar 614 = 59 ∧
    (s.fns[(0 : FnId)]).target = some .toOpen ∧ (t.fns[(0 : FnId)]).motion = .travel ∧ (t.fns[(0 : FnId)]).stroke = some 60000 ∧
    slots.all (fun f => ((({ s with field := { s.field with pressure := some 60 } } : State).eachFn
      (State.takePressure 60)).evaluate.react f).isNone) = true ∧
    ((after (.pressureConversion 614) s).fns[(0 : FnId)]).motion = .pressurise := by decide +kernel

/-- F0 in REST with its release, the lock at F1 without it, under an effective intent. -/
def resting (k : Option IntentKind) : State :=
  let s := wanting (station .active motionSetup)
  { s with fns := s.fns.set 1 { s.fns[(1 : FnId)] with released := false }, unit := { s.unit with effective := k } }

/-- F0 in TRAVEL with a false HOLD term, and its guards not yet evaluated. -/
def holdLost : State :=
  let term : Term := { station := 2, selector := .pumpCapacity, operator := .atLeast 33, hold := true, safe := true, invert := false }
  let c := { motionSetup with own := { motionSetup.own with fns := motionSetup.own.fns.set 0 (some { lift with openTerms := [term] }) } }
  { opening .travel 785 with setup := some c }

/-- Whether no function but F0 reacts, and none once F0 has reacted. -/
def calm (s : State) : Bool :=
  ([1, 2, 3] : List FnId).all (fun h => (s.evaluate.react h).isNone) &&
    slots.all (fun f => ((s.settle).evaluate.react f).isNone)

/-- R110, R114, R120 to R122, each cause alone: REST left and kept, AWAIT_FLOW and PRESSURISE at a demand lost, TRAVEL at a demand
lost with its end not made and made, and at a HOLD term lost. -/
theorem witness_EvaluationMovesFunctions :
    let lose := fun (s : State) => { s with unit := { s.unit with effective := none } }
    let made := fun (s : State) => { s with field := { s.field with
      di := (s.field.di.set 0 ⟨some true, none⟩).set 2 ⟨some true, none⟩ } }
    let s := opening .travel 785
    (s.isActive = true ∧ s.demands 0 .toOpen = true ∧ ((s.guardNow.fns[(0 : FnId)]).permits .toOpen).proceed = true ∧
      (lose s).demands 0 .toOpen = false ∧ (lose s).made 0 .toOpen = false ∧ (made (lose s)).made 0 .toOpen = true ∧
      ((holdLost.guardNow.fns[(0 : FnId)]).permits .toOpen).holdCause = .term 0 ∧ (s.profile 0).seatTime = 200) ∧
    [resting (some .toOpen), resting none, lose (opening .awaitFlow 0), lose (opening .pressurise 0), lose s, lose (opening .creep 0),
      made (lose s), holdLost, s].all (fun x => calm x && x.isActive) = true ∧
    [resting (some .toOpen), resting none, lose (opening .awaitFlow 0), lose (opening .pressurise 0), lose s, lose (opening .creep 0),
      made (lose s), holdLost, s].map (fun x => ((x.settle.fns[(0 : FnId)]).motion, (x.settle.fns[(0 : FnId)]).fault)) =
      [(.awaitFlow, .none), (.rest, .none), (.rest, .none), (.rest, .none), (.stopping, .none), (.rest, .none), (.seat, .none),
       (.stopping, .holdLost), (.travel, .none)] := by decide +kernel

/-- The wave of the pump's STATUS with a grant list. -/
def grantWave (gs : List (StationId × FnId)) : Wave := wave 2 2 (encodeStatus sound (granting gs))

/-- The lock at F1 in HELD_FAULT, so that its release moves nothing. -/
def lockedOut (s : State) : State :=
  { s with fns := s.fns.set 1 { Fn.atReset with motion := .heldFault, fault := .noFlow, released := false } }

theorem witness_GrantListMovesFunctions :
    [(Motion.awaitFlow, 0, true), (.travel, 785, false), (.creep, 200, true)].map (fun x =>
        let gs : List (StationId × FnId) := if x.2.2 then [(1, 0)] else []
        let s := lockedOut (withPump (peer .stale .pump) (opening x.1 x.2.1))
        let data := encodeStatus sound (granting gs)
        let base := { s.frameEnd (grantWave gs) with image := s.image.set 2 { (s.image[(2 : StationId)]) with
          state := .fresh, age := some s.timing.stale, byte := some sound, record := some (granting gs) } }
        let noticed := base.releaseNotice 2
        let ready := if s.choice.guardFirst then noticed.evaluate else noticed
        let y := (after (.statusArrival (grantWave gs)) s).fns[(0 : FnId)]
        (s.isActive && s.role == .motion && s.hears (grantWave gs) == some { kind := 2, station := 2, edition := 1, data := data } &&
          s.cfg.own.pumpStation == 2 && decodeStatus data == some (sound, granting gs) &&
          (s.cfg.briefs[(2 : StationId)]).role == .pump && s.cfg.subscription.contains 2 && s.unit.resetWindow == none &&
          slots.all (fun f => (noticed.evaluate.react f).isNone && ((ready.pumpNotice 2).evaluate.react f).isNone), y.motion, y.fault)) =
      [(true, .pressurise, .none), (true, .stopping, .grantLost), (true, .creep, .none)] := by decide +kernel

/-- The lift in a state at a level, the lock held. -/
def granted (m : Motion) (level : Nat) : State := lockedOut (opening m level)

/-- The lift as the loss of its pump station leaves it. -/
def grantGone (m : Motion) (level : Nat) : Fn :=
  let x := (granted m level).fns[(0 : FnId)]
  if m = .awaitFlow ∨ m = .seat then x
  else if level = 0 then { x.quiet with motion := .rest, target := none, fault := .grantLost, released := false }
  else { x.quiet with motion := .stopping, fault := .grantLost }

/-- Whether nothing else reacts to the pump station's entry as it now is, before and after the functions take its notice. -/
def noticedQuietly (base : State) : Bool :=
  let ready := if base.choice.guardFirst then base.evaluate else base
  quietly base && quietly (ready.pumpNotice 2)

/-- Whether an ANNOUNCE of the pump station leaves its entry in a state, and the lift without its grant. -/
def judges (a : AnnounceFrame) (st : EntryState) (fp : FpMatch) (m : Motion) (level : Nat) : Bool :=
  let s := granted m level
  let w := wave 3 2 a.encode
  let e : Entry := { state := st, role := some a.role, fpMatch := fp, age := none, byte := none, record := none }
  s.hears w == some { kind := 3, station := 2, edition := 1, data := a.encode } && decodeAnnounce a.encode == some a &&
    noticedQuietly { s.frameEnd w with image := s.image.set 2 e } && (after (.announceArrival w) s).fns[(0 : FnId)] == grantGone m level

/-- The pump's FRESH entry goes STALE, KNOWN and FOREIGN, at a level and at 0. -/
theorem witness_GrantListMovesFunctions_lost :
    [(Motion.travel, 785), (.creep, 0), (.pressurise, 0), (.awaitFlow, 0), (.seat, 200)].all (fun x =>
      let s := granted x.1 x.2
      let e := s.image[(2 : StationId)]
      let stale : Entry := { e with state := .stale, age := none, byte := none, record := none }
      s.isActive && s.role == .motion && s.cfg.own.pumpStation == 2 && e.state == .fresh && e.age.isSome &&
        noticedQuietly { s with image := s.image.set 2 stale } && (after (.ageExpiry 2) s).fns[(0 : FnId)] == grantGone x.1 x.2) = true ∧
    judges announced .known .matched .travel 785 = true ∧
    judges { announced with configFault := true } .foreign .refused .creep 0 = true ∧
    judges announced .known .matched .awaitFlow 0 = true := by decide +kernel

theorem witness_MotionTimeoutsLatch :
    ((opening .awaitFlow 0).fns[(0 : FnId)]).grantWait.isSome = true ∧ ((opening .pressurise 0).fns[(0 : FnId)]).pressurise.isSome = true ∧
    ((opening .travel 785).fns[(0 : FnId)]).stroke.isSome = true ∧ ((opening .creep 0).fns[(0 : FnId)]).stall.isSome = true ∧
    ((opening .travel 785).fns[(0 : FnId)]).fault.latched = false ∧ (opening .travel 785).field.stopLoopClosed = true ∧
    (opening .travel 785).life = .active ∧ (opening .travel 785).role = .motion ∧
    (opening .travel 785).unit.trips[(opening .travel 785).station] = none ∧
    ((after (.grantWaitExpiry 0) (opening .awaitFlow 0)).fns[(0 : FnId)]).fault = .noFlow ∧
    ((after (.pressuriseTimeout 0) (opening .pressurise 0)).fns[(0 : FnId)]).motion = .heldFault ∧
    ((after (.strokeTimeout 0) (opening .travel 785)).fns[(0 : FnId)]).motion = .stopping ∧
    (after (.stallWindowExpiry 0) (opening .travel 785)).loop.trip = .waiting (.functionFault 0) := by decide +kernel

theorem witness_SeatTimerEndsMovement :
    let s := opening .seat 200
    let h := { s with unit := { s.unit with restartHold := true } }
    let l := { s with fns := s.fns.set 0 { s.fns[(0 : FnId)] with fault := .sensorDisagree } }
    (s.fns[(0 : FnId)]).motion = .seat ∧ (s.fns[(0 : FnId)]).seat.isSome = true ∧ (s.fns[(0 : FnId)]).fault.latched = false ∧
    h.unit.restartHold = true ∧ ((after (.seatTimerExpiry 0) h).fns[(0 : FnId)]).motion = .rest ∧
    (l.fns[(0 : FnId)]).fault.latched = true ∧ (l.drive[(0 : FnId)]).level = 200 ∧
    ((after (.seatTimerExpiry 0) l).fns[(0 : FnId)]).motion = .stopping ∧
    (after (.seatTimerExpiry 0) l).drive[(0 : FnId)] = l.drive[(0 : FnId)] ∧
    (let z := l.onDrive 0 (fun d => { d with level := 0 })
     ((after (.seatTimerExpiry 0) z).fns[(0 : FnId)]).motion = .heldFault ∧
     (after (.seatTimerExpiry 0) z).drive[(0 : FnId)] = Drive.off) := by decide +kernel

/-! ## Witnesses: panels and pumps -/

/-- A panel whose OPEN is held and was last sent. -/
def holding : State :=
  let s := wanting (active panelSetup)
  { s with panel := { s.panel with held := some .toOpen, refresh := some 100, refreshKind := some .toOpen } }

/-- A panel with its key on, every button armed, and one of them, STOP active low, just debounced ACTIVE. -/
def pressing (i : InputId) : State :=
  let s := active panelSetup
  { s with
    field := { s.field with
      lines := { s.field.lines with di := s.field.lines.di.set i (i != 2) }
      di := (s.field.di.set 4 ⟨some true, none⟩).set i ⟨some false, some 10⟩ }
    panel := { s.panel with armOpen := true, armClose := true, armStop := true, armReset := true } }

/-- A press of OPEN, of STOP, of RESET, of CLOSE beside OPEN (STOP), and the release of OPEN (RELEASE). -/
theorem witness_PanelInputsQueueIntents :
    ([0, 1, 2, 3] : List InputId).all (fun i => (pressing i).isActive && (pressing i).isPanel && (pressing i).used i &&
      ((pressing i).field.di[i]).debounce.isSome) = true ∧
    ([0, 2, 3] : List InputId).map (fun i => (after (.debounceExpiry i) (pressing i)).loop.intent) =
      [.waiting { kind := .toOpen, underway := false }, .waiting { kind := .stop, underway := false },
       .waiting { kind := .reset, underway := false }] ∧
    (let s := pressing 1
     let both := { s with field := { s.field with di := s.field.di.set 0 ⟨some true, none⟩ } }
     (after (.debounceExpiry 1) both).panel.held = some .stop) ∧
    (let s := after (.debounceExpiry 0) (pressing 0)
     let up := { s with field := { s.field with lines := { s.field.lines with di := s.field.lines.di.set 0 false }
                                                di := s.field.di.set 0 ⟨some true, some 10⟩ } }
     (after (.debounceExpiry 0) up).loop.intent = .waiting { kind := .release, underway := false }) := by decide +kernel

/-- The selectable functions by station and slot (R143). -/
theorem witness_PanelInputsQueueIntents_list :
    let kinds : Brief := { Brief.blank with role := .motion, kinds := #v[none, some .endOnly, none, some .positioned] }
    let c := { panelSetup with briefs := (panelSetup.briefs.set 3 kinds).set 15 { kinds with kinds := #v[some .positioned, none, none, none] } }
    c.selectable = [(3, 1), (3, 3), (15, 0)] := by decide +kernel

theorem witness_IntentTimersExpire :
    holding.panel.refresh.isSome = true ∧ holding.isActive = true ∧ holding.isPanel = true ∧
    holding.panel.held = some .toOpen ∧ holding.panel.refreshKind = some .toOpen ∧
    (after .intentRefreshExpiry holding).loop.intent = .waiting { kind := .toOpen, underway := false } ∧
    ({ holding with panel := { holding.panel with held := none } }).panel.held = none ∧ holding.running = true ∧
    holding.unit.table[(0 : StationId)] = some { kind := .toOpen, lease := some 300 } ∧
    (after (.intentLeaseExpiry 0) holding).unit.effective = none := by decide +kernel

/-- One entry of OPEN; then STOP of a second, or a second kind (R149). -/
theorem witness_IntentTimersExpire_table :
    let s := withPanels (wanting (active motionSetup))
    let u := { s.unit with table := s.unit.table.set 4 (some { kind := .stop, lease := some 300 }) }
    UnitLaws (wanting (active motionSetup)) ∧ effectiveOf u.kinds = some .stop ∧
    effectiveOf ({ u with table := u.table.set 4 (some { kind := .toClose, lease := some 300 }) } : IntentTrip).kinds = none := by
  refine ⟨⟨by decide +kernel, ?_, by decide +kernel⟩, by decide +kernel, by decide +kernel⟩
  intro n e h
  have k : ∀ m : StationId, ((wanting (active motionSetup)).unit.table[m]).all
      (fun x => x.lease.isSome && x.kind != .release && x.kind != .reset) = true := by decide +kernel
  have := k n
  rw [h] at this
  simpa [and_assoc] using this

theorem witness_PumpEventsMoveMachines :
    (pumping.flow.pump .b).state = .starting ∧ (pumping.flow.pump .b).runUp.isSome = true ∧ pumping.flow.idle.isSome = true ∧
    pumping.isActive = true ∧ pumping.role = .pump ∧
    pumping.flow.anyIn .running = true ∧ ((after (.runUpExpiry .b) pumping).flow.pump .b).state = .tripped ∧
    (let s := { pumping with field := { pumping.field with di := pumping.field.di.set 2 ⟨some true, none⟩ } }
     (after (.runUpExpiry .b) s).flow.capacity = 32) ∧
    (after .idleTimerExpiry pumping).flow.capacity = 0 ∧
    (let low := fun (i : InputId) (before : Bool) => { pumping with field := { pumping.field with
       lines := { pumping.field.lines with di := pumping.field.lines.di.set i false }
       di := pumping.field.di.set i ⟨some before, some 10⟩ } }
     (low 3 false).inputLevel 3 = true ∧ ((low 3 false).field.di[(3 : InputId)]).debounce.isSome = true ∧
     ((after (.debounceExpiry 3) (low 3 false)).flow.pump .b).state = .tripped ∧
     (low 0 true).inputLevel 0 = false ∧ ((after (.debounceExpiry 0) (low 0 true)).flow.pump .a).state = .tripped ∧
     (after (.debounceExpiry 0) (low 0 true)).flow.capacity = 0) := by decide +kernel

/-- A PUMP station with machine A RUNNING, and a MOTION station 3 whose record claims 12 units at F0 and at F1. -/
def claiming : State :=
  let r : FnRecord := { motion := .awaitFlow, endState := .between, priority := 1, fault := .none, blocking := 15, units := 12,
                        position := 500 }
  let s := station .active pumpSetup
  { s with
    fns := Vector.replicate 4 Fn.atReset
    flow := { s.flow with a := ⟨.running, none⟩, capacity := 16, idle := some 30 }
    image := s.image.set 3 (fresh .motion (some (.motion #v[r, r, { r with units := 0 }, { r with units := 0 }]))) }

/-- The same with both claims granted, after the loss of a second machine. -/
def crowded : State :=
  { claiming with flow := { claiming.flow with queue := [⟨3, 0, 12, 1⟩, ⟨3, 1, 12, 1⟩], grants := [(3, 0), (3, 1)], idle := none } }

/-- The first claim is granted and the second finds 4 units, so B is started; under RESTART_HOLD neither; two grants over 16 units lose
the younger; and a STATUS computes. -/
theorem witness_GrantComputationFollowsRules :
    QueueLaws claiming ∧ QueueLaws crowded ∧ crowded.computed.grants = [(3, 0)] ∧ claiming.gateOpen = true ∧ claiming.computed.grants = [(3, 0)] ∧
    claiming.computed.b = ⟨.starting, some 2500⟩ ∧
    ({ claiming with unit := { claiming.unit with restartHold := true } } : State).computed.grants = [] ∧
    (let r : FnRecord := { motion := .awaitFlow, endState := .between, priority := 1, fault := .none, blocking := 15, units := 8,
                           position := 500 }
     let m : Record := .motion (Vector.replicate 4 r)
     let s := claiming
     s.isActive = true ∧ s.role = .pump ∧ s.hears (wave 2 3 (encodeStatus sound m)) =
       some { kind := 2, station := 3, edition := 1, data := encodeStatus sound m } ∧
     decodeStatus (encodeStatus sound m) = some (sound, m) ∧ m.fits .motion = true ∧
     (s.cfg.briefs[(3 : StationId)]).role = .motion ∧ s.cfg.subscription.contains 3 = true ∧ s.unit.resetWindow = none ∧
     (s.image[(3 : StationId)]).record ≠ some m ∧
     (after (.statusArrival (wave 2 3 (encodeStatus sound m))) s).flow.grants = [(3, 0), (3, 1)]) := by
  refine ⟨?_, ?_, by decide +kernel, by decide +kernel, by decide +kernel, by decide +kernel, by decide +kernel, by decide +kernel⟩ <;>
    (constructor <;> decide +kernel)

/-! ## Witnesses: the laws, at stations that move -/

/-- The step that the law witnesses take: the stop loop opens under a function in TRAVEL. -/
def queued (c : Instr) (s : State) : State := { s with pending := [c] }

theorem step_queued (c : Instr) (s : State) (h : s.pending = []) : step (queued c s) = exec c s := by
  have e : ({ queued c s with pending := [] } : State) = s := by cases s; simp_all [queued]
  show exec c { queued c s with pending := [] } = exec c s
  rw [e]

theorem exec_next (c : Instr) (s : State) : exec c s = .next (after c s) ∨ (∃ r, exec c s = .fault r) ∨ ∃ r, exec c s = .refused r := by
  unfold after
  cases exec c s with
  | next t => exact .inl rfl
  | fault r => exact .inr (.inl ⟨r, rfl⟩)
  | refused r => exact .inr (.inr ⟨r, rfl⟩)

/-- A station with a function in TRAVEL, and an opening of its stop loop waiting. -/
def travelling : State := queued .stopLoopOpening (opening .travel 785)

theorem travelling_step : ∃ t, step travelling = .next t := by
  refine ⟨after .stopLoopOpening (opening .travel 785), ?_⟩
  unfold travelling
  rw [step_queued _ _ (by decide +kernel)]
  rfl

theorem witness_MotionLawsKept : MotionLaws travelling ∧ ∃ t, step travelling = .next t := by
  refine ⟨fun f => ?_, travelling_step⟩
  constructor <;> revert f <;> decide +kernel

theorem witness_LevelLawsKept : ProfilesOk travelling ∧ LevelLaws travelling := by
  refine ⟨fun f x d h => ?_, by unfold LevelLaws; decide +kernel⟩
  have e : ∀ f : FnId, travelling.fnSetup f = motionSetup.own.fns[f] := by decide +kernel
  rw [e] at h
  fin_cases f <;> cases d <;> simp [motionSetup] at h <;> subst h <;> decide

theorem witness_FlowLawsKept : FlowLaws (queued (.runUpExpiry .b) pumping) ∧ pumping.flow.anyIn .starting = true := by
  refine ⟨?_, by decide +kernel⟩
  constructor
  · constructor <;> decide +kernel
  all_goals decide +kernel

theorem witness_LoopLawsKept : LoopLaws (queued (.sendComplete true) (sending .status true [] (active motionSetup))) := by
  constructor <;> decide +kernel

theorem witness_ImageLawsKept : ImageLaws (queued (.ageExpiry 2) (withGrants [(1, 0)] (active motionSetup))) := by
  intro n
  constructor <;> revert n <;> decide +kernel

theorem witness_GuardLawsKept : GuardLaws travelling := by unfold GuardLaws EveryTermValued; decide +kernel

/-- The laws of the guard engine where nothing is evaluated: the lift with two terms and a lamp in JOINING, and at its exit to
WITHDRAWN, where the values stay. -/
theorem witness_GuardLawsKept_away :
    let c := { motionSetup with own := { motionSetup.own with
      fns := motionSetup.own.fns.set 0 (some { lift with openTerms := terms }), lamps := [{ on := terms.take 1, flash := [] }] } }
    let t := after (.sendAbort .bitError) (aborting 7 true (withGrants [] (station .active c)).evaluate)
    GuardLaws (station .joining c) ∧ GuardLaws t ∧ t.life = .withdrawn ∧ (t.guard.fns[(0 : FnId)]).opening.values = [true, false] ∧
    (t.guard.fns[(0 : FnId)]).pairTerm = true ∧ (t.guard.lamps[(0 : Fin 8)]).onValues = [true] := by
  unfold GuardLaws EveryTermValued
  decide +kernel

theorem witness_UnitLawsKept : UnitLaws (queued (.intentLeaseExpiry 0) holding) := by
  refine ⟨by decide +kernel, fun n e h => ?_, by decide +kernel⟩
  have k : ∀ n : StationId, ((queued (.intentLeaseExpiry 0) holding).unit.table[n]).all (fun e =>
      e.lease.isSome && e.kind != .release && e.kind != .reset) = true := by decide +kernel
  have := k n
  rw [h] at this
  simpa [and_assoc] using this

theorem witness_FieldLawsKept : FieldLaws (queued (.discrepancyExpiry 0 .toOpen) (differing (active motionSetup))) := by
  intro f
  constructor <;> revert f <;> decide +kernel

/-- A function in HELD_FAULT with STROKE_TIMEOUT. -/
def faulted : State :=
  let s := active motionSetup
  ({ s with fns := s.fns.set 0 { Fn.atReset with motion := .heldFault, fault := .strokeTimeout } }).evaluate

theorem witness_LatchedFaultsStay :
    MotionLaws faulted ∧ (faulted.fns[(0 : FnId)]).fault.latched = true ∧ ∃ t, exec .flashTimerExpiry faulted = .next t := by
  refine ⟨fun f => ?_, by decide +kernel, _, rfl⟩
  constructor <;> revert f <;> decide +kernel

/-- A RESET arrival clears a latched fault that it may clear (R126). -/
theorem test_reset_clears_fault :
    let t := after (.intentArrival (intentWave 0 .reset false)) (withPanels faulted)
    (t.fns[(0 : FnId)]).motion = .rest ∧ (t.fns[(0 : FnId)]).fault = .none := by decide +kernel

/-- The RESET of a panel at a station. -/
theorem resets (s : State) (r : Role) (hr : r = .panelCommand ∨ r = .panelStop) (h : s.running = true)
    (hh : s.hears (intentWave 0 .reset false) = some { kind := 1, station := 0, edition := 1, data := [4, 0] })
    (hn : s.station ≠ 0) (hs : (s.image[(0 : StationId)]).state = .fresh) (hp : (s.image[(0 : StationId)]).role = some r) :
    ResetArrives (.intentArrival (intentWave 0 .reset false)) s :=
  .inl ⟨_, _, r, false, rfl, h, hh, rfl, hn.symm, by decide, hs, hp, hr⟩

/-- A RESET at a station that holds a code whose cause is gone, one whose other condition holds, and a trip; at a PUMP station with
a TRIPPED machine. -/
theorem witness_ResetArrivalClears :
    MotionLaws (withPanels faulted) ∧ ResetArrives (.intentArrival (intentWave 0 .reset false)) (withPanels faulted) ∧
    (faulted.fns[(0 : FnId)]).fault.latched = true ∧ faulted.outOfBand 0 = false ∧ faulted.disagreed 0 = false ∧
    (let raw := fun (p : Int) => { withPanels faulted with field := { faulted.field with
       fns := faulted.field.fns.set 0 { faulted.field.fns[(0 : FnId)] with lastRaw := some p } } }
     ((after (.intentArrival (intentWave 0 .reset false)) (raw 1031)).fns[(0 : FnId)]).fault = .transducer ∧
     ((after (.intentArrival (intentWave 0 .reset false)) (raw 1030)).fns[(0 : FnId)]).fault = .none) ∧
    (let s := withPanels faulted
     let u := { s.unit with trips := (s.unit.trips.set 4 (some .eStop)).set 3 (some .cStop), tripAsserted := true }
     let t := after (.intentArrival (intentWave 0 .reset false)) { s with unit := u }
     t.unit.trips[(4 : StationId)] = none ∧ t.unit.trips[(3 : StationId)] = some .cStop ∧ t.unit.tripAsserted = false) ∧
    (let s := withPanels { pumping with flow := { pumping.flow with b := ⟨.tripped, none⟩ } }
     ((after (.intentArrival (intentWave 0 .reset false)) s).flow.pump .b).state = .off) := by
  refine ⟨fun f => ?_, resets _ .panelCommand (.inl rfl) ?_ ?_ ?_ ?_ ?_, ?_⟩
  · constructor <;> revert f <;> decide +kernel
  all_goals decide +kernel

theorem witness_PressuriseOnlyByGrant :
    let s := (moving .awaitFlow 0 (wanting (withPump (peer .known .pump) (station .active motionSetup)))).evaluate
    (s.fns[(0 : FnId)]).motion ≠ .pressurise ∧
    ((after (.statusArrival (wave 2 2 pumpStatus)) s).fns[(0 : FnId)]).motion = .pressurise := by decide +kernel

theorem witness_OwnEventsOnly :
    (∃ t, exec .flashTimerExpiry { faulted with unit := { faulted.unit with restartHold := true } } = .next t) ∧
    (∀ r, Instr.flashTimerExpiry ≠ .resetCondition r) ∧
    ¬ResetArrives .flashTimerExpiry { faulted with unit := { faulted.unit with restartHold := true } } :=
  ⟨⟨_, rfl⟩, (fun _ h => by cases h), by rintro (⟨_, _, _, _, h, _⟩ | ⟨_, _, _, h, _⟩) <;> cases h⟩

/-- RESTART_HOLD rises where the join window ends, and nowhere while the window only runs (R14). -/
theorem witness_OwnEventsOnly_rise :
    (∀ r, Instr.joinWindowExpiry ≠ .resetCondition r) ∧ joining.unit.restartHold = false ∧ joining.life = .joining ∧
    (after .joinWindowExpiry joining).unit.restartHold = true ∧ (after .joinWindowExpiry joining).life = .active ∧
    (after .flashTimerExpiry joining).unit.restartHold = false := by
  refine ⟨(fun _ h => by cases h), ?_⟩
  decide +kernel

/-- A fault, the station byte and a position step at a station that has published, each a cause; under the inhibit the cause is
deferred. -/
theorem witness_ChangesRequestStatus :
    let s := opening .travel 785
    let p := { s with pub := { s.pub with lastSent := some s.statusData } }
    let q := { p with pub := { p.pub with inhibit := true } }
    (p.isActive = true ∧ p.ownRecord.isSome = true ∧ p.flow.grants.length ≤ 8 ∧ (p.pub.lastSent.bind decodeStatus).isSome = true) ∧
    p.loop.status = .empty ∧ (after .stopLoopOpening p).stationByte ≠ p.stationByte ∧
    (after .stopLoopOpening p).loop.status = .waiting () ∧ (after (.strokeTimeout 0) p).loop.status = .waiting () ∧
    (after (.controlPeriod 0 2079) p).loop.status = .empty ∧ (after (.controlPeriod 0 2080) p).loop.status = .waiting () ∧
    (after (.strokeTimeout 0) q).loop.status = .empty ∧ (after (.strokeTimeout 0) q).pub.deferred = true := by decide +kernel

/-! ## Witnesses: frames, arithmetic, guards and outputs -/

theorem witness_FrameContentsRoundTrip :
    sound.getLsbD 7 = true ∧ sound.toNat % 4 ≠ 3 ∧ (granting (List.replicate 8 (15, 3))).wf = true ∧
    (Record.pump .tripped .off 64 []).wf = true ∧
    Record.wf (.motion (Vector.replicate 4 { motion := .heldFault, endState := .unknown, priority := 3, fault := .endLost,
                                              blocking := 15, units := 32, position := 1023 })) = true ∧
    decodeTrip [0x81, 3] = some (.functionFault 3) ∧ decodeIntent [5, 0xBF] = some { kind := .single 15 3 .toClose, underway := false } ∧
    (decodeAnnounce [5, 0, 0, 0, 0, 2, 0x46]).isSome = true ∧ (decodeStatus [0x80, 0, 0]).isSome = true := by decide +kernel

/-- R21's window of a sixteenth each way, at both rates: 75 to 85 and 150 to 170 ticks. -/
theorem witness_DrivenFrameIsReceived :
    [(BitRate.k100, 75), (.k100, 85), (.k50, 150), (.k50, 170)].all (fun x =>
      15 * bitTicks x.1 ≤ 16 * x.2 && 16 * x.2 ≤ 17 * bitTicks x.1 &&
      receive x.1 ((frameLevels (frameBytes 15 15 7 [0xFF])).map (fun d => { dominant := d, ticks := x.2 })) ==
        .good { kind := 15, station := 15, edition := 7, data := [0xFF] } { start := 74 * x.2, length := x.2 }) = true ∧
    receive .k100 ((frameLevels (frameBytes 15 15 7 [0xFF])).map (fun d => { dominant := d, ticks := 74 })) = .dropped .syncError ∧
    (List.replicate 20 (0xFF : Byte)).length ≤ 20 := by decide +kernel

theorem witness_DriveArithmetic :
    lift.c0 ≠ lift.c1 ∧ (410 : Reading).toNat = lift.c0 ∧ (3686 : Reading).toNat = lift.c1 ∧ highTime 500 1 = 20 ∧
    highTime 4000 1000 = 4000 ∧ ((opening .stopping 785).fns[(0 : FnId)]).motion = .stopping ∧
    ((opening .stopping 785).fns[(0 : FnId)]).target = some .toOpen ∧ (opening .stopping 785).nextLevel 0 = 775 := by
  decide +kernel

/-- A false HOLD term in the second place, a false START term in the first, a MEANTIME of SINGLE, and a false pair. -/
theorem witness_TermsAndPermits :
    ((active motionSetup).entry 2).state ≠ .fresh ∧ [true, false].length = terms.length ∧
    (permitsOf terms [true, false] .single true).holdCause = .term 1 ∧ (permitsOf terms [true, true] .normal true).start = true ∧
    (permitsOf terms [false, true] .normal true).start = false ∧ (permitsOf terms [false, true] .normal true).proceed = true ∧
    (permitsOf terms [false, true] .single true).start = true ∧
    (permitsOf terms [true, true] .normal false).holdCause = .pair := by decide +kernel

/-- The lift with both terms on its OPEN list, its pump at a capacity of 32, under an effective intent. -/
def blocked (k : Option IntentKind) : State :=
  let c := { motionSetup with own := { motionSetup.own with fns := motionSetup.own.fns.set 0 (some { lift with openTerms := terms }) } }
  let s := withGrants [] (station .active c)
  { s with unit := { s.unit with effective := k } }.evaluate

/-- Guards of the present state: the blocking term in both modes and without a demand, a pair term true and false, and a mode that
stays NORMAL in TRAVEL under a SINGLE. -/
theorem witness_TermsAndPermits_now :
    (∀ k ∈ [some IntentKind.toOpen, some (.single 1 0 .toOpen), none, some .toClose], GuardLaws (blocked k)) ∧
    GuardLaws (paired 500) ∧ GuardLaws (paired 1023) ∧ (paired 500).isActive = true ∧ (paired 1023).isActive = true ∧
    [some IntentKind.toOpen, some (.single 1 0 .toOpen), none, some .toClose].map (fun k =>
      let g := (blocked k).guard.fns[(0 : FnId)]
      ((blocked k).isActive, (blocked k).made 0 .toOpen, ((blocked k).fns[(0 : FnId)]).motion, g.mode, g.blocking)) =
      [(true, false, .rest, .normal, 1), (true, false, .rest, .single, 1), (true, false, .rest, .normal, 15),
       (true, false, .rest, .normal, 15)] ∧
    [500, 1023].map (fun q => (((paired q).guard.fns[(0 : FnId)]).pairTerm, ((paired q).entry 3).state)) =
      [(true, .fresh), (false, .fresh)] ∧
    (let t := after (.intentArrival (intentWave 0 (.single 1 0 .toOpen) false)) (withPanels (opening .travel 785))
     t.unit.effective = some (.single 1 0 .toOpen) ∧ (t.fns[(0 : FnId)]).motion = .travel ∧ (t.guard.fns[(0 : FnId)]).mode = .normal) ∧
    (let t := after (.intentArrival (intentWave 0 (.single 1 0 .toOpen) false)) (withPanels (active motionSetup))
     (t.fns[(0 : FnId)]).motion = .awaitFlow ∧ (t.guard.fns[(0 : FnId)]).mode = .single) := by
  unfold GuardLaws EveryTermValued
  refine ⟨by decide +kernel, by decide +kernel, by decide +kernel, by decide +kernel, by decide +kernel, by decide +kernel,
    by decide +kernel, by decide +kernel, by decide +kernel⟩

/-- Reading the pump's entry: its capacity of 32 and its flags (R79 to R81). -/
theorem test_terms :
    terms.map (withGrants [] (active motionSetup)).termValue = [true, false] ∧
    (withGrants [] (active motionSetup)).termValue
      { station := 2, selector := .pumpState .a, operator := .member 0x4, hold := false, safe := false, invert := false } = true := by
  decide +kernel

/-- A station with one lamp: ON while the pump's entry shows ACTIVE, FLASH at a capacity of 33, beyond the pump's 32. -/
def lit : State :=
  let c := { motionSetup with own := { motionSetup.own with
    lamps := [{ on := terms.take 1, flash := terms.drop 1 }] } }
  (withGrants [] (station .active c)).evaluate

theorem witness_LampsShowConditions :
    lit.isActive = true ∧ GuardLaws lit ∧ (lit.guard.lamps[(0 : Fin 8)]).state = .on ∧
    (lit.guard.lamps[(1 : Fin 8)]).state = .off ∧ (lit.entry 3).state ≠ .fresh := by
  refine ⟨by decide +kernel, ?_, by decide +kernel, by decide +kernel, by decide +kernel⟩
  unfold GuardLaws EveryTermValued
  decide +kernel

theorem witness_OperatorsCompare :
    let r : FnRecord := { motion := .rest, endState := .between, priority := 0, fault := .none, blocking := 15, units := 0,
                          position := 1023 }
    let s := { active motionSetup with image := (active motionSetup).image.set 3 (fresh .motion (some (.motion (Vector.replicate 4 r)))) }
    let t : Term := { station := 3, selector := .fnMotion 0, operator := .member 2, hold := false, safe := false, invert := true }
    s.peerFn 3 0 = some r ∧ (s.entry 3).state = .fresh ∧ (s.entry 3).role = some .motion ∧ Selector.panelFlags.fits .motion = false ∧
    t.selector.fits .motion = true ∧ s.reads (s.entry 3) t.selector = some (.code 1) ∧ s.termValue t = false ∧
    s.termValue { t with invert := false } = true ∧ (s.entry 2).state ≠ .fresh ∧
    (Operator.maskedEqual 0xFF 0x01).apply (.number 0x101) = true ∧
    (Operator.atLeast 5).apply (.code 5) = true ∧ (Operator.below 5).apply (.flags 5) = false := by decide +kernel

/-- What the selectors read of a MOTION, a PUMP and a panel record, and an accepted input (R76, R77). -/
theorem witness_OperatorsCompare_reads :
    let r : FnRecord := { motion := .heldFault, endState := .unknown, priority := 0, fault := .endLost, blocking := 15, units := 0,
                          position := 1000 }
    let m := fresh .motion (some (.motion (Vector.replicate 4 r)))
    let p := fresh .pump (some (.pump .tripped .running 64 []))
    let l := fresh .panelStop (some (.panel true false true 0 0))
    let s := atOpen ⟨.agreed, none⟩
    [s.reads m (.fnMotion 3), s.reads m (.fnEnd 0), s.reads m (.fnFault 0), s.reads m (.fnPosition 0), s.reads p (.pumpState .a),
      s.reads p (.pumpState .b), s.reads p .pumpCapacity, s.reads l .panelFlags, s.reads l .stationFlags,
      s.reads m (.localInput 0), s.reads m (.localInput 1)] =
      [some (.code 8), some (.code 3), some (.code 13), some (.number 1000), some (.code 3), some (.code 2), some (.number 64),
       some (.flags 0xA0), some (.flags 0xB0), some (.code 1), some (.code 0)] := by decide +kernel

theorem witness_OutputsFollowState :
    (active motionSetup).gateOpen = true ∧ (station .joining motionSetup).gateOpen = false ∧ (joining.isActive = false) ∧
    (faulted.fns[(0 : FnId)]).motion.moving = false ∧ (faulted.drive[(0 : FnId)]) = Drive.off ∧ MotionLaw travelling 0 ∧
    (let s := opening .travel 785
     let p := { s with drive := s.drive.set 0 { s.drive[(0 : FnId)] with phase := .pullIn, pullIn := some 50, sol := .off } }
     let o := { s with drive := s.drive.set 0 { s.drive[(0 : FnId)] with prop := .off } }
     s.gateOpen = true ∧ s.role ≠ .pump ∧ s.solenoidEnergised 0 .toOpen = true ∧ (s.drive[(0 : FnId)]).phase = .hold ∧
     (s.drive[(0 : FnId)]).sol = .running 400 600 true 400 ∧ s.solenoidOut 0 .toOpen = true ∧ p.solenoidOut 0 .toOpen = true ∧
     (s.drive[(0 : FnId)]).prop = .running 785 215 true 785 ∧ s.proportionalOut 0 = true ∧ o.proportionalOut 0 = false) ∧
    pumping.role = .pump ∧ pumping.gateOpen = true ∧ pumping.so 0 = true ∧ pumping.so 1 = true := by
  refine ⟨by decide +kernel, by decide +kernel, by decide +kernel, by decide +kernel, by decide +kernel, ?_, by decide +kernel,
    by decide +kernel, by decide +kernel, by decide +kernel, by decide +kernel⟩
  constructor <;> decide +kernel

theorem witness_DumpValveFollowsMotion :
    (after .flashTimerExpiry (opening .travel 785)).dv = true ∧ (after .stopLoopOpening (opening .travel 785)).dv = false := by
  decide +kernel

/-- Section 6.3's table of end states. -/
theorem test_end_states :
    let s := active motionSetup
    let on := fun (xs : List InputId) => ({ s with field := { s.field with
      di := xs.foldl (fun (v : Vector Discrete 16) (i : InputId) => v.set i { accepted := some true, debounce := none }) s.field.di } } : State).endStateNow 0
    [on [0, 2, 1], on [0, 2], on [1], on []].map EndState.code = [3, 1, 0, 2] := by decide +kernel

end Sys2Proof.Tests
end

section
/-! What the shared operations keep. Every event of the station is made of a few primitive changes: a cause for a STATUS, guard
results, one function controller, one valve drive, one function's field inputs, the arbiter, a trip. `Kept` lists them for a
predicate on states, and each operation is walked through once: a predicate that the primitive changes keep is kept by it.
A law of the station, and a frame over a fixed first state, are both such predicates. -/

namespace Sys2Proof.Machine

/-! ## The primitive changes -/

/-- The motion states in which the level of the proportional output is 0 (R112, R116, R135). -/
def Motion.flat (m : Motion) : Bool := !m.moving || m == .pressurise

/-- A change of a function controller that leaves its level allowed (R135): the target direction stays or the level was 0, and a
state of level 0 is entered from such a state only. -/
structure Fn.Slides (x y : Fn) : Prop where
  target : y.target = x.target ∨ x.motion.flat = true
  flat : y.motion.flat = true → x.motion.flat = true

/-- The primitive changes of an evaluation, of a function and of the arbiter keep a predicate. -/
structure Kept (P : State → Prop) : Prop where
  cause : ∀ {s : State}, P s → P s.statusCause
  guard : ∀ {s : State}, s.isActive = true → P s → P { s with guard := s.guardNow }
  fn : ∀ {s : State} (f : FnId) (g : Fn → Fn), (s.drive[f]).level = 0 ∨ Fn.Slides s.fns[f] (g s.fns[f]) → P s → P (s.onFn f g)
  drive : ∀ {s : State} (f : FnId) (g : Drive → Drive),
    (g s.drive[f]).level = 0 ∨ (g s.drive[f]).level = (s.drive[f]).level → P s → P (s.onDrive f g)
  still : ∀ {s : State}, P s → P { s with drive := Vector.replicate 4 Drive.off }
  fnField : ∀ {s : State} (f : FnId) (g : FnField → FnField), P s → P (s.onFnField f g)
  flow : ∀ {s : State} (g : Flow), P s → P { s with flow := g }

/-- A change that keeps the motion state and the target direction. -/
theorem Fn.Slides.of_eq {x y : Fn} (m : y.motion = x.motion) (t : y.target = x.target) : Fn.Slides x y :=
  ⟨.inl t, fun h => m ▸ h⟩

/-- A change from a state of level 0. -/
theorem Fn.Slides.of_flat {x y : Fn} (h : x.motion.flat = true) : Fn.Slides x y := ⟨.inr h, fun _ => h⟩

/-- A change to a state that has a level, the target direction kept. -/
theorem Fn.Slides.of_powered {x y : Fn} (m : y.motion.flat = false) (t : y.target = x.target) : Fn.Slides x y :=
  ⟨.inl t, fun h => by rw [m] at h; cases h⟩

/-- Its outputs are off when a function becomes idle, whichever of the two is written first. -/
theorem toIdle_drive_first (m : Motion) (f : FnId) (s : State) : s.toIdle m f =
    (s.onDrive f (fun _ => Drive.off)).onFn f (fun x => { x.quiet with
      motion := m, target := none
      released := if (s.fns[f]).motion.claims then s.grantGone f else (s.fns[f]).released }) := rfl

/-- A change of the end state moves no function (R99). -/
theorem Fn.endChanged_slides (o n : EndState) (x : Fn) : Fn.Slides x (Fn.endChanged o n x) := by
  unfold Fn.endChanged
  extract_lets lost back
  split
  · exact .of_eq rfl rfl
  · split
    · exact .of_eq rfl rfl
    · exact .of_eq rfl rfl

namespace Kept

variable {P : State → Prop} (k : Kept P) {s : State}
include k

/-! ## One function moves -/

theorem act {op : State → State} (h : P (op s)) : P (s.act op) := by
  unfold State.act
  dsimp only
  split
  · exact k.cause h
  · exact h

theorem toIdle (m : Motion) (f : FnId) (h : P s) : P (s.toIdle m f) := by
  rw [toIdle_drive_first]
  exact k.fn f _ (.inl (by simp [Drive.off])) (k.drive f _ (.inl rfl) h)

theorem endStopping (f : FnId) (h : P s) : P (s.endStopping f) := k.act (k.toIdle _ f h)

theorem enterStopping (f : FnId) (c : FaultCode) (h : P s) : P (s.enterStopping f c) := by
  have first : P (s.act (State.onFn f (fun x => { x.quiet with motion := .stopping, fault := c }))) :=
    k.act (k.fn f _ (.inr (.of_powered rfl rfl)) h)
  unfold State.enterStopping
  dsimp only
  split
  · exact k.endStopping f first
  · exact first

theorem immediateStop (f : FnId) (h : P s) : P (s.immediateStop f) := by
  unfold State.immediateStop
  dsimp only
  split
  · generalize (if (s.fns[f]).fault.latched then (s.fns[f]).fault else FaultCode.stopped) = code
    have first : P (s.act (fun t => (t.toIdle .rest f).onFn f (fun y => { y with fault := code }))) :=
      k.act (k.fn f _ (.inr (.of_eq rfl rfl)) (k.toIdle .rest f h))
    split
    · refine k.act (k.fn f _ (.inr (.of_flat ?_)) first)
      simp [State.toIdle, Motion.flat, Motion.moving]
    · exact first
  · split
    · exact k.act (k.toIdle .rest f h)
    · exact h

theorem halt (f : FnId) (h : P s) : P (s.halt f) := by
  unfold State.halt
  split
  · exact k.act (k.toIdle .rest f h)
  · exact k.enterStopping f _ h
  · exact k.enterStopping f _ h
  · exact k.enterStopping f _ h
  · exact h

theorem leaveRest (f : FnId) (d : Dir) (m : (s.fns[f]).motion = .rest) (h : P s) : P (s.leaveRest f d) :=
  k.act (k.fn f _ (.inr (.of_flat (by rw [m]; rfl))) h)

theorem enterPressurise (f : FnId) (h : P s) : P (s.enterPressurise f) := by
  have first := k.drive f (fun _ => { Drive.off with phase := .pullIn, pullIn := some (s.profile f).pullIn }) (.inl rfl) h
  refine k.act (op := fun t => (t.onFn f _).onDrive f _) ?_
  exact k.fn f (fun x => { x with
    motion := .pressurise, grantWait := none, pressurise := some (s.profile f).pressuriseTimeout })
    (.inl (by simp [Drive.off])) first

theorem enterTravel (f : FnId) (m : (s.fns[f]).motion = .pressurise) (h : P s) : P (s.enterTravel f) :=
  k.act (k.fn f _ (.inr (.of_flat (by rw [m]; rfl))) h)

theorem endSeat (f : FnId) (h : P s) : P (s.endSeat f) := by
  unfold State.endSeat
  split
  · exact k.enterStopping f _ h
  · exact k.act (k.toIdle .rest f h)

theorem enterSeat (f : FnId) (h : P s) : P (s.enterSeat f) := by
  have first : P (s.act (State.onFn f (fun x => { x.quiet with motion := .seat, seat := some (s.profile f).seatTime }))) :=
    k.act (k.fn f _ (.inr (.of_powered rfl rfl)) h)
  unfold State.enterSeat
  dsimp only
  split
  · exact k.endSeat f first
  · exact first

theorem releaseAt (f : FnId) (h : P s) : P (s.releaseAt f) := by
  have released : ∀ b : Bool, P (s.onFn f (fun x => { x with released := b })) := fun b =>
    k.fn f _ (.inr (.of_eq rfl rfl)) h
  unfold State.releaseAt
  split
  · split
    · exact released false
    · split
      · exact released true
      · exact h
  · exact h

theorem pumpNoticeAt (f : FnId) (h : P s) : P (s.pumpNoticeAt f) := by
  have lost : P (if s.holdsGrant f then s else s.enterStopping f .grantLost) := by
    split
    · exact h
    · exact k.enterStopping f _ h
  unfold State.pumpNoticeAt
  split
  · split
    · exact k.enterPressurise f h
    · exact h
  · exact lost
  · exact lost
  · exact lost
  · exact h

/-! ## Evaluations -/

theorem evaluate (h : P s) : P s.evaluate := by
  unfold State.evaluate
  split
  next a => exact k.act (k.guard a h)
  · exact h

theorem permitStop {f : FnId} {d : Dir} {t : State} (h : P s) (e : s.permitStop f d = some t) : P t := by
  unfold State.permitStop at e
  dsimp only at e
  split at e
  · cases e
  · cases e; exact k.enterStopping f _ h

theorem demandStop {f : FnId} {d : Dir} {t : State} (h : P s) (e : s.demandStop f d = some t) : P t := by
  unfold State.demandStop at e
  split at e
  · cases e
  · split at e
    · cases e; exact k.enterSeat f h
    · cases e; exact k.enterStopping f _ h

theorem stopFor {f : FnId} {d : Dir} {t : State} (h : P s) (e : s.stopFor f d = some t) : P t := by
  unfold State.stopFor at e
  split at e <;> rcases Option.or_eq_some_iff.mp e with e | ⟨_, e⟩
  · exact k.permitStop h e
  · exact k.demandStop h e
  · exact k.demandStop h e
  · exact k.permitStop h e

theorem react {f : FnId} {t : State} (h : P s) (e : s.react f = some t) : P t := by
  unfold State.react at e
  split at e
  next m =>
    split at e
    · cases e; exact k.leaveRest f _ m h
    · split at e
      · cases e; exact k.leaveRest f _ m h
      · cases e
  next =>
    split at e
    · cases e
    · cases e; exact k.act (k.toIdle .rest f h)
  next => exact k.stopFor h e
  next => exact k.stopFor h e
  next => exact k.stopFor h e
  next => cases e

theorem sweep (fs : List FnId) : ∀ {s : State}, P s → P (State.sweep fs s).1 := by
  induction fs with
  | nil => exact id
  | cons f fs ih =>
    intro s h
    unfold State.sweep
    split
    · exact ih h
    next e => exact ih (k.evaluate (k.react h e))

theorem settleRounds (n : Nat) : ∀ {s : State}, P s → P (State.settleRounds n s) := by
  induction n with
  | zero => exact id
  | succ n ih =>
    intro s h
    have swept := k.sweep s.choice.functions h
    unfold State.settleRounds
    split
    next e => rw [e] at swept; exact ih swept
    next e => rw [e] at swept; exact swept

theorem settle (h : P s) : P s.settle := by
  unfold State.settle
  split
  · exact k.settleRounds _ (k.evaluate h)
  · exact h

/-! ## Every function in turn -/

omit k in
theorem eachFn {op : FnId → State → State} (ho : ∀ (f : FnId) {t : State}, P t → P (op f t)) (h : P s) : P (s.eachFn op) :=
  ho 3 (ho 2 (ho 1 (ho 0 h)))

omit k in
theorem foldl {α : Type} {op : α → State → State} (ho : ∀ (a : α) {t : State}, P t → P (op a t)) (as : List α) :
    ∀ {s : State}, P s → P (as.foldl (fun t a => op a t) s) := by
  induction as with
  | nil => exact id
  | cons a as ih => exact fun h => ih (ho a h)

theorem stopNow (h : P s) : P s.stopNow := k.still (eachFn (fun f _ => k.immediateStop f) h)

/-! ## The flow arbiter -/

theorem arbitrate (h : P s) : P s.arbitrate := by
  unfold State.arbitrate
  split
  · exact k.act (k.flow _ h)
  · exact h

theorem pumpEnters (p : PumpId) (m : PumpState) (h : P s) : P (s.pumpEnters p m) := k.act (k.flow _ h)

theorem pumpGateStop (p : PumpId) (h : P s) : P (s.pumpGateStop p) := by
  unfold State.pumpGateStop
  split
  · exact k.pumpEnters p _ h
  · exact h

theorem gateEdge (old : State) (h : P s) : P (State.gateEdge old s) := by
  unfold State.gateEdge
  split
  · split
    · exact k.arbitrate (k.pumpGateStop .b (k.pumpGateStop .a h))
    · split
      · exact k.arbitrate h
      · exact h
  · exact h

theorem pumpReset (p : PumpId) (h : P s) : P (s.pumpReset p) := by
  unfold State.pumpReset
  split
  · exact k.pumpEnters p _ h
  · exact h

/-! ## Notices of the image -/

theorem releaseNotice (n : StationId) (h : P s) : P (s.releaseNotice n) := by
  unfold State.releaseNotice
  split
  · exact eachFn (fun f _ => k.releaseAt f) h
  · exact h

theorem pumpNotice (n : StationId) (h : P s) : P (s.pumpNotice n) := by
  unfold State.pumpNotice
  split
  · exact foldl (fun f _ => k.pumpNoticeAt f) _ h
  · exact h

theorem claimNotice (n : StationId) (h : P s) : P (s.claimNotice n) := by
  unfold State.claimNotice
  split
  · exact k.arbitrate h
  · exact h

theorem changeNotice (n : StationId) (h : P s) : P (s.changeNotice n) := by
  have released := k.releaseNotice n h
  unfold State.changeNotice
  dsimp only
  refine k.settle (k.claimNotice n (k.pumpNotice n ?_))
  split
  · exact k.settle released
  · exact released

theorem loneChanged (h : P s) : P s.loneChanged := by
  have first : P (if s.choice.guardFirst then s.settle else s) := by
    split
    · exact k.settle h
    · exact h
  unfold State.loneChanged
  dsimp only
  generalize (if s.choice.guardFirst then s.settle else s) = t at first
  refine k.settle (k.arbitrate ?_)
  split
  · exact eachFn (fun f _ => k.halt f) first
  · exact first

end Kept

/-! ## Trips and faults -/

/-- The primitive changes of a trip keep the predicate as well (R55, R151, R152). -/
structure KeptTrips (P : State → Prop) : Prop extends Kept P where
  trips : ∀ {s : State} (v : Vector (Option StopClass) 16), P s → P (s.onUnit (fun u => { u with trips := v }))
  asserted : ∀ {s : State}, s.isActive = true → P s → P (s.onUnit (fun u => { u with tripAsserted := true }))
  queue : ∀ {s : State} (r : TripReason), P s → P (s.queueTrip r)

namespace Kept

variable {P : State → Prop} (k : Kept P) {s : State}
include k

theorem tripGained (old : State) (c : Option StopClass) (h : P s) : P (State.tripGained old c s) := by
  unfold State.tripGained
  split
  · exact h
  · exact k.gateEdge old (k.stopNow h)
  · exact eachFn (fun f _ => k.halt f) h

/-- A latched fault is taken, up to the rise of a trip cause (R125). -/
theorem faultTaken (f : FnId) (c : FaultCode) (rise : c.raisesTrip = true → ∀ {t : State}, P t → P t.raiseCause) (h : P s) :
    P (s.takeLatched f c) := by
  have shown : P (s.act (State.onFn f (fun x => { x with fault := shownFault (s.fns[f]).fault c }))) :=
    k.act (k.fn f _ (.inr (.of_eq rfl rfl)) h)
  have risen : ∀ {t : State}, P t → P (if c.raisesTrip = true then t.raiseCause else t) := by
    intro t ht
    split
    next r => exact rise r ht
    · exact ht
  unfold State.takeLatched
  dsimp only
  apply risen
  split
  · split
    · exact k.act (k.toIdle _ f shown)
    · exact shown
  · exact k.act (k.toIdle _ f shown)
  · exact k.enterStopping f _ shown
  · exact k.enterStopping f _ shown
  · exact k.enterStopping f _ shown
  · exact shown

/-- A latched fault that is no trip cause is taken. -/
theorem takeLatched (f : FnId) {c : FaultCode} (nr : c.raisesTrip = false) (h : P s) : P (s.takeLatched f c) :=
  k.faultTaken f c (fun r => by rw [nr] at r; cases r) h

theorem retake (f : FnId) (h : P s) : P (s.retake f) := by
  have taken : P (if s.outOfBand f then
      (s.act (State.onFnField f (fun y => { y with position := Config.noPosition }))).takeLatched f .transducer else s) := by
    split
    · exact k.takeLatched f rfl (k.act (k.fnField f _ h))
    · exact h
  unfold State.retake
  extract_lets t
  split
  · exact k.takeLatched f rfl taken
  · exact taken

theorem clearFault (f : FnId) (h : P s) : P (s.clearFault f) := by
  unfold State.clearFault
  dsimp only
  split
  next c =>
    refine k.retake f (k.act (k.fn f _ (.inr (.of_flat ?_)) (k.fnField f _ h)))
    obtain ⟨m | m, -⟩ := c <;> simp [Motion.flat, Motion.moving] at m ⊢ <;> simp [m]
  · exact h

theorem holdLatched (f : FnId) (h : P s) : P (s.holdLatched f) := by
  unfold State.holdLatched
  split
  · exact k.act (k.toIdle _ f h)
  · exact h

/-- The end state of a function is derived again (R98, R99). -/
theorem refreshEnd (f : FnId) (h : P s) : P (s.refreshEnd f) := by
  unfold State.refreshEnd
  dsimp only
  split
  · exact h
  · exact k.act (k.fn f _ (.inr (Fn.endChanged_slides _ _ _)) (k.fnField f _ h))

theorem endInput (i : InputId) (f : FnId) (d : Dir) (h : P s) : P (s.endInput i f d) := by
  unfold State.endInput
  split
  · exact h
  · split
    · exact h
    · split
      · exact k.fnField f _ h
      · exact h

theorem endInputs (i : InputId) (f : FnId) (h : P s) : P (s.endInputs i f) :=
  k.refreshEnd f (k.endInput i f .toClose (k.endInput i f .toOpen h))

theorem takePressure (p : Nat) (f : FnId) (h : P s) : P (s.takePressure p f) := by
  unfold State.takePressure
  split
  next c => exact k.enterTravel f c.1 h
  · exact h

theorem pumpInputAt (i : InputId) (p : PumpId) (h : P s) : P (s.pumpInputAt i p) := by
  unfold State.pumpInputAt
  dsimp only
  split
  · exact k.pumpEnters p _ h
  · exact h

theorem pumpInput (i : InputId) (h : P s) : P (s.pumpInput i) := by
  have both := k.pumpInputAt i .b (k.pumpInputAt i .a h)
  unfold State.pumpInput
  split
  · dsimp only
    split
    · exact k.arbitrate both
    · exact both
  · exact h

theorem idleStop (p : PumpId) (h : P s) : P (s.idleStop p) := by
  unfold State.idleStop
  split
  · exact k.pumpEnters p _ h
  · exact h

/-- The removal checks, for a predicate that a change of the trip list keeps (R154). -/
theorem removeTrips (trips : ∀ {t : State} (v : Vector (Option StopClass) 16), P t → P (t.onUnit (fun u => { u with trips := v })))
    (ns : List StationId) (h : P s) : P (s.removeTrips ns) := by
  refine k.gateEdge s (Kept.foldl (fun n t ht => ?_) ns h)
  unfold State.removeTrip
  split
  · exact trips _ ht
  · exact ht

/-- A RESET arrival, for a predicate that a change of the trip list and of the reset window, and the end of RESTART_HOLD and of
TRIP_ASSERTED in ACTIVE, keep (R150, R153). -/
theorem resetArrival (trips : ∀ {t : State} (v : Vector (Option StopClass) 16), P t → P (t.onUnit (fun u => { u with trips := v })))
    (window : ∀ {t : State} (w : Timer), P t → P (t.onUnit (fun u => { u with resetWindow := w })))
    (hold : ∀ {t : State}, t.isActive = true → P t → P (t.onUnit (fun u => { u with restartHold := false })))
    (asserted : ∀ {t : State}, t.isActive = true → P t → P (t.onUnit (fun u => { u with tripAsserted := false })))
    (h : P s) : P s.resetArrival := by
  have flags : ∀ {t : State}, P t → P t.resetFlags := by
    intro t ht
    unfold State.resetFlags
    split
    next a =>
      have cleared := k.act (hold a ht)
      dsimp only
      split
      · exact k.act (asserted (by rw [act_isActive]; exact a) cleared)
      · exact cleared
    · exact ht
  have cleared : P (s.eachFn State.clearFault) := Kept.eachFn (fun f _ => k.clearFault f) h
  have opened := window (some s.timing.intentLease) (flags (k.pumpReset .b (k.pumpReset .a cleared)))
  unfold State.resetArrival
  extract_lets s1 s2 s3 s4
  have computed : P s4 := by
    unfold s4
    split
    · exact k.arbitrate opened
    · exact opened
  exact k.settle (k.removeTrips trips stations computed)

end Kept

namespace KeptTrips

variable {P : State → Prop} (k : KeptTrips P) {s : State}
include k

theorem enterTrip (n : StationId) (c : StopClass) (h : P s) : P (s.enterTrip n c) :=
  k.toKept.tripGained s _ (k.trips _ h)

theorem raiseCause (h : P s) : P s.raiseCause := by
  unfold State.raiseCause
  split
  next a =>
    split
    · exact h
    · exact k.queue _ (k.enterTrip _ _ (k.act (k.asserted a h)))
  · exact h

theorem raiseCauses (n : Nat) : ∀ {s : State}, P s → P (State.raiseCauses n s) := by
  induction n with
  | zero => exact id
  | succ n ih => exact fun h => ih (k.raiseCause h)

theorem requeueTrip (h : P s) : P s.requeueTrip := by
  unfold State.requeueTrip
  split
  · exact k.queue _ h
  · exact h

theorem takeLatched (f : FnId) (c : FaultCode) (h : P s) : P (s.takeLatched f c) :=
  k.faultTaken f c (fun _ => k.raiseCause) h

theorem removeTrips (ns : List StationId) (h : P s) : P (s.removeTrips ns) := k.toKept.removeTrips k.trips ns h

theorem statusNotice (n : StationId) (h : P s) : P (s.statusNotice n) := k.settle (k.removeTrips [n] h)

theorem supervise (f : FnId) (h : P s) : P (s.supervise f) := by
  unfold State.supervise
  dsimp only
  split
  next m =>
    split
    · exact h
    · split
      · exact k.takeLatched f _ h
      · refine k.act (k.fn f _ (.inr (.of_powered ?_ rfl)) h)
        dsimp only
        split <;> rfl
  · exact h

theorem convert (f : FnId) (x : FnSetup) (raw : Reading) (h : P s) : P (s.convert f x raw) := by
  have read : P (s.onFnField f (fun y => { y with lastRaw := some (unclamped x raw) })) := k.fnField f _ h
  unfold State.convert
  dsimp only
  split
  · exact read
  · split
    · exact k.takeLatched f _ (k.act (k.fnField f _ read))
    · split
      · exact read
      · exact k.supervise f (k.act (k.fnField f _ read))

/-- The stages 2 to 5 of a control period, for a predicate that a new level keeps (R129). -/
theorem driveStages (f : FnId) (ramp : ∀ {t : State} (p : PulseGen), P t →
    P (t.onDrive f (fun x => { x with level := t.nextLevel f, prop := p }))) (h : P s) : P (s.driveStages f) := by
  have tripped : P (if s.skewTrips f then s.takeLatched f .skew else s) := by
    split
    · exact k.takeLatched f _ h
    · exact h
  unfold State.driveStages
  dsimp only
  generalize (if s.skewTrips f then s.takeLatched f .skew else s) = t at tripped
  split
  · have ramped := ramp ((t.drive[f]).prop.hand s.timing.pwm (t.nextLevel f)) tripped
    split
    · exact k.endStopping f ramped
    · exact ramped
  · exact tripped

/-- A station-wide stop (R104, R107). -/
theorem stationStop (old : State) (h : P s) : P (State.stationStop old s) := by
  unfold State.stationStop
  split
  · exact k.settle (k.raiseCause (k.gateEdge old (k.stopNow h)))
  · exact h

end KeptTrips

end Sys2Proof.Machine
end

section
/-! What the commands of chapters 4 to 10 keep, for every predicate that the primitive changes of an event keep. -/

namespace Sys2Proof.Machine

/-- An event ends in a state of the predicate, but for the dump valve (R140). -/
def Leads (P : State → Prop) (o : Host.Outcome State Fault Refusal) : Prop := ∃ u : State, o = done u ∧ P u

theorem Leads.done {P : State → Prop} {u : State} (h : P u) : Leads P (done u) := ⟨u, rfl, h⟩

/-- The state that an event leaves has the predicate, where the dump valve is no matter of it. -/
theorem Leads.next {P : State → Prop} {o : Host.Outcome State Fault Refusal} {t : State} (h : Leads P o)
    (finish : ∀ u : State, P u → P u.finish) (e : o = .next t) : P t := by
  obtain ⟨u, rfl, hu⟩ := h
  cases e
  exact finish u hu

/-- A command whose event may be one that cannot arise leads where both cases do. -/
theorem Leads.ite {P : State → Prop} {c : Prop} [Decidable c] {o p : Host.Outcome State Fault Refusal}
    (a : c → Leads P o) (b : ¬c → Leads P p) : Leads P (if c then o else p) := by
  split
  next h => exact a h
  next h => exact b h

/-- The primitive changes of the field inputs, the panel, the image, the intent table, the ramp and the requests for frames keep
the predicate as well. -/
structure KeptEvents (P : State → Prop) : Prop extends KeptTrips P where
  field : ∀ {s : State} (g : FieldInputs → FieldInputs), P s → P (s.onField g)
  panel : ∀ {s : State} (g : Panel → Panel), P s → P (s.onPanel g)
  entry : ∀ {s : State} (n : StationId) (g : Entry → Entry), P s → P (s.onEntry n g)
  flash : ∀ {s : State} (h : Option Half), P s → P { s with guard := { s.guard with flash := h } }
  table : ∀ {s : State} (v : Vector (Option IntentEntry) 16) (e : Option IntentKind), P s →
    P (s.onUnit (fun u => { u with table := v, effective := e }))
  window : ∀ {s : State} (w : Timer), P s → P (s.onUnit (fun u => { u with resetWindow := w }))
  intent : ∀ {s : State} (i : IntentKind), P s → P (s.queueIntent i)
  announce : ∀ {s : State} (ask : Bool), P s → P (s.queueAnnounce ask)
  ramp : ∀ {s : State} (f : FnId) (p : PulseGen), P s → P (s.onDrive f (fun x => { x with level := s.nextLevel f, prop := p }))

namespace KeptEvents

/-- The commands of the life cycle, the line, the arrivals, the sends and the publisher. -/
def ofLoop : Instr → Bool
  | .ageExpiry _ => false
  | .flashTimerExpiry => false
  | .inputLevelChange _ _ => false
  | .debounceExpiry _ => false
  | .discrepancyExpiry _ _ => false
  | .controlPeriod _ _ => false
  | .pressureConversion _ => false
  | .stopLoopOpening => false
  | .stopLoopReadsClosed => false
  | .stopLoopClosingExpiry => false
  | .supplyFallsBelow19V => false
  | .supplyBackAt19V => false
  | .supplyRisesTo20V => false
  | .supplyFallsBelow20V => false
  | .lowTimerExpiry => false
  | .recoveryTimerExpiry => false
  | .grantWaitExpiry _ => false
  | .pressuriseTimeout _ => false
  | .strokeTimeout _ => false
  | .stallWindowExpiry _ => false
  | .seatTimerExpiry _ => false
  | .pullInExpiry _ => false
  | .intentRefreshExpiry => false
  | .intentLeaseExpiry _ => false
  | .resetWindowExpiry => false
  | .runUpExpiry _ => false
  | .idleTimerExpiry => false
  | .pulseTimeExpiry _ => false
  | _ => true

variable {P : State → Prop} (k : KeptEvents P) {s : State}
include k

/-! ## Arrivals and the image (chapters 4 and 9) -/

theorem writeIntent (n : StationId) (e : Option IntentEntry) (h : P s) : P (s.writeIntent n e) := k.table _ _ h

theorem takeStatus (n : StationId) (b : Byte) (r : Record) (h : P s) : P (s.takeStatus n b r) := by
  have unverified : P ((s.onEntry n (fun e => { e with state := .unverified, age := some s.timing.stale })).queueAnnounce
      true) := k.announce true (k.entry n _ h)
  have absorbed := k.entry n (Entry.absorb s.timing.stale b (if s.cfg.subscription.contains n then some r else none)) h
  have changed := k.statusNotice n (k.changeNotice n absorbed)
  unfold State.takeStatus
  extract_lets e kept
  split
  · exact unverified
  · exact unverified
  · exact changed
  · exact changed
  · split
    · exact k.statusNotice n absorbed
    · exact changed
  · exact h

theorem statusDelivered (f : Frame) (h : P s) : P (s.statusDelivered f) := by
  unfold State.statusDelivered
  split
  · split
    · exact k.takeStatus _ _ _ h
    · exact h
  · exact h

theorem takeAnnounce (n : StationId) (a : AnnounceFrame) (h : P s) : P (s.takeAnnounce n a) := by
  have written := k.entry n (fun _ => Entry.announced (s.refuses n a) a.role) h
  unfold State.takeAnnounce
  extract_lets e s1 s2
  have answered : P s2 := by
    unfold s2
    split
    · exact k.announce false written
    · exact written
  split
  · exact answered
  · exact k.changeNotice n answered

theorem announceDelivered (f : Frame) (h : P s) : P (s.announceDelivered f) := by
  unfold State.announceDelivered
  split
  · exact k.takeAnnounce _ _ h
  · exact h

theorem tripDelivered (f : Frame) (h : P s) : P (s.tripDelivered f) := by
  unfold State.tripDelivered
  split
  · exact k.settle (k.enterTrip _ _ h)
  · exact h

/-- A RESET arrival, for a predicate that the end of RESTART_HOLD and of TRIP_ASSERTED in ACTIVE keeps (R150, R153). -/
theorem resetArrival (hold : ∀ {t : State}, t.isActive = true → P t → P (t.onUnit (fun u => { u with restartHold := false })))
    (asserted : ∀ {t : State}, t.isActive = true → P t → P (t.onUnit (fun u => { u with tripAsserted := false })))
    (h : P s) : P s.resetArrival :=
  k.toKept.resetArrival k.trips k.window hold asserted h

/-- An INTENT is judged, for a predicate that a RESET arrival keeps where the INTENT is one (R147). -/
theorem takeIntent (n : StationId) (i : IntentFrame)
    (reset : (s.entry n).state = .fresh → ∀ r : Role, (s.entry n).role = some r → r.allows .reset = true → i.kind = .reset →
      P s.resetArrival) (h : P s) : P (s.takeIntent n i) := by
  have written := fun e : Option IntentEntry => k.settle (k.writeIntent n e h)
  unfold State.takeIntent
  extract_lets e
  split
  · exact h
  next r hr =>
    split
    next c =>
      split
      · exact written none
      next er =>
        have ir : i.kind = .reset := by
          unfold IntentFrame.entered at er
          split at er <;> simp_all
        exact reset c.1 r hr (ir ▸ c.2) ir
      · exact written _
    · exact h

theorem ageExpiry (n : StationId) (h : P s) : Leads P (execAgeExpiry n s) := by
  unfold execAgeExpiry
  refine .ite (fun _ => ?_) (fun _ => .done h)
  split
  · exact .done (k.changeNotice n (k.entry n _ h))
  · exact .done (k.entry n _ h)
  · exact .done h

theorem flashTimerExpiry (h : P s) : Leads P (execFlashTimerExpiry s) := .done (k.flash _ h)

/-! ## Field inputs (chapter 6) -/

theorem inputLevelChange (i : InputId) (high : Bool) (h : P s) : Leads P (execInputLevelChange i high s) :=
  .ite (fun _ => .done (k.field _ (k.field _ h))) (fun _ => .done (k.field _ h))

theorem formHeld (h : P s) : P s.formHeld := by
  unfold State.formHeld
  dsimp only
  split
  · exact h
  · exact k.intent _ (k.panel _ h)

theorem pressReset (i : InputId) (h : P s) : P (s.pressReset i) := by
  unfold State.pressReset
  split
  · exact k.intent _ h
  · exact h

theorem panelInput (i : InputId) (h : P s) : P (s.panelInput i) := by
  have rearmed : P (s.rearmed i) := by
    unfold State.rearmed
    exact k.panel _ h
  unfold State.panelInput
  split
  · exact k.formHeld (k.pressReset i (k.act (k.panel _ rearmed)))
  · exact h

theorem acceptedChange (i : InputId) (h : P s) : P (s.acceptedChange i) :=
  k.settle (k.panelInput i (k.pumpInput i (Kept.eachFn (fun f _ => k.endInputs i f) (k.act (k.field _ h)))))

theorem debounceExpiry (i : InputId) (h : P s) : Leads P (execDebounceExpiry i s) :=
  .ite (fun _ => .done (k.acceptedChange i h)) (fun _ => .done h)

theorem discrepancyExpiry (f : FnId) (e : Dir) (h : P s) : Leads P (execDiscrepancyExpiry f e s) :=
  .ite (fun _ => .done (k.settle (k.toKeptTrips.takeLatched f _ (k.refreshEnd f (k.fnField f _ h))))) (fun _ => .done h)

theorem stopLoopOpening (h : P s) : Leads P (execStopLoopOpening s) := by
  have opened := k.field (fun x => { x with lines := { x.lines with stopLoopClosed := false } }) h
  exact .ite (fun _ => .ite (fun _ => .done (k.stationStop s (k.act (k.field _ opened)))) (fun _ => .done (k.field _ opened)))
    (fun _ => .done opened)

theorem stopLoopReadsClosed (h : P s) : Leads P (execStopLoopReadsClosed s) :=
  .ite (fun _ => .done (k.field _ (k.field _ h))) (fun _ => .done (k.field _ h))

theorem stopLoopClosingExpiry (h : P s) : Leads P (execStopLoopClosingExpiry s) :=
  .ite (fun _ => .done (k.settle (k.gateEdge s (k.act (k.field _ h))))) (fun _ => .done h)

theorem supplyBand (b : SupplyBand) (h : P s) : P (s.supplyBand b) := k.field _ h

theorem supplyFallsBelow19V (h : P s) : Leads P (execSupplyFallsBelow19V s) := by
  have crossed := k.supplyBand .below19 h
  exact .ite (fun _ => .ite (fun _ => .done (k.field _ crossed)) (fun _ => .done (k.field _ crossed))) (fun _ => .done crossed)

theorem supplyBackAt19V (h : P s) : Leads P (execSupplyBackAt19V s) := by
  have crossed := k.supplyBand .from19to20 h
  exact .ite (fun _ => .ite (fun _ => .done (k.field _ crossed)) (fun _ => .done crossed)) (fun _ => .done h)

theorem supplyRisesTo20V (h : P s) : Leads P (execSupplyRisesTo20V s) := by
  have crossed := k.supplyBand .from20 h
  exact .ite (fun _ => .ite (fun _ => .done (k.field _ crossed)) (fun _ => .done (k.field _ crossed))) (fun _ => .done crossed)

theorem supplyFallsBelow20V (h : P s) : Leads P (execSupplyFallsBelow20V s) := by
  have crossed := k.supplyBand .from19to20 h
  exact .ite (fun _ => .ite (fun _ => .done (k.field _ crossed)) (fun _ => .done crossed)) (fun _ => .done h)

theorem lowTimerExpiry (h : P s) : Leads P (execLowTimerExpiry s) :=
  .ite (fun _ => .done (k.stationStop s (k.act (k.field _ h)))) (fun _ => .done h)

theorem recoveryTimerExpiry (h : P s) : Leads P (execRecoveryTimerExpiry s) :=
  .ite (fun _ => .done (k.settle (k.gateEdge s (k.act (k.field _ h))))) (fun _ => .done h)

/-! ## Function motion and valve drive (chapters 7 and 8) -/

theorem controlPeriod (f : FnId) (raw : Reading) (h : P s) : Leads P (execControlPeriod f raw s) := by
  unfold execControlPeriod
  split
  next x _ =>
    refine .ite (fun _ => .done (k.settle (k.driveStages f (k.ramp f) (k.settle (k.convert f x raw (k.field _ h))))))
      (fun _ => .done h)
  · exact .done h

theorem pressureConversion (raw : Reading) (h : P s) : Leads P (execPressureConversion raw s) :=
  .ite (fun _ => .done (k.settle (Kept.eachFn (fun f _ => k.takePressure _ f) (k.field _ h)))) (fun _ => .done h)

theorem grantWaitExpiry (f : FnId) (h : P s) : Leads P (execGrantWaitExpiry f s) :=
  .ite (fun _ => .done (k.settle (k.toKeptTrips.takeLatched f _ h))) (fun _ => .done h)

theorem pressuriseTimeout (f : FnId) (h : P s) : Leads P (execPressuriseTimeout f s) :=
  .ite (fun _ => .done (k.settle (k.toKeptTrips.takeLatched f _ h))) (fun _ => .done h)

theorem strokeTimeout (f : FnId) (h : P s) : Leads P (execStrokeTimeout f s) :=
  .ite (fun _ => .done (k.settle (k.toKeptTrips.takeLatched f _ h))) (fun _ => .done h)

theorem stallWindowExpiry (f : FnId) (h : P s) : Leads P (execStallWindowExpiry f s) :=
  .ite (fun _ => .done (k.settle (k.toKeptTrips.takeLatched f _ h))) (fun _ => .done h)

theorem seatTimerExpiry (f : FnId) (h : P s) : Leads P (execSeatTimerExpiry f s) :=
  .ite (fun _ => .done (k.settle (k.endSeat f h))) (fun _ => .done h)

theorem pullInExpiry (f : FnId) (h : P s) : Leads P (execPullInExpiry f s) :=
  .ite (fun _ => .done (k.drive f _ (.inr rfl) h)) (fun _ => .done h)

theorem pulseTimeExpiry (g : Generator) (h : P s) : Leads P (execPulseTimeExpiry g s) := by
  cases g with
  | proportional f => exact .done (k.drive f _ (.inr rfl) h)
  | solenoid f => exact .done (k.drive f _ (.inr rfl) h)

/-! ## Panels, intents and pumps (chapters 9 and 10) -/

theorem intentRefreshExpiry (h : P s) : Leads P (execIntentRefreshExpiry s) := by
  have stopped := k.panel (fun p => { p with refresh := none, refreshKind := none }) h
  unfold execIntentRefreshExpiry
  refine .ite (fun _ => ?_) (fun _ => .done h)
  dsimp only
  split
  · exact .ite (fun _ => .done (k.intent _ stopped)) (fun _ => .done stopped)
  · exact .done stopped

theorem intentLeaseExpiry (n : StationId) (h : P s) : Leads P (execIntentLeaseExpiry n s) :=
  .ite (fun _ => .done (k.settle (k.writeIntent n none h))) (fun _ => .done h)

theorem resetWindowExpiry (h : P s) : Leads P (execResetWindowExpiry s) := .done (k.window none h)

theorem runUpExpiry (p : PumpId) (h : P s) : Leads P (execRunUpExpiry p s) :=
  .ite (fun _ => .done (k.settle (k.arbitrate (k.pumpEnters p _ h)))) (fun _ => .done h)

theorem idleTimerExpiry (h : P s) : Leads P (execIdleTimerExpiry s) :=
  .ite (fun _ => .done (k.settle (k.arbitrate (k.idleStop .b (k.idleStop .a (k.flow _ h)))))) (fun _ => .done h)

/-! ## The commands together -/

/-- Every command keeps the predicate, where those of the loop interface do. -/
theorem exec (c : Instr) (h : P s) (loop : ofLoop c = true → Leads P (Machine.exec c s)) : Leads P (Machine.exec c s) := by
  cases c with
  | ageExpiry n => exact k.ageExpiry n h
  | flashTimerExpiry => exact k.flashTimerExpiry h
  | inputLevelChange i b => exact k.inputLevelChange i b h
  | debounceExpiry i => exact k.debounceExpiry i h
  | discrepancyExpiry f e => exact k.discrepancyExpiry f e h
  | controlPeriod f r => exact k.controlPeriod f r h
  | pressureConversion r => exact k.pressureConversion r h
  | stopLoopOpening => exact k.stopLoopOpening h
  | stopLoopReadsClosed => exact k.stopLoopReadsClosed h
  | stopLoopClosingExpiry => exact k.stopLoopClosingExpiry h
  | supplyFallsBelow19V => exact k.supplyFallsBelow19V h
  | supplyBackAt19V => exact k.supplyBackAt19V h
  | supplyRisesTo20V => exact k.supplyRisesTo20V h
  | supplyFallsBelow20V => exact k.supplyFallsBelow20V h
  | lowTimerExpiry => exact k.lowTimerExpiry h
  | recoveryTimerExpiry => exact k.recoveryTimerExpiry h
  | grantWaitExpiry f => exact k.grantWaitExpiry f h
  | pressuriseTimeout f => exact k.pressuriseTimeout f h
  | strokeTimeout f => exact k.strokeTimeout f h
  | stallWindowExpiry f => exact k.stallWindowExpiry f h
  | seatTimerExpiry f => exact k.seatTimerExpiry f h
  | pullInExpiry f => exact k.pullInExpiry f h
  | intentRefreshExpiry => exact k.intentRefreshExpiry h
  | intentLeaseExpiry n => exact k.intentLeaseExpiry n h
  | resetWindowExpiry => exact k.resetWindowExpiry h
  | runUpExpiry p => exact k.runUpExpiry p h
  | idleTimerExpiry => exact k.idleTimerExpiry h
  | pulseTimeExpiry g => exact k.pulseTimeExpiry g h
  | _ => exact loop rfl

end KeptEvents

end Sys2Proof.Machine
end

section
/-! What an event leaves alone outside ACTIVE: no STATUS, TRIP or INTENT is queued there and no guard is evaluated (R38, R88). -/

namespace Sys2Proof.Machine

/-- What the events of other blocks may change of a station that is not ACTIVE: functions, drives, the field inputs of the
functions, the arbiter and the trip list. -/
structure Inert (s t : State) : Prop where
  idle : s.isActive = false
  rest : t = { s with
    fns := t.fns, drive := t.drive, flow := t.flow, field := { s.field with fns := t.field.fns }
    unit := { s.unit with trips := t.unit.trips } }

theorem Inert.refl {s : State} (h : s.isActive = false) : Inert s s := ⟨h, rfl⟩

theorem Inert.trans {s t u : State} (h : Inert s t) (k : Inert t u) : Inert s u := by
  refine ⟨h.idle, ?_⟩
  have e := h.rest
  have e' := k.rest
  generalize t.fns = a, t.drive = b, t.flow = c, t.field.fns = d, t.unit.trips = x at e
  subst e
  generalize u.fns = a', u.drive = b', u.flow = c', u.field.fns = d', u.unit.trips = x' at e' ⊢
  subst e'
  rfl

theorem Inert.life {s t : State} (h : Inert s t) : t.life = s.life := by rw [h.rest]
theorem Inert.loop {s t : State} (h : Inert s t) : t.loop = s.loop := by rw [h.rest]
theorem Inert.pub {s t : State} (h : Inert s t) : t.pub = s.pub := by rw [h.rest]
theorem Inert.guard {s t : State} (h : Inert s t) : t.guard = s.guard := by rw [h.rest]
theorem Inert.panel {s t : State} (h : Inert s t) : t.panel = s.panel := by rw [h.rest]
theorem Inert.image {s t : State} (h : Inert s t) : t.image = s.image := by rw [h.rest]
theorem Inert.setup {s t : State} (h : Inert s t) : t.setup = s.setup := by rw [h.rest]
theorem Inert.goodFrames {s t : State} (h : Inert s t) : t.goodFrames = s.goodFrames := by rw [h.rest]
theorem Inert.unit {s t : State} (h : Inert s t) : t.unit = { s.unit with trips := t.unit.trips } := by
  conv => lhs; rw [h.rest]
theorem Inert.field {s t : State} (h : Inert s t) : t.field = { s.field with fns := t.field.fns } := by
  conv => lhs; rw [h.rest]

theorem Inert.isActive {s t : State} (h : Inert s t) : t.isActive = false := by
  unfold State.isActive
  rw [h.life]
  exact h.idle

theorem mayQueue_trip_inactive {s : State} (h : s.isActive = false) : s.mayQueue .trip = false := by
  simp [State.mayQueue, h]

/-- No TRIP is queued outside ACTIVE (R38). -/
theorem queueTrip_inactive (r : TripReason) {s : State} (h : s.isActive = false) : s.queueTrip r = s := by
  simp [State.queueTrip, mayQueue_trip_inactive h]

theorem inert_kept (s : State) : KeptTrips (Inert s) where
  cause h := by rw [statusCause_inactive h.isActive]; exact h
  guard a h := by rw [h.isActive] at a; cases a
  fn _ _ _ h := h.trans ⟨h.isActive, rfl⟩
  drive _ _ _ h := h.trans ⟨h.isActive, rfl⟩
  still h := h.trans ⟨h.isActive, rfl⟩
  fnField _ _ h := h.trans ⟨h.isActive, rfl⟩
  flow _ h := h.trans ⟨h.isActive, rfl⟩
  trips _ h := h.trans ⟨h.isActive, rfl⟩
  asserted a h := by rw [h.isActive] at a; cases a
  queue r h := by rw [queueTrip_inactive r h.isActive]; exact h

end Sys2Proof.Machine
end

section
/-! The parts of a good load (R11): the configuration kept, the first levels of the field inputs, the first values of the
functions, and the entry to JOINING. -/

namespace Sys2Proof.Machine

/-- The station that keeps a configuration, before its first levels (R11, R75). -/
def State.loadedWith (c : Setup) (s : State) : State :=
  { s with setup := some c, header := none, life := .joining, guard := .loaded c.own }

/-- The first levels and the first values of every function of a station with its configuration (R94, R98, R100). -/
def State.firsts (lines : FieldLines) (s : State) : State := (s.firstInputs lines).eachFn State.firstFn

theorem goodLoad_eq (c : Setup) (lines : FieldLines) (s : State) : s.goodLoad c lines =
    (((s.loadedWith c).firsts lines).onPanel (fun p => { p with
      selection := ((s.loadedWith c).firsts lines).selectionNow })).enterJoining := rfl

/-- The first levels are a change of the field inputs (R94, R103, R106). -/
theorem firstLevels_field (is : List InputId) : ∀ s : State,
    is.foldl (fun t i => t.firstLevel i) s = { s with field := (is.foldl (fun t i => t.firstLevel i) s).field } := by
  induction is with
  | nil => exact fun s => rfl
  | cons i is ih =>
    intro s
    have first : s.firstLevel i = { s with field := (s.firstLevel i).field } := by
      unfold State.firstLevel
      split <;> rfl
    rw [List.foldl_cons, ih, first]

theorem firstInputs_field (lines : FieldLines) (s : State) :
    s.firstInputs lines = { s with field := (s.firstInputs lines).field } := by
  have levels := firstLevels_field inputs (s.onField (fun x => { x with
    lines := lines, stopLoopClosed := lines.stopLoopClosed, supplyOk := lines.supply != .below19 }))
  unfold State.firstInputs
  dsimp only
  generalize (inputs.foldl _ _) = t at levels ⊢
  generalize t.field = x at levels ⊢
  exact levels

@[simp] theorem firstInputs_life (lines : FieldLines) (s : State) : (s.firstInputs lines).life = s.life := by
  rw [firstInputs_field]

@[simp] theorem firstInputs_loop (lines : FieldLines) (s : State) : (s.firstInputs lines).loop = s.loop := by
  rw [firstInputs_field]

@[simp] theorem firstInputs_pub (lines : FieldLines) (s : State) : (s.firstInputs lines).pub = s.pub := by
  rw [firstInputs_field]

/-- The first values of a function outside ACTIVE (R98, R100, R108). -/
theorem firstFn_inert (f : FnId) {s : State} (h : s.isActive = false) : Inert s (s.firstFn f) := by
  unfold State.firstFn
  split
  · exact .refl h
  · have first : Inert s ((s.onFn f (fun y => { y with motion := .rest })).onFnField f
        (fun y => { y with endState := s.endStateNow f })) := ⟨h, rfl⟩
    extract_lets s1
    split
    · exact (inert_kept s).convert f _ _ first
    · exact first

/-- So are the first values of all four, and the first levels come before them. -/
theorem firsts_inert (lines : FieldLines) {s : State} (h : s.isActive = false) : Inert (s.firstInputs lines) (s.firsts lines) := by
  have first : (s.firstInputs lines).isActive = false := by
    unfold State.isActive
    rw [firstInputs_life]
    exact h
  exact Kept.eachFn (P := Inert (s.firstInputs lines)) (op := State.firstFn)
    (fun f t ht => ht.trans (firstFn_inert f ht.isActive)) (Inert.refl first)

/-- A predicate that no field input and no entry to REST touches is kept by the first levels and values. -/
theorem KeptTrips.firsts {P : State → Prop} (k : KeptTrips P) {s : State} (lines : FieldLines)
    (field : ∀ {t : State} (x : FieldInputs), P t → P { t with field := x })
    (rest : ∀ {t : State} (f : FnId), P t → P (t.onFn f (fun y => { y with motion := .rest }))) (h : P s) :
    P (s.firsts lines) := by
  have levels : P (s.firstInputs lines) := by
    rw [firstInputs_field]
    exact field _ h
  refine Kept.eachFn (op := State.firstFn) (fun f t ht => ?_) levels
  have placed := k.fnField f (fun y => { y with endState := t.endStateNow f }) (rest f ht)
  unfold State.firstFn
  split
  · exact ht
  · dsimp only
    split
    · exact k.convert f _ _ placed
    · exact placed

end Sys2Proof.Machine
end

section
/-! The laws of the loop interface under every command (R15, R16, R18, R27, R35 to R38, R52). -/

namespace Sys2Proof.Machine

/-! ## Slots (R27) -/

@[simp] theorem Slot.isInFlight_request {α : Type} (c : α) (x : Slot α) : (x.request c).isInFlight = x.isInFlight := by
  cases x <;> rfl

@[simp] theorem isInFlight_statusRequest (x : Slot Unit) : (statusRequest x).isInFlight = x.isInFlight := by
  cases x <;> rfl

@[simp] theorem isInFlight_announceRequest (ask begun : Bool) (x : Slot Bool) :
    (announceRequest ask begun x).isInFlight = x.isInFlight := by
  cases x with
  | empty => rfl
  | waiting a => rfl
  | inFlight a successor =>
    unfold announceRequest
    dsimp only
    split
    · rfl
    · split <;> rfl

@[simp] theorem Slot.isInFlight_completed {α : Type} (x : Slot α) : x.completed.isInFlight = false := by
  rcases x with _ | _ | ⟨_, _ | _⟩ <;> rfl

@[simp] theorem Slot.isInFlight_returned {α : Type} (x : Slot α) : x.returned.isInFlight = false := by
  cases x <;> rfl

/-! ## Life cycle flags -/

theorem maySend_follows {s : State} (h : s.maySend = true) : s.follows = true := by
  unfold State.maySend State.isActive at h
  unfold State.follows State.running
  cases e : s.life <;> simp [e] at h ⊢

theorem isActive_maySend {s : State} (h : s.isActive = true) : s.maySend = true := by simp [State.maySend, h]

/-! ## The laws where an event leaves the loop interface or touches its slots only -/

/-- The laws read the loop interface, the publisher, the life cycle and the good frames only. -/
theorem LoopLaws.congr {s t : State} (h : LoopLaws s) (loop : t.loop = s.loop) (pub : t.pub = s.pub) (life : t.life = s.life)
    (good : t.goodFrames = s.goodFrames) : LoopLaws t := by
  have act : t.isActive = s.isActive := by unfold State.isActive; rw [life]
  have fol : t.follows = s.follows := by unfold State.follows State.running; rw [life]
  have may : t.maySend = s.maySend := by unfold State.maySend; rw [life, act]
  constructor
  case trip => rw [loop]; exact h.trip
  case intent => rw [loop]; exact h.intent
  case status => rw [loop]; exact h.status
  case announce => rw [loop]; exact h.announce
  case line => rw [loop, fol]; exact h.line
  case kinds => rw [loop, act]; exact h.kinds
  case silent => rw [loop, may]; exact h.silent
  case timers => rw [pub, act]; exact h.timers
  case aborts => rw [loop]; exact h.aborts
  case below => rw [loop, life]; exact h.below
  case unheard => rw [loop]; exact h.unheard
  case lone => rw [loop, act]; exact h.lone
  case good => rw [good, life]; exact h.good

/-- Requests change the content of the slots only, of TRIP, INTENT and STATUS in ACTIVE only, and of ANNOUNCE where the station
sends (R27, R38). -/
theorem LoopLaws.requests {s : State} (h : LoopLaws s) (g : Loop → Loop) (tr : Slot TripReason) (it : Slot IntentFrame)
    (st : Slot Unit) (an : Slot Bool) (e : g s.loop = { s.loop with trip := tr, intent := it, status := st, announce := an })
    (htr : tr.isInFlight = s.loop.trip.isInFlight) (hit : it.isInFlight = s.loop.intent.isInFlight)
    (hst : st.isInFlight = s.loop.status.isInFlight) (han : an.isInFlight = s.loop.announce.isInFlight)
    (idle : s.isActive = false → tr = s.loop.trip ∧ it = s.loop.intent ∧ st = s.loop.status)
    (mute : s.maySend = false → an = s.loop.announce) : LoopLaws (s.onLoop g) := by
  obtain ⟨trip, intent, status, announce, line, kinds, silent, timers, aborts, below, unheard, lone, good⟩ := h
  constructor <;> simp only [State.onLoop_loop, e, Loop.kind, State.onLoop_isActive, State.onLoop_maySend, State.onLoop_follows,
    State.onLoop_pub, State.onLoop_life, State.onLoop_goodFrames]
  case trip => rw [htr]; exact trip
  case intent => rw [hit]; exact intent
  case status => rw [hst]; exact status
  case announce => rw [han]; exact announce
  case line => exact line
  case kinds =>
    intro i
    obtain ⟨rfl, rfl, rfl⟩ := idle i
    exact kinds i
  case silent => intro m; rw [mute m]; exact silent m
  case timers => exact timers
  case aborts => exact aborts
  case below => exact below
  case unheard => exact unheard
  case lone => exact lone
  case good => exact good

/-- The publisher changes in ACTIVE, or with its timers stopped and its flags clear (R52). -/
theorem LoopLaws.onPub {s : State} (h : LoopLaws s) (g : Publisher → Publisher) (idle : s.isActive = false →
    (g s.pub).refresh = none ∧ (g s.pub).inhibitTimer = none ∧ (g s.pub).inhibit = false ∧ (g s.pub).deferred = false) :
    LoopLaws (s.onPub g) := by
  obtain ⟨trip, intent, status, announce, line, kinds, silent, timers, aborts, below, unheard, lone, good⟩ := h
  exact ⟨trip, intent, status, announce, line, kinds, silent, idle, aborts, below, unheard, lone, good⟩

theorem loopLaws_queueTrip {s : State} (r : TripReason) (h : LoopLaws s) : LoopLaws (s.queueTrip r) := by
  unfold State.queueTrip
  split
  next m =>
    have a : s.isActive = true := by simp [State.mayQueue] at m; exact m.1
    refine LoopLaws.congr (s := s.onLoop (fun x => { x with trip := x.trip.request r })) ?_ rfl rfl rfl rfl
    exact h.requests _ _ _ _ _ rfl (by simp) rfl rfl rfl (fun i => by rw [a] at i; cases i) (fun _ => rfl)
  · exact h

theorem loopLaws_queueIntent {s : State} (i : IntentKind) (h : LoopLaws s) : LoopLaws (s.queueIntent i) := by
  unfold State.queueIntent
  split
  next m =>
    have a : s.isActive = true := by simp [State.mayQueue] at m; exact m.1
    exact h.requests _ _ _ _ _ rfl rfl (by simp) rfl rfl (fun i => by rw [a] at i; cases i) (fun _ => rfl)
  · exact h

theorem mayQueue_announce (s : State) : s.mayQueue .announce = s.maySend := by
  unfold State.mayQueue State.maySend State.isActive
  cases s.life <;> rfl

theorem loopLaws_queueAnnounce {s : State} (ask : Bool) (h : LoopLaws s) : LoopLaws (s.queueAnnounce ask) := by
  unfold State.queueAnnounce
  rw [mayQueue_announce]
  split
  next m =>
    exact h.requests _ _ _ _ _ rfl rfl rfl rfl (by simp) (fun _ => ⟨rfl, rfl, rfl⟩) (fun i => by rw [m] at i; cases i)
  · exact h

theorem loopLaws_requestStatus {s : State} (a : s.isActive = true) (h : LoopLaws s) : LoopLaws s.requestStatus :=
  h.requests _ _ _ _ _ rfl rfl rfl (by simp) rfl (fun i => by rw [a] at i; cases i) (fun _ => rfl)

theorem loopLaws_statusCause {s : State} (h : LoopLaws s) : LoopLaws s.statusCause := by
  unfold State.statusCause
  split
  next m =>
    have a : s.isActive = true := by simp [State.mayQueue] at m; exact m.1
    split
    · exact h.onPub _ (fun i => by rw [a] at i; cases i)
    · exact loopLaws_requestStatus a h
  · exact h

/-- The events of every other block keep the laws of the loop interface. -/
theorem loopLaws_kept : KeptEvents LoopLaws where
  cause := loopLaws_statusCause
  guard _ h := h.congr rfl rfl rfl rfl
  fn _ _ _ h := h.congr rfl rfl rfl rfl
  drive _ _ _ h := h.congr rfl rfl rfl rfl
  still h := h.congr rfl rfl rfl rfl
  fnField _ _ h := h.congr rfl rfl rfl rfl
  flow _ h := h.congr rfl rfl rfl rfl
  trips _ h := h.congr rfl rfl rfl rfl
  asserted _ h := h.congr rfl rfl rfl rfl
  queue := loopLaws_queueTrip
  field _ h := h.congr rfl rfl rfl rfl
  panel _ h := h.congr rfl rfl rfl rfl
  entry _ _ h := h.congr rfl rfl rfl rfl
  flash _ h := h.congr rfl rfl rfl rfl
  table _ _ h := h.congr rfl rfl rfl rfl
  window _ h := h.congr rfl rfl rfl rfl
  intent := loopLaws_queueIntent
  announce := loopLaws_queueAnnounce
  ramp _ _ h := h.congr rfl rfl rfl rfl

theorem loopLaws_takeIntent {s : State} (n : StationId) (i : IntentFrame) (h : LoopLaws s) : LoopLaws (s.takeIntent n i) :=
  loopLaws_kept.takeIntent n i (fun _ _ _ _ _ =>
    loopLaws_kept.resetArrival (fun _ h => h.congr rfl rfl rfl rfl) (fun _ h => h.congr rfl rfl rfl rfl) h) h

end Sys2Proof.Machine
end

section
/-! The laws of the loop interface under the commands of the life cycle, the line, the sends and the publisher. -/

namespace Sys2Proof.Machine

/-! ## The line and the end of a send -/

/-- A change of the line state, of what is followed and of the wait (R18, R29). -/
theorem LoopLaws.onLine {s : State} (h : LoopLaws s) (g : Loop → Loop) (l : Option LineState) (r : IdleRule) (fo : Follow)
    (w : Bool) (hs : Option HeardSlot)
    (e : g s.loop = { s.loop with line := l, idleRule := r, follow := fo, wait := w, heardSlot := hs })
    (kept : l.isSome = s.follows) : LoopLaws (s.onLoop g) := by
  obtain ⟨trip, intent, status, announce, line, kinds, silent, timers, aborts, below, unheard, lone, good⟩ := h
  constructor
  case timers => exact timers
  case good => exact good
  all_goals rw [State.onLoop_loop, e]; assumption

/-- The end of a send takes its slot out of flight and its kind with it (R27, R32 to R35). -/
theorem LoopLaws.endSend {s : State} (h : LoopLaws s) (g : Loop → Loop) (tr : Slot TripReason) (it : Slot IntentFrame)
    (st : Slot Unit) (an : Slot Bool) (l : Option LineState) (r : IdleRule) (fo : Follow) (w : Bool) (hs : Option HeardSlot)
    (n : Nat) (e : g s.loop = { s.loop with
      trip := tr, intent := it, status := st, announce := an, send := none, line := l, idleRule := r, follow := fo, wait := w
      heardSlot := hs, aborts := n })
    (out : tr.isInFlight = false ∧ it.isInFlight = false ∧ st.isInFlight = false ∧ an.isInFlight = false)
    (kept : l.isSome = s.follows)
    (idle : s.isActive = false → tr = .empty ∧ it = .empty ∧ st = .empty)
    (mute : s.maySend = false → an = .empty)
    (few : n ≤ Config.abortLimit) (below : s.life = .joining ∨ s.life = .active → n < Config.abortLimit) :
    LoopLaws (s.onLoop g) := by
  obtain ⟨htr, hit, hst, han⟩ := out
  obtain ⟨-, -, -, -, -, -, -, timers, -, -, unheard, lone, good⟩ := h
  constructor
  case timers => exact timers
  case good => exact good
  all_goals rw [State.onLoop_loop, e]; assumption

/-- A station with a send in flight is in a state that sends (R37). -/
theorem LoopLaws.sending {s : State} {m : Send} (h : LoopLaws s) (e : s.loop.send = some m) : s.maySend = true := by
  by_contra c
  rw [Bool.not_eq_true] at c
  have a : s.isActive = false := by
    by_contra a
    rw [isActive_maySend (by simpa using a)] at c
    cases c
  obtain ⟨t, i, st⟩ := h.kinds a
  have ht := h.trip
  have hi := h.intent
  have hs := h.status
  have ha := h.announce
  rw [t, Loop.kind, e] at ht
  rw [i, Loop.kind, e] at hi
  rw [st, Loop.kind, e] at hs
  rw [h.silent c, Loop.kind, e] at ha
  cases k : m.kind <;> simp [k, Slot.isInFlight] at ht hi hs ha

/-- A STATUS is in flight in ACTIVE only (R38). -/
theorem LoopLaws.status_active {s : State} {m : Send} (h : LoopLaws s) (e : s.loop.send = some m) (k : m.kind = .status) :
    s.isActive = true := by
  by_contra a
  obtain ⟨-, -, st⟩ := h.kinds (by simpa using a)
  have hs := h.status
  rw [st, Loop.kind, e] at hs
  simp [k, Slot.isInFlight] at hs

theorem LoopLaws.line_some {s : State} (h : LoopLaws s) {l : LineState} (e : s.loop.line = some l) : s.follows = true := by
  rw [← h.line, e]
  rfl

theorem loopLaws_statusLost {s : State} (h : LoopLaws s) : LoopLaws s.statusLost := by
  unfold State.statusLost
  split
  · split
    · exact h.onPub _ (fun i => ⟨(h.timers i).1, (h.timers i).2.1, rfl, rfl⟩)
    · exact h
  · exact h

theorem statusLost_loop (s : State) : s.statusLost.loop = s.loop := by
  unfold State.statusLost
  split
  · split <;> rfl
  · rfl

theorem statusLost_life (s : State) : s.statusLost.life = s.life := by
  unfold State.statusLost
  split
  · split <;> rfl
  · rfl

theorem loopLaws_stick {s : State} (h : LoopLaws s) (f : s.follows = true) : LoopLaws s.stick :=
  h.onLine _ _ _ _ _ _ rfl f.symm

/-- The slots of a station whose send ends by a loss or an abort (R27). -/
theorem LoopLaws.giveBack {s : State} (h : LoopLaws s) (fo : Follow) (n : Nat) (few : n ≤ Config.abortLimit)
    (below : s.life = .joining ∨ s.life = .active → n < Config.abortLimit) :
    LoopLaws (s.onLoop (fun x => { x.giveBack with follow := fo, aborts := n })) := by
  refine h.endSend _ _ _ _ _ _ _ _ _ _ _ rfl ⟨?_, ?_, ?_, ?_⟩ h.line (fun i => ?_) (fun m => ?_) few below
  iterate 4 exact Slot.isInFlight_returned _
  · obtain ⟨t, it, st⟩ := h.kinds i
    exact ⟨by rw [Loop.giveBack, t]; rfl, by rw [Loop.giveBack, it]; rfl, by rw [Loop.giveBack, st]; rfl⟩
  · rw [Loop.giveBack, h.silent m]
    rfl

/-! ## The life cycle -/

/-- A station that withdraws has nothing pending and no timer of the publisher (R15, R36, R52). -/
theorem loopLaws_enterWithdrawn {s : State} (line : s.loop.line.isSome = true) (aborts : s.loop.aborts ≤ Config.abortLimit)
    (unheard : s.loop.unheard ≤ Config.unheardLimit) : LoopLaws s.enterWithdrawn := by
  obtain ⟨fns, e⟩ := enterWithdrawn_eq s
  rw [e]
  constructor
  case line => exact line
  case aborts => exact aborts
  case unheard => exact unheard
  case good => exact ⟨Nat.zero_lt_of_lt (Nat.lt_succ_self 15), fun c => absurd rfl c⟩
  case below => rintro (c | c) <;> cases c
  case lone => intro c; cases c
  case kinds => exact fun _ => ⟨rfl, rfl, rfl⟩
  case silent => exact fun _ => rfl
  case timers => exact fun _ => ⟨rfl, rfl, rfl, rfl⟩
  all_goals rfl

/-- An abort returns the frame, and the eighth withdraws the station (R27, R33, R35). -/
theorem loopLaws_abort {s : State} (h : LoopLaws s) (f : s.follows = true) : LoopLaws s.abort := by
  have lost := loopLaws_statusLost h
  have line : s.loop.line.isSome = true := by rw [h.line, f]
  unfold State.abort
  extract_lets s1
  have count : s1.loop.aborts ≤ Config.abortLimit := Nat.min_le_right _ _
  split
  · refine loopLaws_enterWithdrawn ?_ count ?_
    · show s.statusLost.loop.line.isSome = true
      rw [statusLost_loop]
      exact line
    · exact lost.unheard
  next c =>
    refine lost.giveBack s.statusLost.loop.follow _ count (fun l => ?_)
    exact lt_of_le_of_ne count (fun e => c ⟨e, l⟩)

/-- The entry to JOINING (R13, R52, R54): the counts and the publisher's timers start afresh, and an ANNOUNCE with ASK is queued. -/
theorem enterJoining_eq (s : State) : s.enterJoining = { s with
    life := .joining, joinWindow := none, goodFrames := 0
    loop := { s.loop with line := some .busy, idleRule := .join, follow := .nothing, aborts := 0, unheard := 0,
                          announce := announceRequest true s.loop.idBegun s.loop.announce }
    pub := { s.pub with lastSent := none, refresh := none, inhibitTimer := none, deferred := false, inhibit := false } } := by
  unfold State.enterJoining
  exact queueAnnounce_eq true (.inl rfl)

theorem loopLaws_enterJoining {s u : State} (h : LoopLaws s) (i : s.isActive = false) (loop : u.loop = s.loop)
    (pub : u.pub = s.pub) : LoopLaws u.enterJoining := by
  obtain ⟨t, it, st⟩ := h.kinds i
  rw [enterJoining_eq, loop, pub]
  constructor
  case trip => exact h.trip
  case intent => exact h.intent
  case status => exact h.status
  case announce => exact (isInFlight_announceRequest _ _ _).trans h.announce
  case kinds => exact fun _ => ⟨t, it, st⟩
  case silent => intro c; cases c
  case timers => exact fun _ => ⟨rfl, rfl, rfl, rfl⟩
  case good => exact ⟨Nat.zero_lt_of_lt (Nat.lt_succ_self 15), fun _ => rfl⟩
  case lone => intro c; rw [h.lone c] at i; cases i
  case below => exact fun _ => Nat.zero_lt_of_lt (Nat.lt_succ_self 7)
  case line => rfl
  case aborts => exact Nat.zero_le _
  case unheard => exact Nat.zero_le _

/-- The entry to CONFIG_FAULT (R11, R12). -/
theorem loopLaws_enterConfigFault {s : State} (r : FaultReport) (h : LoopLaws s) (l : s.life = .loading) :
    LoopLaws (s.enterConfigFault r) := by
  have i : s.isActive = false := by simp [State.isActive, l]
  obtain ⟨t, it, st⟩ := h.kinds i
  constructor
  case trip => exact h.trip
  case intent => exact h.intent
  case status => exact h.status
  case announce => exact h.announce
  case kinds => exact fun _ => ⟨t, it, st⟩
  case silent => intro c; cases c
  case timers => exact fun _ => h.timers i
  case good => exact ⟨h.good.1, fun _ => h.good.2 (by rw [l]; decide)⟩
  case lone => intro c; rw [h.lone c] at i; cases i
  case below => rintro (c | c) <;> cases c
  case line => rfl
  case aborts => exact h.aborts
  case unheard => exact h.unheard

theorem goodLoad_loopLaws {s : State} (c : Setup) (lines : FieldLines) (h : LoopLaws s) (l : s.life = .loading) :
    LoopLaws (s.goodLoad c lines) := by
  have i : s.isActive = false := by simp [State.isActive, l]
  have read := firsts_inert lines (s := s.loadedWith c) rfl
  have loop := read.loop.trans (firstInputs_loop lines (s.loadedWith c))
  have pub := read.pub.trans (firstInputs_pub lines (s.loadedWith c))
  rw [goodLoad_eq]
  generalize (s.loadedWith c).firsts lines = u at loop pub
  exact loopLaws_enterJoining h i loop pub

end Sys2Proof.Machine
end

section
/-! The laws of the loop interface, command by command. -/

namespace Sys2Proof.Machine

variable {s : State}

/-! ## Life cycle (chapter 1) -/

theorem loopLaws_atReset {t : State} (loop : t.loop = Loop.atReset) (pub : t.pub = Publisher.atReset) (life : t.life = .reset)
    (good : t.goodFrames = 0) : LoopLaws t := by
  refine LoopLaws.congr (s := State.reset) ?_ loop pub life good
  constructor <;> decide

theorem loopLaws_resetCondition (c : ResetCause) : Leads LoopLaws (execResetCondition c s) :=
  .done (loopLaws_atReset rfl rfl rfl rfl)

/-- RESET and LOADING keep no line state and send nothing alike (R18, R37). -/
theorem loopLaws_leaveReset (st : StationId) (br : BrPin) (h : LoopLaws s) : Leads LoopLaws (execLeaveReset st br s) := by
  refine .ite (fun l => .done ?_) (fun _ => .done h)
  have i : s.isActive = false := by simp [State.isActive, l]
  constructor
  case trip => exact h.trip
  case intent => exact h.intent
  case status => exact h.status
  case announce => exact h.announce
  case line => rw [h.line, State.follows, State.running, l]; rfl
  case kinds => exact fun _ => h.kinds i
  case silent => exact fun _ => h.silent (by simp [State.maySend, State.isActive, l])
  case timers => exact fun _ => h.timers i
  case aborts => exact h.aborts
  case below => rintro (c | c) <;> cases c
  case unheard => exact h.unheard
  case lone => intro c; rw [h.lone c] at i; cases i
  case good => exact ⟨h.good.1, fun _ => h.good.2 (by rw [l]; decide)⟩

theorem loopLaws_headerReadComplete (bytes : List Byte) (h : LoopLaws s) : Leads LoopLaws (execHeaderReadComplete bytes s) := by
  refine .ite (fun l => ?_) (fun _ => .done h)
  exact .ite (fun _ => .done (h.congr rfl rfl rfl rfl)) (fun _ => .done (loopLaws_enterConfigFault _ h l.1))

theorem loopLaws_imageReadComplete (bytes : List Byte) (lines : FieldLines) (h : LoopLaws s) :
    Leads LoopLaws (execImageReadComplete bytes lines s) := by
  unfold execImageReadComplete
  split
  next l _ =>
    dsimp only
    split
    · exact .done (goodLoad_loopLaws _ lines h l)
    · exact .done (loopLaws_enterConfigFault _ h l)
  · exact .done h

theorem loopLaws_configFaultAnnounceTimer (h : LoopLaws s) : Leads LoopLaws (execConfigFaultAnnounceTimer s) :=
  .ite (fun _ => .done (loopLaws_queueAnnounce _ (h.congr rfl rfl rfl rfl))) (fun _ => .done h)

/-- The station at its entry to ACTIVE, before anything follows from it (R14, R90, R142). -/
def State.activated (s : State) : State :=
  let p := s.cfg.own.panel
  { s with
    life := .active, joinWindow := none, loop := { s.loop with lone := false }, unit := { s.unit with restartHold := true }
    guard := { s.guard with flash := some .lit }
    panel := { s.panel with
      armOpen := s.armedAtEntry p.openB, armClose := s.armedAtEntry p.closeB, armStop := s.armedAtEntry p.stop
      armReset := s.armedAtEntry p.reset, armJogOpen := s.armedAtEntry p.jogOpen
      armJogClose := s.armedAtEntry p.jogClose, held := none } }

/-- Then a STATUS is queued, the latched functions go to HELD_FAULT, and a TRIP in force is queued again (R14, R56, R127). -/
def State.requeued (s : State) : State :=
  let t := s.activated.statusCause.eachFn State.holdLatched
  if s.unit.tripAsserted then t.requeueTrip else t

theorem enterActive_eq (s : State) :
    s.enterActive = ((State.raiseCauses s.requeued.presentCauses s.requeued).arbitrate).settle := rfl

/-- The entry to ACTIVE (R14): the frames of every kind and LONE are allowed from there on. -/
theorem loopLaws_enterActive (h : LoopLaws s) (l : s.life = .joining) : LoopLaws s.enterActive := by
  have first : LoopLaws s.activated := by
    obtain ⟨trip, intent, status, announce, line, -, -, -, aborts, below, unheard, -, good⟩ := h
    refine ⟨trip, intent, status, announce, ?_, (fun i => by cases i), (fun i => by cases i), (fun i => by cases i), aborts,
      (fun _ => below (.inl l)), unheard, (fun _ => rfl), ⟨good.1, fun _ => good.2 (by rw [l]; decide)⟩⟩
    rw [State.follows, State.running, l] at line
    exact line
  have held := Kept.eachFn (fun f _ => loopLaws_kept.holdLatched f) (loopLaws_statusCause first)
  have requeued : LoopLaws s.requeued := by
    unfold State.requeued
    dsimp only
    split
    · exact loopLaws_kept.requeueTrip held
    · exact held
  rw [enterActive_eq]
  exact loopLaws_kept.settle (loopLaws_kept.arbitrate (loopLaws_kept.raiseCauses _ requeued))

theorem loopLaws_joinWindowExpiry (h : LoopLaws s) : Leads LoopLaws (execJoinWindowExpiry s) :=
  .ite (fun l => .done (loopLaws_enterActive h l.1)) (fun _ => .done h)

theorem loopLaws_withdrawnIdleTimeout (h : LoopLaws s) : Leads LoopLaws (execWithdrawnIdleTimeout s) :=
  .ite (fun l => .done (loopLaws_enterJoining h (by simp [State.isActive, l.1]) rfl rfl)) (fun _ => .done h)

/-! ## The line and arrivals (chapters 2 to 4, 9) -/

theorem loopLaws_lineBusy (h : LoopLaws s) : Leads LoopLaws (execLineBusy s) :=
  .ite (fun c => .done (h.onLine _ _ _ _ _ _ rfl c.1.symm)) (fun _ => .done h)

theorem loopLaws_lineIdle (n : Nat) (h : LoopLaws s) : Leads LoopLaws (execLineIdle n s) := by
  refine .ite (fun c => ?_) (fun _ => .done h)
  have idle : LoopLaws (s.onLoop (fun x => { x with line := some .idle, idleRule := .noFrame })) :=
    h.onLine _ _ _ _ _ _ rfl c.1.symm
  exact .ite (fun _ => .done (loopLaws_queueAnnounce _ idle)) (fun _ => .done idle)

theorem loopLaws_lineStuck (n : Nat) (h : LoopLaws s) : Leads LoopLaws (execLineStuck n s) := by
  refine .ite (fun c => ?_) (fun _ => .done h)
  have stuck := loopLaws_stick h c.1
  exact .ite (fun _ => .done (loopLaws_abort stuck c.1)) (fun _ => .done stuck)

theorem loopLaws_stuckEnd (n : Nat) (h : LoopLaws s) : Leads LoopLaws (execStuckEnd n s) :=
  .ite (fun c => .done (h.onLine _ _ _ _ _ _ rfl c.1.symm)) (fun _ => .done h)

theorem loopLaws_frameDropped (w : Wave) (h : LoopLaws s) : Leads LoopLaws (execFrameDropped w s) := by
  unfold execFrameDropped
  split
  · refine .ite (fun c => .done (h.onLine _ _ _ _ _ _ rfl ?_)) (fun _ => .done h)
    rw [c.1]
    split <;> rfl
  · exact .done h

theorem hears_follows {w : Wave} {f : Frame} (h : s.hears w = some f) : s.follows = true := by
  unfold State.hears at h
  split at h
  next c => simp only [Bool.and_eq_true] at c; exact c.1
  · cases h

theorem loopLaws_frameEnd {w : Wave} {f : Frame} (h : LoopLaws s) (e : s.hears w = some f) : LoopLaws (s.frameEnd w) :=
  h.onLine _ _ _ _ _ _ rfl (hears_follows e).symm

/-- A good frame counts to fifteen, and the sixteenth lets the station rejoin (R16). -/
theorem loopLaws_countGood (h : LoopLaws s) : LoopLaws s.countGood := by
  unfold State.countGood
  split
  next l =>
    split
    next few =>
      obtain ⟨trip, intent, status, announce, line, kinds, silent, timers, aborts, below, unheard, lone, good⟩ := h
      exact ⟨trip, intent, status, announce, line, kinds, silent, timers, aborts, below, unheard, lone,
        ⟨few, fun c => absurd l c⟩⟩
    · exact loopLaws_enterJoining h (by simp [State.isActive, l]) rfl rfl
  · exact h

theorem loopLaws_undeliveredGoodFrame (w : Wave) (h : LoopLaws s) : Leads LoopLaws (execUndeliveredGoodFrame w s) := by
  unfold execUndeliveredGoodFrame
  split
  next e => exact .ite (fun _ => .done (loopLaws_countGood (loopLaws_frameEnd h e))) (fun _ => .done h)
  · exact .done h

theorem loopLaws_arrival (kind : FrameKind) {deliver : Frame → State → State} (w : Wave)
    (delivered : ∀ (f : Frame) {t : State}, LoopLaws t → LoopLaws (deliver f t)) (h : LoopLaws s) :
    LoopLaws (s.arrival kind deliver w) := by
  unfold State.arrival
  split
  · exact h
  next f e =>
    have ended := loopLaws_frameEnd h e
    split
    · split
      · exact loopLaws_countGood (delivered f ended)
      · exact ended
    · exact h

theorem loopLaws_intentDelivered (f : Frame) (h : LoopLaws s) : LoopLaws (s.intentDelivered f) := by
  unfold State.intentDelivered
  split
  · exact loopLaws_takeIntent _ _ h
  · exact h

/-! ## Own sends (chapter 2) -/

@[simp] theorem Slot.isInFlight_inFlight {α : Type} (c : α) (d : Option α) : (Slot.inFlight c d).isInFlight = true := rfl

/-- The lowest kind that waits goes in flight, if one waits (R28, R30). -/
theorem Loop.start_cases (mark : Nat) (x : Loop) :
    (∃ (c : TripReason) (m : Send), x.trip = .waiting c ∧ m.kind = .trip ∧
      x.start mark = { x with trip := .inFlight c none, send := some m }) ∨
    (∃ (c : IntentFrame) (m : Send), x.intent = .waiting c ∧ m.kind = .intent ∧
      x.start mark = { x with intent := .inFlight c none, send := some m }) ∨
    (∃ m : Send, x.status = .waiting () ∧ m.kind = .status ∧
      x.start mark = { x with status := .inFlight () none, send := some m }) ∨
    (∃ (c : Bool) (m : Send), m.kind = .announce ∧ x.start mark = { x with announce := .inFlight c none, send := some m }) ∨
    x.start mark = x := by
  unfold Loop.start
  dsimp only
  split
  next c e => exact .inl ⟨c, _, e, rfl, rfl⟩
  next c e _ => exact .inr (.inl ⟨c, _, e, rfl, rfl⟩)
  next e _ _ => exact .inr (.inr (.inl ⟨_, e, rfl, rfl⟩))
  next c _ _ _ _ => exact .inr (.inr (.inr (.inl ⟨c, _, rfl, rfl⟩)))
  next => exact .inr (.inr (.inr (.inr rfl)))

/-- The laws where a station that sends none of its frames puts one on the line (R27, R28). -/
theorem LoopLaws.onSend {s : State} (h : LoopLaws s) (g : Loop → Loop) (tr : Slot TripReason) (it : Slot IntentFrame)
    (st : Slot Unit) (an : Slot Bool) (m : Option Send) (e : g s.loop = { s.loop with
      trip := tr, intent := it, status := st, announce := an, send := m })
    (htr : tr.isInFlight = (m.map Send.kind == some .trip)) (hit : it.isInFlight = (m.map Send.kind == some .intent))
    (hst : st.isInFlight = (m.map Send.kind == some .status)) (han : an.isInFlight = (m.map Send.kind == some .announce))
    (idle : s.isActive = false → tr = .empty ∧ it = .empty ∧ st = .empty) (may : s.maySend = true) :
    LoopLaws (s.onLoop g) := by
  obtain ⟨-, -, -, -, line, -, -, timers, aborts, below, unheard, lone, good⟩ := h
  constructor
  case timers => exact timers
  case good => exact good
  case silent => intro c; rw [State.onLoop_maySend, may] at c; cases c
  all_goals rw [State.onLoop_loop, e]; assumption

/-- A station that is free to send and starts (R28, R30). -/
theorem LoopLaws.start {s : State} (h : LoopLaws s) (mark : Nat) (free : s.hasToSend = true) :
    LoopLaws (s.onLoop (Loop.start mark)) := by
  simp only [State.hasToSend, Bool.and_eq_true, Option.isNone_iff_eq_none] at free
  obtain ⟨⟨may, none⟩, -⟩ := free
  have quiet : s.loop.trip.isInFlight = false ∧ s.loop.intent.isInFlight = false ∧ s.loop.status.isInFlight = false ∧
      s.loop.announce.isInFlight = false := by
    rw [h.trip, h.intent, h.status, h.announce, Loop.kind, none]
    exact ⟨rfl, rfl, rfl, rfl⟩
  obtain ⟨tr, it, st, an⟩ := quiet
  rcases Loop.start_cases mark s.loop with ⟨c, m, w, k, e⟩ | ⟨c, m, w, k, e⟩ | ⟨m, w, k, e⟩ | ⟨c, m, k, e⟩ | e
  · refine h.onSend _ _ _ _ _ _ e (by simp [k]) (by simp [k, it]) (by simp [k, st]) (by simp [k, an]) (fun i => ?_) may
    rw [(h.kinds i).1] at w
    cases w
  · refine h.onSend _ _ _ _ _ _ e (by simp [k, tr]) (by simp [k]) (by simp [k, st]) (by simp [k, an]) (fun i => ?_) may
    rw [(h.kinds i).2.1] at w
    cases w
  · refine h.onSend _ _ _ _ _ _ e (by simp [k, tr]) (by simp [k, it]) (by simp [k]) (by simp [k, an]) (fun i => ?_) may
    rw [(h.kinds i).2.2] at w
    cases w
  · exact h.onSend _ _ _ _ _ _ e (by simp [k, tr]) (by simp [k, it]) (by simp [k, st]) (by simp [k]) h.kinds may
  · exact h.congr e rfl rfl rfl

theorem loopLaws_sendStart (h : LoopLaws s) : Leads LoopLaws (execSendStart s) :=
  .ite (fun c => .done ((h.start _ c.1).onLine (fun x => { x with
      line := some .busy, idleRule := .noFrame, follow := .frame, heardSlot := none }) _ _ _ _ _ rfl
    (h.line_some c.2.1).symm)) (fun _ => .done h)

theorem loopLaws_lateStart (since free : Nat) (h : LoopLaws s) : Leads LoopLaws (execLateStart since free s) := by
  refine .ite (fun c => ?_) (fun _ => .done h)
  have ready : s.hasToSend = true ∧ s.loop.line = some .busy := by
    simp only [State.mayJoin, Bool.and_eq_true, beq_iff_eq] at c
    exact ⟨c.1.1.1.1, c.1.1.1.2⟩
  have line : (Loop.start (Config.markBits * s.bt - since) s.loop).line.isSome = s.follows :=
    (h.start (Config.markBits * s.bt - since) ready.1).line
  exact .done ((h.start _ ready.1).onLine (fun x => { x with
    idleRule := if s.loop.idleRule = .join then .join else .noFrame, follow := .frame, wait := false }) _ _ _ _ _ rfl line)

theorem loopLaws_idCellStart (h : LoopLaws s) : Leads LoopLaws (execIdCellStart s) := by
  unfold execIdCellStart
  split
  next m e =>
    refine .ite (fun _ => ?_) (fun _ => .done h)
    have fixed : (s.fixed m).kind = m.kind := by
      unfold State.fixed
      split <;> rfl
    have sent : s.loop.kind = (some (s.fixed m)).map Send.kind := by rw [Loop.kind, e, Option.map_some, Option.map_some, fixed]
    have taken : LoopLaws (s.onLoop (fun x => { x with send := some (s.fixed m) })) :=
      h.onSend _ _ _ _ _ _ rfl (sent ▸ h.trip) (sent ▸ h.intent) (sent ▸ h.status) (sent ▸ h.announce) h.kinds (h.sending e)
    refine .ite (fun k => .done (taken.onPub _ (fun i => ?_))) (fun _ => .done taken)
    have a := h.status_active e k
    rw [State.onLoop_isActive, a] at i
    cases i
  · exact .done h

theorem loopLaws_arbitrationLoss (j : Fin 8) (h : LoopLaws s) : Leads LoopLaws (execArbitrationLoss j s) := by
  have lost := loopLaws_statusLost h
  unfold execArbitrationLoss
  split
  · exact .ite (fun _ => .done (lost.giveBack .frame _ lost.aborts lost.below)) (fun _ => .done h)
  · exact .done h

theorem loopLaws_sendAbort (c : AbortCause) (h : LoopLaws s) : Leads LoopLaws (execSendAbort c s) := by
  unfold execSendAbort
  split
  · exact .done h
  next m e =>
    have f := maySend_follows (h.sending e)
    cases c with
    | bitError => exact .ite (fun _ => .done (loopLaws_abort h f)) (fun _ => .done h)
    | selfDrop r =>
      refine .ite (fun _ => .done (loopLaws_abort ?_ f)) (fun _ => .done h)
      exact h.onLine _ _ _ _ _ _ rfl h.line
    | stuck => exact .done (loopLaws_abort (loopLaws_stick h f) f)

/-- The block that queued the frame starts its timers and takes its INTENT (R12, R13, R34, R49, R56, R145). -/
theorem loopLaws_notified (m : Send) (h : LoopLaws s) (status : m.kind = .status → s.isActive = true) :
    LoopLaws (s.notified m) := by
  unfold State.notified
  split
  next k => exact h.onPub _ (fun i => by rw [status k] at i; cases i)
  · unfold State.announceCompleted
    split
    · split
      · exact h.congr rfl rfl rfl rfl
      · exact h
    · exact h.congr rfl rfl rfl rfl
    · exact h
  · unfold State.tripCompleted
    split
    · exact h.congr rfl rfl rfl rfl
    · exact h
  · unfold State.intentCompleted
    split
    · exact h
    · exact loopLaws_takeIntent _ _ (h.congr rfl rfl rfl rfl)

/-- The unheard count stops at 4, and LONE changes in ACTIVE only (R36). -/
theorem loopLaws_unheardUpdate (heard : Bool) (h : LoopLaws s) : LoopLaws (s.unheardUpdate heard) := by
  have counts : ∀ (n : Nat) (l : Bool), n ≤ Config.unheardLimit → (l = true → s.isActive = true) → ∀ {t : State},
      LoopLaws t → t.isActive = s.isActive → LoopLaws (t.onLoop (fun x => { x with unheard := n, lone := l })) := by
    intro n l few lone t ht act
    obtain ⟨trip, intent, status, announce, line, kinds, silent, timers, aborts, below, -, -, good⟩ := ht
    exact ⟨trip, intent, status, announce, line, kinds, silent, timers, aborts, below, few, fun c => act.trans (lone c), good⟩
  unfold State.unheardUpdate
  extract_lets s1
  have first : LoopLaws s1 ∧ s1.isActive = s.isActive := by
    unfold s1
    split
    · refine ⟨counts _ _ ?_ h.lone h rfl, rfl⟩
      split
      · exact Nat.zero_le _
      · exact Nat.min_le_right _ _
    · exact ⟨h, rfl⟩
  split
  next c =>
    refine loopLaws_kept.loneChanged (loopLaws_kept.act ?_)
    exact counts _ _ first.1.unheard (fun _ => first.2 ▸ c.1) first.1 first.2
  · exact first.1

theorem loopLaws_sendComplete (heard : Bool) (h : LoopLaws s) : Leads LoopLaws (execSendComplete heard s) := by
  unfold execSendComplete
  split
  next m e =>
    refine .ite (fun c => .done (loopLaws_unheardUpdate heard (loopLaws_notified m ?_ (fun k => h.status_active e k))))
      (fun _ => .done h)
    refine h.endSend _ _ _ _ _ _ _ _ _ _ _ rfl ⟨?_, ?_, ?_, ?_⟩ (maySend_follows c.2).symm (fun i => ?_) (fun i => ?_)
      (Nat.zero_le _) (fun _ => Nat.zero_lt_of_lt (Nat.lt_succ_self 7))
    iterate 4 exact Slot.isInFlight_completed _
    · obtain ⟨t, it, st⟩ := h.kinds i
      exact ⟨by rw [t]; rfl, by rw [it]; rfl, by rw [st]; rfl⟩
    · rw [c.2] at i; cases i
  · exact .done h

theorem loopLaws_sendWaitEnd (n : Nat) (h : LoopLaws s) : Leads LoopLaws (execSendWaitEnd n s) :=
  .ite (fun _ => .done (h.onLine _ _ _ _ _ _ rfl h.line)) (fun _ => .done h)

/-! ## The publisher (chapter 3) -/

theorem loopLaws_changeInhibitExpiry (h : LoopLaws s) : Leads LoopLaws (execChangeInhibitExpiry s) := by
  refine .ite (fun c => ?_) (fun _ => .done h)
  have a : s.isActive = true := by
    by_contra i
    rw [(h.timers (by simpa using i)).2.1] at c
    cases c
  have ended : LoopLaws (s.onPub (fun p => { p with inhibitTimer := none, inhibit := false, deferred := false })) :=
    h.onPub _ (fun i => by rw [a] at i; cases i)
  exact .ite (fun _ => .done (loopLaws_requestStatus a ended)) (fun _ => .done ended)

theorem loopLaws_refreshExpiry (h : LoopLaws s) : Leads LoopLaws (execRefreshExpiry s) :=
  .ite (fun _ => .done (loopLaws_statusCause (h.onPub _ (fun i => ⟨rfl, (h.timers i).2⟩)))) (fun _ => .done h)

theorem loopLaws_tripRepeatExpiry (h : LoopLaws s) : Leads LoopLaws (execTripRepeatExpiry s) := by
  refine .ite (fun _ => ?_) (fun _ => .done h)
  have stopped : LoopLaws (s.onUnit (fun u => { u with tripRepeat := none })) := h.congr rfl rfl rfl rfl
  exact .ite (fun _ => .done (loopLaws_kept.requeueTrip stopped)) (fun _ => .done stopped)

/-! ## Every command -/

/-- Each command keeps the laws of the loop interface. -/
theorem loopLaws_exec (c : Instr) (h : LoopLaws s) : Leads LoopLaws (exec c s) := by
  have k := loopLaws_kept
  refine k.exec c h (fun ours => ?_)
  cases c with
  | resetCondition r => exact loopLaws_resetCondition r
  | leaveReset n b => exact loopLaws_leaveReset n b h
  | headerReadComplete b => exact loopLaws_headerReadComplete b h
  | imageReadComplete b l => exact loopLaws_imageReadComplete b l h
  | configFaultAnnounceTimer => exact loopLaws_configFaultAnnounceTimer h
  | joinWindowExpiry => exact loopLaws_joinWindowExpiry h
  | withdrawnIdleTimeout => exact loopLaws_withdrawnIdleTimeout h
  | lineBusy => exact loopLaws_lineBusy h
  | lineIdle n => exact loopLaws_lineIdle n h
  | lineStuck n => exact loopLaws_lineStuck n h
  | stuckEnd n => exact loopLaws_stuckEnd n h
  | frameDropped w => exact loopLaws_frameDropped w h
  | undeliveredGoodFrame w => exact loopLaws_undeliveredGoodFrame w h
  | statusArrival w => exact .done (loopLaws_arrival _ w (fun f _ => k.statusDelivered f) h)
  | announceArrival w => exact .done (loopLaws_arrival _ w (fun f _ => k.announceDelivered f) h)
  | intentArrival w => exact .done (loopLaws_arrival _ w (fun f _ => loopLaws_intentDelivered f) h)
  | tripArrival w => exact .done (loopLaws_arrival _ w (fun f _ => k.tripDelivered f) h)
  | sendStart => exact loopLaws_sendStart h
  | lateStart a b => exact loopLaws_lateStart a b h
  | idCellStart => exact loopLaws_idCellStart h
  | arbitrationLoss j => exact loopLaws_arbitrationLoss j h
  | sendAbort a => exact loopLaws_sendAbort a h
  | sendComplete b => exact loopLaws_sendComplete b h
  | sendWaitEnd n => exact loopLaws_sendWaitEnd n h
  | changeInhibitExpiry => exact loopLaws_changeInhibitExpiry h
  | refreshExpiry => exact loopLaws_refreshExpiry h
  | tripRepeatExpiry => exact loopLaws_tripRepeatExpiry h
  | _ => cases ours

/-- A step is the command at the front of the queue, or nothing: what every command keeps, and the queue is no matter of, every
step keeps. -/
theorem step_keeps {P : State → Prop} (queue : ∀ (s : State) (q : List Instr), P s → P { s with pending := q })
    (finish : ∀ s : State, P s → P s.finish) (command : ∀ (c : Instr) (s : State), P s → Leads P (exec c s)) {s t : State}
    (h : P s) (e : step s = .next t) : P t := by
  unfold step at e
  split at e
  · cases e; exact h
  · exact (command _ _ (queue _ _ h)).next finish e

/-- Settles O44, by the laws under every command. -/
theorem loopLawsKept : Obligations.LoopLawsKept := by
  unfold Obligations.LoopLawsKept
  intro s t h e
  exact step_keeps (fun _ _ h => h.congr rfl rfl rfl rfl) (fun _ h => h.congr rfl rfl rfl rfl)
    (fun c _ h => loopLaws_exec c h) h e

end Sys2Proof.Machine
end

section
/-! What the commands of the life cycle, the line, the sends and the publisher keep, for a predicate that no change of the loop
interface, of the publisher's timers or of the life cycle state touches. -/

namespace Sys2Proof.Machine

/-- The changes of the life cycle state, the loop interface and the publisher but for its edition keep the predicate as well. -/
structure KeptStation (P : State → Prop) : Prop extends KeptEvents P where
  loop : ∀ {s : State} (g : Loop → Loop), P s → P (s.onLoop g)
  pub : ∀ {s : State} (g : Publisher → Publisher), (g s.pub).edition = s.pub.edition → P s → P (s.onPub g)
  cycle : ∀ {s : State} (l : Life) (w a : Timer) (n : Nat), P s →
    P { s with life := l, joinWindow := w, announceTimer := a, goodFrames := n }
  load : ∀ {s : State} (h : Option Header) (r : FaultReport), P s → P { s with header := h, report := r }
  engine : ∀ {s : State} (g : GuardEngine), P s → P { s with guard := g }
  repeats : ∀ {s : State} (w : Timer), P s → P (s.onUnit (fun u => { u with tripRepeat := w }))
  finish : ∀ {s : State}, P s → P s.finish

namespace KeptStation

variable {P : State → Prop} (k : KeptStation P) {s : State}
include k

/-! ## Life cycle -/

theorem enterConfigFault (r : FaultReport) (h : P s) : P (s.enterConfigFault r) :=
  k.cycle .configFault s.joinWindow s.announceTimer s.goodFrames (k.load none r (k.loop (fun x => { x with
    line := some .busy, idleRule := .join, follow := .nothing }) h))

theorem enterJoining (h : P s) : P s.enterJoining := by
  rw [enterJoining_eq]
  exact k.cycle .joining none s.announceTimer 0 (k.pub (fun p => { p with
    lastSent := none, refresh := none, inhibitTimer := none, deferred := false, inhibit := false }) rfl (k.loop (fun x => { x with
      line := some .busy, idleRule := .join, follow := .nothing, aborts := 0, unheard := 0
      announce := announceRequest true x.idBegun x.announce }) h))

theorem withdrawFn (f : FnId) (h : P s) : P (s.withdrawFn f) := by
  unfold State.withdrawFn
  split
  next m => exact k.fn f _ (.inr (.of_flat (by rw [m]; rfl))) h
  · exact k.immediateStop f h

theorem enterWithdrawn (h : P s) : P s.enterWithdrawn := by
  have stopped := Kept.eachFn (fun f _ => k.withdrawFn f) (k.cycle .withdrawn none s.announceTimer 0 h)
  unfold State.enterWithdrawn
  dsimp only
  generalize State.eachFn State.withdrawFn _ = t at stopped
  have looped := k.loop (fun x => { x with
    trip := .empty, intent := .empty, status := .empty, announce := .empty, send := none, wait := false, lone := false })
    (k.still stopped)
  have published := k.pub (fun p => { p with
    refresh := none, inhibitTimer := none, deferred := false, inhibit := false }) rfl looped
  exact k.flow Flow.atReset (k.repeats none (k.panel (fun p => { Panel.atReset with selection := p.selection })
    (k.engine t.guard.cleared published)))

theorem headerReadComplete (bytes : List Byte) (h : P s) : Leads P (execHeaderReadComplete bytes s) :=
  .ite (fun _ => .ite (fun _ => .done (k.load (some _) s.report h)) (fun _ => .done (k.enterConfigFault _ h)))
    (fun _ => .done h)

theorem configFaultAnnounceTimer (h : P s) : Leads P (execConfigFaultAnnounceTimer s) :=
  .ite (fun _ => .done (k.announce _ (k.cycle s.life s.joinWindow none s.goodFrames h))) (fun _ => .done h)

theorem withdrawnIdleTimeout (h : P s) : Leads P (execWithdrawnIdleTimeout s) :=
  .ite (fun _ => .done (k.enterJoining h)) (fun _ => .done h)

/-- The entry to ACTIVE, for a predicate that its RESTART_HOLD keeps (R14). -/
theorem enterActive (hold : ∀ {t : State}, P t → P (t.onUnit (fun u => { u with restartHold := true }))) (h : P s) :
    P s.enterActive := by
  have first : P s.activated := by
    have looped := hold (k.loop (fun x => { x with lone := false }) h)
    have armed := k.panel (fun x => { x with
      armOpen := s.armedAtEntry s.cfg.own.panel.openB, armClose := s.armedAtEntry s.cfg.own.panel.closeB
      armStop := s.armedAtEntry s.cfg.own.panel.stop, armReset := s.armedAtEntry s.cfg.own.panel.reset
      armJogOpen := s.armedAtEntry s.cfg.own.panel.jogOpen, armJogClose := s.armedAtEntry s.cfg.own.panel.jogClose
      held := none }) (k.flash (some .lit) looped)
    exact k.cycle .active none s.announceTimer s.goodFrames armed
  have held := Kept.eachFn (fun f _ => k.holdLatched f) (k.cause first)
  have requeued : P s.requeued := by
    unfold State.requeued
    dsimp only
    split
    · exact k.requeueTrip held
    · exact held
  rw [enterActive_eq]
  exact k.settle (k.arbitrate (k.raiseCauses _ requeued))

/-! ## The line and arrivals -/

theorem stick (h : P s) : P s.stick := k.loop _ h

theorem statusLost (h : P s) : P s.statusLost := by
  unfold State.statusLost
  split
  · split
    · exact k.pub _ rfl h
    · exact h
  · exact h

theorem abort (h : P s) : P s.abort := by
  have lost := k.loop (fun x => { x.giveBack with aborts := min (x.aborts + 1) Config.abortLimit }) (k.statusLost h)
  unfold State.abort
  dsimp only
  split
  · exact k.enterWithdrawn lost
  · exact lost

theorem frameEnd (w : Wave) (h : P s) : P (s.frameEnd w) := k.loop _ h

theorem countGood (h : P s) : P s.countGood := by
  unfold State.countGood
  split
  · split
    · exact k.cycle s.life s.joinWindow s.announceTimer (s.goodFrames + 1) h
    · exact k.enterJoining h
  · exact h

/-- A good frame is delivered where its delivery keeps the predicate (R25). -/
theorem arrival (kind : FrameKind) {deliver : Frame → State → State} (w : Wave) (h : P s)
    (delivered : ∀ f : Frame, s.hears w = some f → f.kind = kind.code → f.station ≠ s.station → s.running = true →
      P (deliver f (s.frameEnd w))) : P (s.arrival kind deliver w) := by
  unfold State.arrival
  split
  · exact h
  next f e =>
    split
    next c =>
      split
      next r => exact k.countGood (delivered f e c.1 c.2 r)
      · exact k.frameEnd w h
    · exact h

theorem lineBusy (h : P s) : Leads P (execLineBusy s) := .ite (fun _ => .done (k.loop _ h)) (fun _ => .done h)

theorem lineIdle (n : Nat) (h : P s) : Leads P (execLineIdle n s) :=
  .ite (fun _ => .ite (fun _ => .done (k.announce _ (k.loop _ h))) (fun _ => .done (k.loop _ h))) (fun _ => .done h)

theorem lineStuck (n : Nat) (h : P s) : Leads P (execLineStuck n s) :=
  .ite (fun _ => .ite (fun _ => .done (k.abort (k.stick h))) (fun _ => .done (k.stick h))) (fun _ => .done h)

theorem stuckEnd (n : Nat) (h : P s) : Leads P (execStuckEnd n s) := .ite (fun _ => .done (k.loop _ h)) (fun _ => .done h)

theorem frameDropped (w : Wave) (h : P s) : Leads P (execFrameDropped w s) := by
  unfold execFrameDropped
  split
  · exact .ite (fun _ => .done (k.loop _ h)) (fun _ => .done h)
  · exact .done h

theorem undeliveredGoodFrame (w : Wave) (h : P s) : Leads P (execUndeliveredGoodFrame w s) := by
  unfold execUndeliveredGoodFrame
  split
  · exact .ite (fun _ => .done (k.countGood (k.frameEnd w h))) (fun _ => .done h)
  · exact .done h

theorem statusArrival (w : Wave) (h : P s) : Leads P (execStatusArrival w s) :=
  .done (k.arrival _ w h (fun f _ _ _ _ => k.statusDelivered f (k.frameEnd w h)))

theorem announceArrival (w : Wave) (h : P s) : Leads P (execAnnounceArrival w s) :=
  .done (k.arrival _ w h (fun f _ _ _ _ => k.announceDelivered f (k.frameEnd w h)))

theorem tripArrival (w : Wave) (h : P s) : Leads P (execTripArrival w s) :=
  .done (k.arrival _ w h (fun f _ _ _ _ => k.tripDelivered f (k.frameEnd w h)))

/-! ## Own sends -/

theorem sendStart (h : P s) : Leads P (execSendStart s) := .ite (fun _ => .done (k.loop _ h)) (fun _ => .done h)

theorem lateStart (a b : Nat) (h : P s) : Leads P (execLateStart a b s) := .ite (fun _ => .done (k.loop _ h)) (fun _ => .done h)

theorem idCellStart (h : P s) : Leads P (execIdCellStart s) := by
  unfold execIdCellStart
  split
  next m _ =>
    have taken := k.loop (fun x => { x with send := some (s.fixed m) }) h
    exact .ite (fun _ => .ite (fun _ => .done (k.pub _ rfl taken)) (fun _ => .done taken)) (fun _ => .done h)
  · exact .done h

theorem arbitrationLoss (j : Fin 8) (h : P s) : Leads P (execArbitrationLoss j s) := by
  unfold execArbitrationLoss
  split
  · exact .ite (fun _ => .done (k.loop _ (k.statusLost h))) (fun _ => .done h)
  · exact .done h

theorem sendAbort (c : AbortCause) (h : P s) : Leads P (execSendAbort c s) := by
  unfold execSendAbort
  split
  · exact .done h
  · cases c with
    | bitError => exact .ite (fun _ => .done (k.abort h)) (fun _ => .done h)
    | selfDrop r => exact .ite (fun _ => .done (k.abort (k.loop _ h))) (fun _ => .done h)
    | stuck => exact .done (k.abort (k.stick h))

theorem announceCompleted (h : P s) : P s.announceCompleted := by
  unfold State.announceCompleted
  split
  · split
    · exact k.cycle s.life (some s.timing.stale) s.announceTimer s.goodFrames h
    · exact h
  · exact k.cycle s.life s.joinWindow (some Config.announceMs) s.goodFrames h
  · exact h

theorem tripCompleted (h : P s) : P s.tripCompleted := by
  unfold State.tripCompleted
  split
  · exact k.repeats _ h
  · exact h

theorem unheardUpdate (heard : Bool) (h : P s) : P (s.unheardUpdate heard) := by
  have counted : P (if s.running then s.onLoop (Loop.count heard) else s) := by
    split
    · exact k.loop _ h
    · exact h
  unfold State.unheardUpdate
  dsimp only
  generalize (if s.running then s.onLoop (Loop.count heard) else s) = t at counted ⊢
  split
  · exact k.loneChanged (k.act (k.loop _ counted))
  · exact counted

/-- A completed send, for a predicate that its commit and the panel's own INTENT keep (R34). -/
theorem sendComplete (heard : Bool) (h : P s)
    (commit : ∀ m : Send, m.kind = .status → P ((s.onLoop Loop.complete).statusCompleted m))
    (intent : ∀ m : Send, s.loop.send = some m → m.kind = .intent → P ((s.onLoop Loop.complete).intentCompleted m)) :
    Leads P (execSendComplete heard s) := by
  unfold execSendComplete
  split
  next m e =>
    refine .ite (fun _ => .done (k.unheardUpdate heard ?_)) (fun _ => .done h)
    have ended := k.loop Loop.complete h
    unfold State.notified
    split
    next c => exact commit m c
    · exact k.announceCompleted ended
    · exact k.tripCompleted ended
    next c => exact intent m e c
  · exact .done h

theorem sendWaitEnd (n : Nat) (h : P s) : Leads P (execSendWaitEnd n s) :=
  .ite (fun _ => .done (k.loop _ h)) (fun _ => .done h)

/-! ## The publisher -/

theorem changeInhibitExpiry (h : P s) : Leads P (execChangeInhibitExpiry s) := by
  have ended := k.pub (fun p => { p with inhibitTimer := none, inhibit := false, deferred := false }) rfl h
  exact .ite (fun _ => .ite (fun _ => .done (k.loop _ ended)) (fun _ => .done ended)) (fun _ => .done h)

theorem refreshExpiry (h : P s) : Leads P (execRefreshExpiry s) :=
  .ite (fun _ => .done (k.cause (k.pub _ rfl h))) (fun _ => .done h)

theorem tripRepeatExpiry (h : P s) : Leads P (execTripRepeatExpiry s) :=
  .ite (fun _ => .ite (fun _ => .done (k.requeueTrip (k.repeats none h))) (fun _ => .done (k.repeats none h)))
    (fun _ => .done h)

/-! ## Every command -/

/-- Every command keeps the predicate, where the commands that write the configuration, the straps, the reset cause, the edition
or RESTART_HOLD keep it. -/
theorem exec (c : Instr) (h : P s)
    (reset : ∀ r, c = .resetCondition r → Leads P (execResetCondition r s))
    (leave : ∀ n b, c = .leaveReset n b → Leads P (execLeaveReset n b s))
    (image : ∀ b l, c = .imageReadComplete b l → Leads P (execImageReadComplete b l s))
    (join : c = .joinWindowExpiry → Leads P (execJoinWindowExpiry s))
    (intent : ∀ w, c = .intentArrival w → Leads P (execIntentArrival w s))
    (complete : ∀ b, c = .sendComplete b → Leads P (execSendComplete b s)) : Leads P (Machine.exec c s) := by
  refine k.toKeptEvents.exec c h (fun ours => ?_)
  cases c with
  | resetCondition r => exact reset r rfl
  | leaveReset n b => exact leave n b rfl
  | headerReadComplete b => exact k.headerReadComplete b h
  | imageReadComplete b l => exact image b l rfl
  | configFaultAnnounceTimer => exact k.configFaultAnnounceTimer h
  | joinWindowExpiry => exact join rfl
  | withdrawnIdleTimeout => exact k.withdrawnIdleTimeout h
  | lineBusy => exact k.lineBusy h
  | lineIdle n => exact k.lineIdle n h
  | lineStuck n => exact k.lineStuck n h
  | stuckEnd n => exact k.stuckEnd n h
  | frameDropped w => exact k.frameDropped w h
  | undeliveredGoodFrame w => exact k.undeliveredGoodFrame w h
  | statusArrival w => exact k.statusArrival w h
  | announceArrival w => exact k.announceArrival w h
  | intentArrival w => exact intent w rfl
  | tripArrival w => exact k.tripArrival w h
  | sendStart => exact k.sendStart h
  | lateStart a b => exact k.lateStart a b h
  | idCellStart => exact k.idCellStart h
  | arbitrationLoss j => exact k.arbitrationLoss j h
  | sendAbort a => exact k.sendAbort a h
  | sendComplete b => exact complete b rfl
  | sendWaitEnd n => exact k.sendWaitEnd n h
  | changeInhibitExpiry => exact k.changeInhibitExpiry h
  | refreshExpiry => exact k.refreshExpiry h
  | tripRepeatExpiry => exact k.tripRepeatExpiry h
  | _ => cases ours

end KeptStation

end Sys2Proof.Machine
end

section
/-! What changes at its own events only: the configuration, the straps, the reset cause, the edition and RESTART_HOLD (R1, R3, R11,
R14, R50, R150), and the model's own queue and choice. -/

namespace Sys2Proof.Machine

/-- The reset cause, the choice and the queue are those of a first state, and the straps, the configuration, the edition and
RESTART_HOLD are as four conditions say. -/
structure Owned (s : State) (straps : StationId × BitRate → Prop) (setup : Option Setup → Prop) (edition : BitVec 3 → Prop)
    (hold : Bool → Prop) (t : State) : Prop where
  straps : straps (t.station, t.bitRate)
  resetCause : t.resetCause = s.resetCause
  choice : t.choice = s.choice
  pending : t.pending = s.pending
  setup : setup t.setup
  edition : edition t.pub.edition
  hold : hold t.unit.restartHold

section
variable {s t u : State} {z : StationId × BitRate → Prop} {a : Option Setup → Prop}
  {b : BitVec 3 → Prop} {c : Bool → Prop}

/-- A state with the same values has them as well. -/
theorem Owned.congr (h : Owned s z a b c t) (station : u.station = t.station) (bitRate : u.bitRate = t.bitRate)
    (cause : u.resetCause = t.resetCause) (choice : u.choice = t.choice) (pending : u.pending = t.pending)
    (setup : u.setup = t.setup) (edition : u.pub.edition = t.pub.edition)
    (hold : u.unit.restartHold = t.unit.restartHold) : Owned s z a b c u :=
  ⟨by rw [station, bitRate]; exact h.straps, cause.trans h.resetCause, choice.trans h.choice, pending.trans h.pending,
    setup ▸ h.setup, edition ▸ h.edition, hold ▸ h.hold⟩

theorem Owned.tripped (h : Owned s z a b c t) (k : Tripped t u) : Owned s z a b c u := by
  have e := k.rest
  exact h.congr (by rw [e]) (by rw [e]) (by rw [e]) (by rw [e]) (by rw [e]) (by rw [e]) (by rw [e]) (by rw [e])

/-- The life cycle, the loop interface and all that follows from an event keep them. -/
theorem owned_kept (s : State) (z : StationId × BitRate → Prop) (a : Option Setup → Prop) (b : BitVec 3 → Prop) (c : Bool → Prop) :
    KeptStation (Owned s z a b c) where
  cause {t} h := h.tripped (by
    have e := statusCause_asked t
    exact ⟨by rw [statusCause_eq], e, fun x => by rw [statusCause_eq]; exact x⟩)
  guard _ h := h.congr rfl rfl rfl rfl rfl rfl rfl rfl
  fn _ _ _ h := h.congr rfl rfl rfl rfl rfl rfl rfl rfl
  drive _ _ _ h := h.congr rfl rfl rfl rfl rfl rfl rfl rfl
  still h := h.congr rfl rfl rfl rfl rfl rfl rfl rfl
  fnField _ _ h := h.congr rfl rfl rfl rfl rfl rfl rfl rfl
  flow _ h := h.congr rfl rfl rfl rfl rfl rfl rfl rfl
  trips _ h := h.congr rfl rfl rfl rfl rfl rfl rfl rfl
  asserted _ h := h.congr rfl rfl rfl rfl rfl rfl rfl rfl
  queue r h := h.tripped (queueTrip_tripped r _)
  field _ h := h.congr rfl rfl rfl rfl rfl rfl rfl rfl
  panel _ h := h.congr rfl rfl rfl rfl rfl rfl rfl rfl
  entry _ _ h := h.congr rfl rfl rfl rfl rfl rfl rfl rfl
  flash _ h := h.congr rfl rfl rfl rfl rfl rfl rfl rfl
  table _ _ h := h.congr rfl rfl rfl rfl rfl rfl rfl rfl
  window _ h := h.congr rfl rfl rfl rfl rfl rfl rfl rfl
  intent _ h := by
    unfold State.queueIntent
    split
    · exact h.congr rfl rfl rfl rfl rfl rfl rfl rfl
    · exact h
  announce _ h := by
    unfold State.queueAnnounce
    split
    · exact h.congr rfl rfl rfl rfl rfl rfl rfl rfl
    · exact h
  ramp _ _ h := h.congr rfl rfl rfl rfl rfl rfl rfl rfl
  loop _ h := h.congr rfl rfl rfl rfl rfl rfl rfl rfl
  pub _ e h := h.congr rfl rfl rfl rfl rfl rfl e rfl
  cycle _ _ _ _ h := h.congr rfl rfl rfl rfl rfl rfl rfl rfl
  load _ _ h := h.congr rfl rfl rfl rfl rfl rfl rfl rfl
  engine _ h := h.congr rfl rfl rfl rfl rfl rfl rfl rfl
  repeats _ h := h.congr rfl rfl rfl rfl rfl rfl rfl rfl
  finish h := h.congr rfl rfl rfl rfl rfl rfl rfl rfl

end

/-! ## The own entry (R58) -/

theorem entry_own (s : State) : s.entry s.station = s.ownEntry := by
  unfold State.entry
  rw [if_pos rfl]

/-- The own entry is FRESH in ACTIVE only, and its role is the own one (R58). -/
theorem ownEntry_fresh {s : State} (h : s.ownEntry.state = .fresh) : s.life = .active ∧ s.ownEntry.role = some s.role := by
  unfold State.ownEntry at h ⊢
  cases e : s.life <;> rw [e] at h
  case active => exact ⟨rfl, rfl⟩
  all_goals cases h

/-! ## The commands with an effect of their own -/

section
variable {s t : State} {z : StationId × BitRate → Prop} {a : Option Setup → Prop}
  {b : BitVec 3 → Prop} {c : Bool → Prop}

/-- A load writes the configuration (R11). -/
theorem owned_imageReadComplete (bytes : List Byte) (lines : FieldLines) (any : ∀ x, a x)
    (h : Owned s z a b c s) :
    Leads (Owned s z a b c) (execImageReadComplete bytes lines s) := by
  have k := owned_kept s z a b c
  unfold execImageReadComplete
  split
  · dsimp only
    split
    next x _ =>
      have kept : Owned s z a b c (s.loadedWith x) :=
        ⟨h.straps, h.resetCause, h.choice, h.pending, any _, h.edition, h.hold⟩
      have firsts := k.firsts lines (fun _ h => h.congr rfl rfl rfl rfl rfl rfl rfl rfl)
        (fun _ h => h.congr rfl rfl rfl rfl rfl rfl rfl rfl) kept
      rw [goodLoad_eq]
      exact .done (k.enterJoining (k.panel _ firsts))
    · exact .done (k.enterConfigFault _ h)
  · exact .done h

/-- The entry to ACTIVE sets RESTART_HOLD (R14). -/
theorem owned_joinWindowExpiry (set : c true) (h : Owned s z a b c s) : Leads (Owned s z a b c) (execJoinWindowExpiry s) :=
  .ite (fun _ => .done ((owned_kept s z a b c).enterActive
    (fun h => ⟨h.straps, h.resetCause, h.choice, h.pending, h.setup, h.edition, set⟩) h)) (fun _ => .done h)

/-- A RESET arrival ends RESTART_HOLD (R150). -/
theorem owned_resetArrival (clear : c false) (h : Owned s z a b c t) : Owned s z a b c t.resetArrival :=
  (owned_kept s z a b c).resetArrival
    (fun _ h => ⟨h.straps, h.resetCause, h.choice, h.pending, h.setup, h.edition, clear⟩)
    (fun _ h => h.congr rfl rfl rfl rfl rfl rfl rfl rfl) h

/-- An INTENT is judged: a condition on RESTART_HOLD stays true where it holds of a cleared one, or the INTENT is no RESET. -/
theorem owned_takeIntent (n : StationId) (i : IntentFrame)
    (clear : (t.entry n).state = .fresh → ∀ r : Role, (t.entry n).role = some r → r.allows .reset = true → i.kind = .reset →
      c false) (h : Owned s z a b c t) : Owned s z a b c (t.takeIntent n i) :=
  (owned_kept s z a b c).takeIntent n i (fun f r e al k => owned_resetArrival (clear f r e al k) h) h

/-- The INTENT of a peer that clears RESTART_HOLD is a RESET arrival (R147, R150). -/
theorem owned_intentArrival (w : Wave) (clear : ResetArrives (.intentArrival w) s → c false) (h : Owned s z a b c s) :
    Leads (Owned s z a b c) (execIntentArrival w s) := by
  have k := owned_kept s z a b c
  refine .done (k.arrival _ w h (fun f e kind other run => ?_))
  have ended := k.frameEnd w h
  unfold State.intentDelivered
  split
  next i d =>
    refine owned_takeIntent f.station i (fun fresh r role allows reset => clear ?_) ended
    rw [entry_other (by exact other)] at fresh role
    refine .inl ⟨w, f, r, i.underway, rfl, run, e, kind, other, ?_, fresh, role, ?_⟩
    · rw [d, ← reset]
    · cases r <;> simp [Role.allows] at allows ⊢
  · exact ended

/-- The completion of a panel's own INTENT that clears RESTART_HOLD is a RESET arrival (R146, R150). -/
theorem owned_sendComplete (heard : Bool) (any : ∀ x, b x) (clear : ResetArrives (.sendComplete heard) s → c false)
    (h : Owned s z a b c s) : Leads (Owned s z a b c) (execSendComplete heard s) := by
  have k := owned_kept s z a b c
  have ended := k.loop Loop.complete h
  refine k.sendComplete heard h (fun m _ => ?_) (fun m e kind => ?_)
  · exact ⟨ended.straps, ended.resetCause, ended.choice, ended.pending, ended.setup, any _, ended.hold⟩
  · unfold State.intentCompleted
    split
    · exact ended
    next i d =>
      refine owned_takeIntent _ i (fun fresh r role allows reset => clear ?_) (k.panel _ ended)
      have entry := entry_own ((s.onLoop Loop.complete).onPanel (fun p => { p with
        refresh := if i.kind.repeats then some s.timing.intentRefresh else none
        refreshKind := if i.kind.repeats then some i.kind else none }))
      obtain ⟨life, known⟩ := ownEntry_fresh (entry ▸ fresh)
      have same : r = s.role := Option.some.inj (role.symm.trans ((congrArg Entry.role entry).trans known))
      refine .inr ⟨heard, m, i.underway, rfl, ?_, ?_, e, kind, ?_⟩
      · rw [State.isActive, beq_iff_eq]
        exact life
      · rw [same] at allows
        unfold State.isPanel
        cases q : s.role <;> rw [q] at allows <;> first | rfl | cases allows
      · rw [d, ← reset]

end

/-! ## Every command -/

theorem holdLatched_noticed (f : FnId) (s : State) : Noticed s (s.holdLatched f) := by
  unfold State.holdLatched
  split
  · exact (toIdle_moved _ f s).act.noticed
  · exact .refl s

theorem requeued_tripped (s : State) : Tripped s.activated.statusCause s.requeued := by
  have held := (eachFn_noticed holdLatched_noticed s.activated.statusCause).tripped
  unfold State.requeued
  dsimp only
  split
  · exact held.trans (requeueTrip_tripped _)
  · exact held

theorem raiseCauses_tripped : ∀ (n : Nat) (s : State), Tripped s (State.raiseCauses n s)
  | 0, s => .refl s
  | n + 1, s => (raiseCause_tripped s).trans (raiseCauses_tripped n s.raiseCause)

/-- The entry to ACTIVE changes, beyond itself and the STATUS it queues, what a trip may (R14). -/
theorem enterActive_caused (s : State) : Tripped s.activated.statusCause s.enterActive := by
  rw [enterActive_eq]
  exact (((requeued_tripped s).trans (raiseCauses_tripped _ _)).trans (arbitrate_noticed _).tripped).trans
    (settle_settled _).noticed.tripped

theorem enterActive_tripped (s : State) : Tripped s.activated s.enterActive := by
  have caused : Tripped s.activated s.activated.statusCause :=
    ⟨by rw [statusCause_eq], statusCause_asked _, fun x => by rw [statusCause_eq]; exact x⟩
  exact caused.trans (enterActive_caused s)

/-- RESTART_HOLD rises at the entry to ACTIVE, and nowhere else at this command (R14). -/
theorem joinWindowExpiry_holds {s t : State} (e : execJoinWindowExpiry s = .next t) (old : s.unit.restartHold = false)
    (new : t.unit.restartHold = true) : s.life = .joining ∧ t.life = .active := by
  unfold execJoinWindowExpiry at e
  split at e
  next c =>
    obtain ⟨l, -⟩ := c
    have tripped := enterActive_tripped s
    generalize s.enterActive = u at e tripped
    have ends : u.finish = t := Host.Outcome.next.inj e
    rw [← ends]
    exact ⟨l, tripped.life⟩
  · have ends : s.finish = t := Host.Outcome.next.inj e
    rw [← ends, State.finish_unit, old] at new
    cases new

/-- The values that a command leaves: the configuration, the edition and RESTART_HOLD as at its start but at their own events. -/
def OwnedAt (c : Instr) (s : State) : State → Prop :=
  Owned s (· = (s.station, s.bitRate)) (fun x => (∀ b l, c ≠ .imageReadComplete b l) → x = s.setup)
    (fun x => (∀ h, c ≠ .sendComplete h) → x = s.pub.edition)
    (fun x => (s.unit.restartHold = true → ¬ResetArrives c s → x = true) ∧
      (s.unit.restartHold = false → x = true → c = .joinWindowExpiry))

theorem OwnedAt.refl (c : Instr) (s : State) : OwnedAt c s s :=
  ⟨rfl, rfl, rfl, rfl, fun _ => rfl, fun _ => rfl, fun h _ => h, fun h h' => by rw [h] at h'; cases h'⟩

/-- Each command but a reset and LEAVE_RESET leaves them so. -/
theorem owned_exec (c : Instr) (s : State) (reset : ∀ r, c ≠ .resetCondition r) (leave : ∀ n b, c ≠ .leaveReset n b) :
    Leads (OwnedAt c s) (exec c s) := by
  have k : KeptStation (OwnedAt c s) := owned_kept s _ _ _ _
  have first := OwnedAt.refl c s
  refine k.exec c first (fun r e => absurd e (reset r)) (fun n b e => absurd e (leave n b)) ?_ ?_ ?_ ?_
  · rintro b l rfl
    exact owned_imageReadComplete b l (fun _ other => absurd rfl (other b l)) first
  · rintro rfl
    exact owned_joinWindowExpiry ⟨fun _ _ => rfl, fun _ _ => rfl⟩ first
  · rintro w rfl
    exact owned_intentArrival w (fun arrives => ⟨fun _ none => absurd arrives none, fun _ t => by cases t⟩) first
  · rintro b rfl
    exact owned_sendComplete b (fun _ other => absurd rfl (other b))
      (fun arrives => ⟨fun _ none => absurd arrives none, fun _ t => by cases t⟩) first

/-- Settles O51, by what every command keeps; LEAVE_RESET samples the straps and keeps the rest. -/
theorem ownEventsOnly : Obligations.OwnEventsOnly := by
  unfold Obligations.OwnEventsOnly
  intro c s t e reset
  by_cases leave : ∃ n b, c = .leaveReset n b
  · obtain ⟨n, b, rfl⟩ := leave
    have left : ∃ u : State, t = u ∧ u.setup = s.setup ∧ u.resetCause = s.resetCause ∧ u.choice = s.choice ∧
        u.pending = s.pending ∧ u.pub = s.pub ∧ u.unit = s.unit := by
      change execLeaveReset n b s = _ at e
      unfold execLeaveReset at e
      split at e <;> cases e <;> exact ⟨_, rfl, rfl, rfl, rfl, rfl, rfl, rfl⟩
    obtain ⟨u, rfl, setup, cause, choice, pending, pub, unit⟩ := left
    refine ⟨fun _ => setup, fun other => absurd rfl (other n b), cause, choice, pending, fun _ => by rw [pub],
      fun h _ => by rw [unit]; exact h, fun h h' => ?_⟩
    rw [unit, h] at h'
    cases h'
  · have kept := (owned_exec c s reset (fun n b e => leave ⟨n, b, e⟩)).next (fun u h => (owned_kept s _ _ _ _).finish h) e
    have straps := kept.straps
    refine ⟨kept.setup, fun _ => ⟨congrArg Prod.fst straps, congrArg Prod.snd straps⟩, kept.resetCause, kept.choice,
      kept.pending, kept.edition, kept.hold.1, fun old new => ?_⟩
    have join := kept.hold.2 old new
    subst join
    exact ⟨rfl, joinWindowExpiry_holds e old new⟩

end Sys2Proof.Machine
end

section
/-! The law of levels under every command (R7, R135): a level lies within the travel level of the profile in use, and is 0 in the
states that have no level. -/

namespace Sys2Proof.Machine

/-! ## The ramp stage (R131 to R136) -/

theorem rampStep_le {rate target lo bound : Nat} (t : target ≤ bound) (l : lo ≤ bound) : rampStep rate target lo ≤ bound := by
  unfold rampStep
  split <;> omega

/-- The base level runs between the creep level and the travel level (R132). -/
theorem baseLevel_le {p : Profile} (h : p.creepLevel ≤ p.travelLevel) (d : Nat) : baseLevel p d ≤ p.travelLevel := by
  unfold baseLevel
  split
  · exact le_rfl
  next c =>
    have share : (p.travelLevel - p.creepLevel) * d / p.creepZone ≤ p.travelLevel - p.creepLevel := by
      refine Nat.div_le_of_le_mul ?_
      rw [Nat.mul_comm p.creepZone]
      exact Nat.mul_le_mul_left _ (by omega)
    omega

theorem skewed_le (p : Profile) (base n : Nat) : skewed p base n ≤ base := by
  unfold skewed
  split
  · exact Nat.sub_le _ _
  · exact le_rfl

theorem correctedLevel_le {s : State} {f : FnId} (h : (s.profile f).creepLevel ≤ (s.profile f).travelLevel) (d : Dir) :
    s.correctedLevel f d ≤ (s.profile f).travelLevel := by
  unfold State.correctedLevel
  dsimp only
  split
  · exact (skewed_le _ _ _).trans (baseLevel_le h _)
  · exact baseLevel_le h _

/-! ## The law as an invariant of every event -/

/-- The level of every function lies within its travel level, and is 0 where its state has none. -/
def LevelsOk (s : State) : Prop :=
  ∀ f : FnId, (s.drive[f]).level ≤ (s.profile f).travelLevel ∧ ((s.fns[f]).motion.flat = true → (s.drive[f]).level = 0)

/-- The profiles of the configuration in use, and the levels within them. -/
def Levelled (s : State) : Prop := ProfilesOk s ∧ LevelsOk s

/-- Every level is 0, as it is outside ACTIVE. -/
def Unlevelled (s : State) : Prop := ProfilesOk s ∧ ∀ f : FnId, (s.drive[f]).level = 0

theorem Unlevelled.levelled {s : State} (h : Unlevelled s) : Levelled s :=
  ⟨h.1, fun f => ⟨by rw [h.2 f]; exact Nat.zero_le _, fun _ => h.2 f⟩⟩

theorem ProfilesOk.congr {s t : State} (h : ProfilesOk s) (e : t.setup = s.setup) : ProfilesOk t := by
  intro f x d c
  refine h f x d ?_
  rw [State.fnSetup, State.cfg, ← e]
  exact c

theorem profile_congr {s t : State} {f : FnId} (setup : t.setup = s.setup) (target : (t.fns[f]).target = (s.fns[f]).target) :
    t.profile f = s.profile f := by
  unfold State.profile State.fnSetup State.cfg
  rw [setup, target]

theorem Levelled.congr {s t : State} (h : Levelled s) (setup : t.setup = s.setup) (fns : t.fns = s.fns)
    (drive : t.drive = s.drive) : Levelled t := by
  refine ⟨h.1.congr setup, fun f => ?_⟩
  rw [profile_congr setup (by rw [fns]), fns, drive]
  exact h.2 f

/-- A profile that is in use has its creep level within its travel level (R7). -/
theorem ProfilesOk.inUse {s : State} (h : ProfilesOk s) (f : FnId) :
    (s.profile f).creepLevel ≤ (s.profile f).travelLevel := by
  unfold State.profile
  split
  next x d e _ => exact (h f x d e).1
  · exact le_rfl

/-- The level that the ramp stage leaves lies within the travel level (R131 to R136). -/
theorem nextLevel_le {s : State} (h : Levelled s) (f : FnId) : s.nextLevel f ≤ (s.profile f).travelLevel := by
  have creep := h.1.inUse f
  have now := (h.2 f).1
  unfold State.nextLevel
  dsimp only
  split
  · exact rampStep_le (correctedLevel_le creep _) now
  · exact rampStep_le (correctedLevel_le creep _) now
  · exact rampStep_le creep now
  · exact rampStep_le (Nat.zero_le _) now
  · exact Nat.zero_le _

theorem nextLevel_flat {s : State} {f : FnId} (h : (s.fns[f]).motion.flat = true) : s.nextLevel f = 0 := by
  unfold State.nextLevel
  dsimp only
  cases m : (s.fns[f]).motion <;> rw [m] at h <;> first | rfl | cases h

/-- A change of one function controller (R112, R135). -/
theorem Levelled.onFn {s : State} (h : Levelled s) (f : FnId) (g : Fn → Fn)
    (slides : (s.drive[f]).level = 0 ∨ Fn.Slides s.fns[f] (g s.fns[f])) : Levelled (s.onFn f g) := by
  refine ⟨h.1.congr rfl, fun i => ?_⟩
  obtain ⟨within, zero⟩ := h.2 i
  rw [State.onFn_drive]
  by_cases e : f = i
  · subst e
    by_cases z : (s.drive[f]).level = 0
    · exact ⟨by rw [z]; exact Nat.zero_le _, fun _ => z⟩
    · obtain ⟨target, flat⟩ := slides.resolve_left z
      rw [State.onFn_same]
      refine ⟨?_, fun m => zero (flat m)⟩
      rw [profile_congr (t := s.onFn f g) (s := s) rfl]
      · exact within
      · rw [State.onFn_same]
        exact target.resolve_right (fun m => z (zero m))
  · rw [profile_congr (t := s.onFn f g) (s := s) rfl (by rw [State.onFn_other s g e]), State.onFn_other s g e]
    exact ⟨within, zero⟩

/-- A change of one valve drive, to a level that its state and profile allow. -/
theorem Levelled.onDrive {s : State} (h : Levelled s) (f : FnId) (g : Drive → Drive)
    (within : (g s.drive[f]).level ≤ (s.profile f).travelLevel)
    (zero : (s.fns[f]).motion.flat = true → (g s.drive[f]).level = 0) : Levelled (s.onDrive f g) := by
  refine ⟨h.1.congr rfl, fun i => ?_⟩
  rw [profile_congr (t := s.onDrive f g) (s := s) rfl rfl, State.onDrive_fns]
  by_cases e : f = i
  · subst e
    rw [State.onDrive_same]
    exact ⟨within, zero⟩
  · rw [State.onDrive_other s g e]
    exact h.2 i

theorem Unlevelled.onDrive {s : State} (h : Unlevelled s) (f : FnId) (g : Drive → Drive) (zero : (g s.drive[f]).level = 0) :
    Unlevelled (s.onDrive f g) := by
  refine ⟨h.1.congr rfl, fun i => ?_⟩
  by_cases e : f = i
  · subst e
    rw [State.onDrive_same]
    exact zero
  · rw [State.onDrive_other s g e]
    exact h.2 i

theorem replicate_off_level (f : FnId) : ((Vector.replicate 4 Drive.off)[f]).level = 0 := by
  simp [Drive.off]

theorem queueTrip_fields (r : TripReason) (s : State) :
    (s.queueTrip r).setup = s.setup ∧ (s.queueTrip r).fns = s.fns ∧ (s.queueTrip r).drive = s.drive := by
  unfold State.queueTrip
  split <;> exact ⟨rfl, rfl, rfl⟩

theorem statusCause_fields (s : State) :
    s.statusCause.setup = s.setup ∧ s.statusCause.fns = s.fns ∧ s.statusCause.drive = s.drive := by
  rw [statusCause_eq]
  exact ⟨rfl, rfl, rfl⟩

theorem levelled_kept : KeptStation Levelled where
  cause {s} h := h.congr (statusCause_fields s).1 (statusCause_fields s).2.1 (statusCause_fields s).2.2
  guard _ h := h.congr rfl rfl rfl
  fn f g slides h := h.onFn f g slides
  drive {s} f g level h := by
    rcases level with z | same
    · exact h.onDrive f g (by rw [z]; exact Nat.zero_le _) (fun _ => z)
    · exact h.onDrive f g (by rw [same]; exact (h.2 f).1) (fun m => by rw [same]; exact (h.2 f).2 m)
  still h := ⟨h.1.congr rfl, fun f => by
    rw [replicate_off_level f]
    exact ⟨Nat.zero_le _, fun _ => rfl⟩⟩
  fnField _ _ h := h.congr rfl rfl rfl
  flow _ h := h.congr rfl rfl rfl
  trips _ h := h.congr rfl rfl rfl
  asserted _ h := h.congr rfl rfl rfl
  queue {s} r h := h.congr (queueTrip_fields r s).1 (queueTrip_fields r s).2.1 (queueTrip_fields r s).2.2
  field _ h := h.congr rfl rfl rfl
  panel _ h := h.congr rfl rfl rfl
  entry _ _ h := h.congr rfl rfl rfl
  flash _ h := h.congr rfl rfl rfl
  table _ _ h := h.congr rfl rfl rfl
  window _ h := h.congr rfl rfl rfl
  intent _ h := by
    unfold State.queueIntent
    split
    · exact h.congr rfl rfl rfl
    · exact h
  announce _ h := by
    unfold State.queueAnnounce
    split
    · exact h.congr rfl rfl rfl
    · exact h
  ramp f _ h := h.onDrive f _ (nextLevel_le h f) (fun m => nextLevel_flat m)
  loop _ h := h.congr rfl rfl rfl
  pub _ _ h := h.congr rfl rfl rfl
  cycle _ _ _ _ h := h.congr rfl rfl rfl
  load _ _ h := h.congr rfl rfl rfl
  engine _ h := h.congr rfl rfl rfl
  repeats _ h := h.congr rfl rfl rfl
  finish h := h.congr rfl rfl rfl

theorem Unlevelled.congr {s t : State} (h : Unlevelled s) (setup : t.setup = s.setup) (drive : t.drive = s.drive) :
    Unlevelled t := ⟨h.1.congr setup, fun f => by rw [drive]; exact h.2 f⟩

theorem unlevelled_kept : KeptTrips Unlevelled where
  cause {s} h := h.congr (statusCause_fields s).1 (statusCause_fields s).2.2
  guard _ h := h.congr rfl rfl
  fn _ _ _ h := h.congr rfl rfl
  drive f g level h := h.onDrive f g (level.elim id (fun e => e.trans (h.2 f)))
  still h := ⟨h.1.congr rfl, replicate_off_level⟩
  fnField _ _ h := h.congr rfl rfl
  flow _ h := h.congr rfl rfl
  trips _ h := h.congr rfl rfl
  asserted _ h := h.congr rfl rfl
  queue {s} r h := h.congr (queueTrip_fields r s).1 (queueTrip_fields r s).2.2

/-! ## The profiles of a load (R7) -/

theorem readAll_some {α β : Type} {read : α → Option β} : ∀ {xs : List α} {ys : List β}, readAll read xs = some ys →
    xs.map read = ys.map some
  | [], ys, h => by cases h; rfl
  | x :: xs, ys, h => by
      unfold readAll at h
      split at h
      next y zs hy hz =>
        cases h
        rw [List.map_cons, List.map_cons, hy, readAll_some hz]
      · cases h

/-- Both profiles of a function that was read lie in their ranges. -/
theorem readFnSetup_inRange {bs : List Byte} {os cs : List (List Byte)} {x : FnSetup} (h : readFnSetup bs os cs = some x) :
    x.openProfile.inRange = true ∧ x.closeProfile.inRange = true := by
  unfold readFnSetup at h
  dsimp only at h
  split at h
  · split at h
    · cases h
    next c =>
      cases h
      simp only [Bool.or_eq_true, Bool.not_eq_true', not_or, Bool.not_eq_false] at c
      exact ⟨c.1.1.2, c.1.2⟩
  · cases h

theorem readFn_inRange {r : RawFn} {x : FnSetup} (h : readFn r = some (some x)) :
    x.openProfile.inRange = true ∧ x.closeProfile.inRange = true := by
  cases r with
  | unconfigured => cases h
  | configured bs os cs =>
    obtain ⟨y, hy, e⟩ := Option.map_eq_some_iff.mp h
    cases e
    exact readFnSetup_inRange hy

/-- A slot of four holds an element of the list, or the default. -/
theorem fourOf_mem {α : Type} {d x : α} {xs : List α} (f : FnId) (h : (fourOf d xs)[f] = x) : x ∈ xs ∨ x = d := by
  subst h
  have slot : ∀ n : Nat, xs.getD n d ∈ xs ∨ xs.getD n d = d := by
    intro n
    rw [List.getD_eq_getElem?_getD]
    cases e : xs[n]? with
    | none => exact .inr rfl
    | some y => exact .inl (List.mem_of_getElem? e)
  fin_cases f
  · exact slot 0
  · exact slot 1
  · exact slot 2
  · exact slot 3

/-- An element that was read comes from an element of the section. -/
theorem mem_of_readAll {α β : Type} {read : α → Option β} {xs : List α} {ys : List β} (h : readAll read xs = some ys) {y : β}
    (m : y ∈ ys) : ∃ x ∈ xs, read x = some y := by
  have mem : some y ∈ xs.map read := by
    rw [readAll_some h]
    exact List.mem_map_of_mem m
  exact List.mem_map.mp mem

/-- The functions of the own section are those of a MOTION section's records. -/
theorem readOwn_fn {r : RawSection} {o : OwnSection} (h : readOwn r = some o) {f : FnId} {x : FnSetup}
    (e : o.fns[f] = some x) : ∃ w ∈ r.fns, readFn w = some (some x) := by
  have blank : ∀ {y : FnSetup}, (OwnSection.blank.fns)[f] ≠ some y := by
    intro y c
    simp [OwnSection.blank] at c
  unfold readOwn at h
  split at h
  · cases h
  · dsimp only at h
    split at h
    · cases h
    · split at h
      · cases h
      next fs all =>
        split at h
        · cases h
          rcases fourOf_mem f e with m | c
          · exact mem_of_readAll all m
          · cases c
        · cases h
    · split at h
      · cases h; exact absurd e blank
      · cases h
    · obtain ⟨es, -, rfl⟩ := Option.map_eq_some_iff.mp h
      exact absurd e blank
    · obtain ⟨es, -, rfl⟩ := Option.map_eq_some_iff.mp h
      exact absurd e blank
    · cases h; exact absurd e blank

/-- What a good load has read of its own section (R7, R11). -/
theorem loadImage_own {own : StationId} {hd : Header} {body : List Byte} {c : Setup}
    (h : (loadImage own hd body).result = .ok c) : ∃ r : RawSection, readOwn r = some c.own := by
  unfold loadImage at h
  split at h
  · cases h
  · dsimp only at h
    split at h
    · cases h
    · split at h
      · cases h
      next o read =>
        obtain ⟨r, -, ro⟩ := Option.bind_eq_some_iff.mp read
        split at h
        · cases h
        · split at h
          · cases h
          · split at h
            · cases h
            · split at h
              · cases h
              · cases h; exact ⟨r, ro⟩

theorem inRange_levels {p : Profile} (h : p.inRange = true) : p.creepLevel ≤ p.travelLevel ∧ p.travelLevel ≤ 1000 := by
  simp only [Profile.inRange, within, Bool.and_eq_true, decide_eq_true_eq] at h
  omega

/-- A good load leaves profiles in range (R7). -/
theorem loaded_profiles {own : StationId} {hd : Header} {body : List Byte} {c : Setup} {s : State}
    (h : (loadImage own hd body).result = .ok c) (e : s.setup = some c) : ProfilesOk s := by
  obtain ⟨r, ro⟩ := loadImage_own h
  intro f x d hx
  rw [State.fnSetup, State.cfg, e] at hx
  obtain ⟨w, -, hw⟩ := readOwn_fn ro hx
  obtain ⟨op, cp⟩ := readFn_inRange hw
  cases d
  · exact inRange_levels op
  · exact inRange_levels cp

/-! ## Every command -/

/-- Outside ACTIVE no function moves, so every level is 0 (R112, R139). -/
theorem MotionLaws.unlevelled {s : State} (h : MotionLaws s) (p : ProfilesOk s) (i : s.isActive = false) : Unlevelled s := by
  refine ⟨p, fun f => ?_⟩
  have still : (s.fns[f]).motion.moving = false := by
    by_contra m
    have claims : (s.fns[f]).motion.claims = true := by
      cases e : (s.fns[f]).motion <;> rw [e] at m <;> first | rfl | exact absurd rfl m
    have gate := ((h f).gate claims).1
    simp [State.gateOpen, i] at gate
  rw [(h f).off still]
  rfl

theorem MotionLaws.levelled {s : State} (h : MotionLaws s) (p : ProfilesOk s) (l : LevelLaws s) : Levelled s := by
  refine ⟨p, fun f => ⟨(l f).1, fun flat => ?_⟩⟩
  simp only [Motion.flat, Bool.or_eq_true, Bool.not_eq_true', beq_iff_eq] at flat
  rcases flat with still | pressurise
  · rw [(h f).off still]
    rfl
  · exact (l f).2 pressurise

theorem levelled_reset (cause : ResetCause) (s : State) : Leads Levelled (execResetCondition cause s) := by
  refine .done (Unlevelled.levelled ⟨?_, replicate_off_level⟩)
  intro f x d c
  have none : (OwnSection.blank.fns)[f] = Option.none := by simp [OwnSection.blank]
  cases none.symm.trans c

/-- A load finds every level at 0 and leaves profiles in range (R7, R11, R128). -/
theorem levelled_imageReadComplete {s : State} (bytes : List Byte) (lines : FieldLines) (h : Levelled s)
    (off : s.isActive = false → Unlevelled s) : Leads Levelled (execImageReadComplete bytes lines s) := by
  unfold execImageReadComplete
  split
  next l _ =>
    have zero := (off (by rw [State.isActive, l]; rfl)).2
    dsimp only
    split
    next c good =>
      have kept : Unlevelled (s.loadedWith c) := ⟨loaded_profiles good rfl, zero⟩
      have firsts := unlevelled_kept.firsts lines (fun _ h => h.congr rfl rfl) (fun _ h => h.congr rfl rfl) kept
      rw [goodLoad_eq]
      exact .done (levelled_kept.enterJoining (levelled_kept.panel _ firsts.levelled))
    · exact .done (levelled_kept.enterConfigFault _ h)
  · exact .done h

theorem levelled_resetArrival {s : State} (h : Levelled s) : Levelled s.resetArrival :=
  levelled_kept.resetArrival (fun _ h => h.congr rfl rfl rfl) (fun _ h => h.congr rfl rfl rfl) h

theorem levelled_intentArrival {s : State} (w : Wave) (h : Levelled s) : Leads Levelled (execIntentArrival w s) := by
  refine .done (levelled_kept.arrival _ w h (fun f _ _ _ _ => ?_))
  have ended := levelled_kept.frameEnd w h
  unfold State.intentDelivered
  split
  · exact levelled_kept.takeIntent _ _ (fun _ _ _ _ _ => levelled_resetArrival ended) ended
  · exact ended

theorem levelled_sendComplete {s : State} (heard : Bool) (h : Levelled s) : Leads Levelled (execSendComplete heard s) := by
  have ended := levelled_kept.loop Loop.complete h
  refine levelled_kept.sendComplete heard h (fun m _ => ended.congr rfl rfl rfl) (fun m _ _ => ?_)
  unfold State.intentCompleted
  split
  · exact ended
  · exact levelled_kept.takeIntent _ _ (fun _ _ _ _ _ => levelled_resetArrival (levelled_kept.panel _ ended))
      (levelled_kept.panel _ ended)

theorem levelled_exec (c : Instr) {s : State} (h : Levelled s) (off : s.isActive = false → Unlevelled s) :
    Leads Levelled (exec c s) := by
  refine levelled_kept.exec c h (fun r _ => levelled_reset r s) (fun n b _ => ?_)
    (fun b l _ => levelled_imageReadComplete b l h off) (fun _ => ?_) (fun w _ => levelled_intentArrival w h)
    (fun b _ => levelled_sendComplete b h)
  · exact .ite (fun _ => .done (h.congr rfl rfl rfl)) (fun _ => .done h)
  · exact .ite (fun _ => .done (levelled_kept.enterActive (fun h => h.congr rfl rfl rfl) h)) (fun _ => .done h)

theorem Levelled.laws {s : State} (h : Levelled s) : ProfilesOk s ∧ LevelLaws s :=
  ⟨h.1, fun f => ⟨(h.2 f).1, fun m => (h.2 f).2 (by rw [m]; rfl)⟩⟩

/-- Settles O42, by the stronger law that every state without a level has its level at 0. -/
theorem levelLawsKept : Obligations.LevelLawsKept := by
  unfold Obligations.LevelLawsKept
  intro s t motion profiles levels e
  have first := motion.levelled profiles levels
  unfold step at e
  split at e
  · cases e; exact first.laws
  next rest _ =>
    have front : Levelled { s with pending := rest } := first.congr rfl rfl rfl
    have off : ({ s with pending := rest } : State).isActive = false → Unlevelled { s with pending := rest } :=
      fun i => (motion.unlevelled profiles i).congr rfl rfl
    exact ((levelled_exec _ front off).next (fun _ h => levelled_kept.finish h) e).laws

end Sys2Proof.Machine
end

section
/-! The station right after a reset (R2, R3). -/

namespace Sys2Proof.Machine

/-! ## The laws at reset -/

@[simp] theorem reset_fns (f : FnId) : State.reset.fns[f] = Fn.atReset := by simp [State.reset]
@[simp] theorem reset_drive (f : FnId) : State.reset.drive[f] = Drive.off := by simp [State.reset]
@[simp] theorem reset_image (n : StationId) : State.reset.image[n] = Entry.atReset := by simp [State.reset]
@[simp] theorem reset_fnField (f : FnId) : State.reset.field.fns[f] = FnField.atReset := by
  simp [State.reset, FieldInputs.afterReset]

theorem reset_fnSetup (f : FnId) : State.reset.fnSetup f = none := by
  simp [State.fnSetup, State.cfg, State.reset, Setup.blank, OwnSection.blank]

theorem motionLaws_reset : MotionLaws State.reset := by
  intro f
  constructor
  case off => exact fun _ => reset_drive f
  case target => rw [reset_fns]; rfl
  all_goals rw [reset_fns]; intro c; cases c

theorem flowLaws_reset : FlowLaws State.reset where
  once := List.nodup_nil
  size := Nat.zero_le _
  ordered := List.Pairwise.nil
  claimed _ h := nomatch h
  few := Nat.zero_le _
  apart := List.nodup_nil
  away _ := rfl
  capacity := rfl
  idle := rfl
  within := Nat.le_refl 0

theorem imageLaws_reset : ImageLaws State.reset := by
  intro n
  constructor
  case none => exact fun _ => reset_image n
  all_goals rw [reset_image]; rfl

theorem unitLaws_reset : UnitLaws State.reset where
  effective := by decide
  entries n e h := by
    have none : State.reset.unit.table[n] = Option.none := by simp [State.reset, IntentTrip.atReset]
    cases none.symm.trans h
  empty _ := ⟨rfl, rfl⟩

theorem fieldLaws_reset : FieldLaws State.reset := by
  intro f
  constructor
  case unloaded => exact fun _ => rfl
  case endState => rw [reset_fnField, State.endStateNow, reset_fnSetup]; rfl
  case open_ => rw [reset_fnField]; rfl
  case closed => rw [reset_fnField]; rfl
  case invalid => rw [reset_fns]; intro c; cases c
  case range => rw [reset_fnField]; exact .inr rfl

/-- Settles O2, law by law. -/
theorem lawsHoldAtReset : Obligations.LawsHoldAtReset := by
  unfold Obligations.LawsHoldAtReset
  refine ⟨motionLaws_reset, ?_, ?_, flowLaws_reset, loopLaws_atReset rfl rfl rfl rfl, imageLaws_reset, rfl, unitLaws_reset,
    fieldLaws_reset⟩
  · intro f x d h
    cases (reset_fnSetup f).symm.trans h
  · intro f
    rw [reset_drive]
    exact ⟨Nat.zero_le _, fun _ => rfl⟩

/-! ## A reset condition -/

/-- Every valve output is off where the gate is closed (R139, R140). -/
theorem outputsOff_of_gate {s : State} (h : s.gateOpen = false) : OutputsOff s := by
  refine ⟨fun n => ?_, fun f => by simp [State.proportionalOut, h], by simp [State.dv, h]⟩
  simp [State.so, State.contactorOut, State.solenoidOut, State.solenoidEnergised, h]

theorem gateOpen_inactive {s : State} (h : s.isActive = false) : s.gateOpen = false := by simp [State.gateOpen, h]

/-- Settles O3: the state after a reset, field by field. -/
theorem resetConditionInitialises : Obligations.ResetConditionInitialises := by
  unfold Obligations.ResetConditionInitialises
  intro cause s
  refine ⟨_, rfl, rfl, rfl, rfl, rfl, ⟨rfl, rfl, rfl⟩, outputsOff_of_gate (gateOpen_inactive rfl), fun n => ?_, ?_, ?_, ?_,
    ?_, ?_, ?_, ?_, ?_, rfl, ?_, ?_, ?_, ?_, rfl, rfl, rfl⟩
  · rfl
  · exact ⟨rfl, rfl, rfl, rfl, rfl, rfl, rfl, rfl, rfl, rfl, rfl, rfl⟩
  · exact ⟨rfl, rfl, rfl, rfl, rfl, rfl⟩
  · intro n
    simp [State.reset, Entry.atReset, IntentTrip.atReset]
  · exact ⟨rfl, rfl, rfl, rfl, rfl⟩
  · intro f
    simp [State.reset, Fn.atReset, Fn.quiet]
  · intro f
    simp [FieldInputs.afterReset, FnField.atReset, EndPair.agreed, Config.noPosition]
  · intro f d
    cases d <;> simp [State.reset, GuardEngine.blank, FnGuard.blank, FnGuard.permits, Permits.blank, Config.noBlocking]
  · intro n
    simp [State.reset, GuardEngine.blank, Lamp.blank]
  · intro i
    simp [FieldInputs.afterReset, Discrete.atReset]
  · exact ⟨rfl, rfl, rfl, rfl, rfl, rfl⟩
  · exact ⟨rfl, rfl, rfl, rfl, rfl, rfl, rfl, rfl, rfl⟩
  · exact ⟨rfl, rfl, rfl, rfl, rfl, rfl⟩

end Sys2Proof.Machine
end

section
/-! The commands of the start-up, of the line and of the publisher's timers, and how a send ends early (chapters 1 to 3). -/

namespace Sys2Proof.Machine

/-! ## The bytes of the configuration memory (R4) -/

theorem takeBytes_length (n : Nat) (bytes : List Byte) : (takeBytes n bytes).length = n := by
  simp only [takeBytes, List.length_append, List.length_take, List.length_replicate]
  omega

theorem takeBytes_self {n : Nat} {bytes : List Byte} (h : bytes.length = n) : takeBytes n bytes = bytes := by
  subst h
  simp [takeBytes]

theorem takeBytes_twice (n : Nat) (bytes : List Byte) : takeBytes n (takeBytes n bytes) = takeBytes n bytes :=
  takeBytes_self (takeBytes_length n bytes)

/-- The header checks (R4), in numbers. -/
theorem Header.passes_iff (h : Header) : h.passes = true ↔ h.format.toNat = 3 ∧ 68 ≤ h.length ∧ h.length ≤ 4096 := by
  simp only [Header.passes, Bool.and_eq_true, beq_iff_eq, decide_eq_true_eq]
  rfl

theorem readHeader_seven (b0 b1 b2 b3 b4 b5 b6 : Byte) : readHeader (headerOperand [b0, b1, b2, b3, b4, b5, b6]) =
    { format := b0, length := b1.toNat * 256 + b2.toNat, fingerprint := b3 ++ b4 ++ b5 ++ b6 } := rfl

/-- Settles O4, by the header checks in numbers. -/
theorem strapsAndHeaderChecked : Obligations.StrapsAndHeaderChecked := by
  unfold Obligations.StrapsAndHeaderChecked
  refine ⟨fun st br s => ⟨fun l => ?_, fun l => ?_⟩, fun b0 b1 b2 b3 b4 b5 b6 s l none => ?_, fun bytes s => ?_⟩
  · have rate : brRate br = if br = .low then .k50 else .k100 := by cases br <;> rfl
    show execLeaveReset st br s = _
    rw [execLeaveReset, if_pos l, rate]
    rfl
  · show execLeaveReset st br s = _
    rw [execLeaveReset, if_neg l]
    rfl
  · have checks := Header.passes_iff { format := b0, length := b1.toNat * 256 + b2.toNat, fingerprint := b3 ++ b4 ++ b5 ++ b6 }
    have read : exec (.headerReadComplete [b0, b1, b2, b3, b4, b5, b6]) s = _ := if_pos ⟨l, none⟩
    rw [readHeader_seven] at read
    dsimp only at checks ⊢
    split
    next good => rw [read, if_pos (checks.mpr good)]; rfl
    next bad => rw [read, if_neg (fun c => bad (checks.mp c))]; rfl
  · show execHeaderReadComplete bytes s = execHeaderReadComplete (takeBytes 7 bytes) s
    unfold execHeaderReadComplete headerOperand
    rw [show Config.headerBytes = 7 from rfl, takeBytes_twice]

/-- Settles O8. -/
theorem idleTimeoutRejoins : Obligations.IdleTimeoutRejoins := by
  unfold Obligations.IdleTimeoutRejoins
  intro s l idle
  show execWithdrawnIdleTimeout s = _
  rw [execWithdrawnIdleTimeout, if_pos ⟨l, idle⟩, enterJoining_eq]
  rfl

/-! ## A loss and an abort (R32, R33, R35) -/

/-- What a loss or an abort leaves of the publisher (R49). -/
theorem statusLost_eq {s : State} {m : Send} (h : s.loop.send = some m) : s.statusLost = { s with
    pub := if m.kind = .status ∧ m.idBegun = true then { s.pub with inhibit := false, deferred := false } else s.pub } := by
  unfold State.statusLost
  rw [h]
  dsimp only
  split <;> rfl

/-- The station that counts an abort, its frame given back (R27, R35). -/
def State.aborted (s : State) : State :=
  s.statusLost.onLoop (fun x => { x.giveBack with aborts := min (x.aborts + 1) Config.abortLimit })

@[simp] theorem aborted_life (s : State) : s.aborted.life = s.life := statusLost_life s

@[simp] theorem aborted_loop (s : State) :
    s.aborted.loop = { s.loop.giveBack with aborts := min (s.loop.aborts + 1) Config.abortLimit } := by
  show ({ s.statusLost.loop.giveBack with aborts := _ } : Loop) = _
  rw [statusLost_loop]

/-- An abort short of the eighth, or in CONFIG_FAULT, gives the frame back and counts (R12, R35). -/
theorem abort_short {s : State} (h : s.loop.aborts < 7 ∨ s.life = .configFault) : s.abort = s.aborted := by
  show (if s.aborted.loop.aborts = Config.abortLimit ∧ (s.aborted.life = .joining ∨ s.aborted.life = .active) then
    s.aborted.enterWithdrawn else s.aborted) = _
  rw [if_neg]
  rintro ⟨n, l⟩
  rw [aborted_loop] at n
  rw [aborted_life] at l
  change min (s.loop.aborts + 1) 8 = 8 at n
  rcases h with h | h
  · omega
  · rcases l with l | l <;> rw [h] at l <;> cases l

/-- The eighth withdraws a JOINING or ACTIVE station (R15, R35). -/
theorem abort_eighth {s : State} (h : s.loop.aborts = 7) (l : s.life = .joining ∨ s.life = .active) :
    s.abort = s.aborted.enterWithdrawn := by
  show (if s.aborted.loop.aborts = Config.abortLimit ∧ (s.aborted.life = .joining ∨ s.aborted.life = .active) then
    s.aborted.enterWithdrawn else s.aborted) = _
  rw [if_pos]
  rw [aborted_loop, aborted_life, h]
  exact ⟨rfl, l⟩

theorem abort_cases (s : State) : s.abort = s.aborted ∨ s.loop.aborts + 1 ≥ 8 ∧ s.abort = s.aborted.enterWithdrawn := by
  show (if s.aborted.loop.aborts = Config.abortLimit ∧ (s.aborted.life = .joining ∨ s.aborted.life = .active) then
    s.aborted.enterWithdrawn else s.aborted) = _ ∨ s.loop.aborts + 1 ≥ 8 ∧ (if s.aborted.loop.aborts = Config.abortLimit ∧
      (s.aborted.life = .joining ∨ s.aborted.life = .active) then s.aborted.enterWithdrawn else s.aborted) = _
  split
  next c =>
    rw [aborted_loop] at c
    obtain ⟨n, -⟩ := c
    change min (s.loop.aborts + 1) 8 = 8 at n
    exact .inr ⟨by omega, rfl⟩
  · exact .inl rfl

/-- What the sender follows when it aborts: the rest of the frame after a bit error, nothing after a drop or at STUCK (R19, R33). -/
def State.atAbort (s : State) : AbortCause → State
  | .bitError => s
  | .selfDrop _ => s.onLoop (fun x => { x with follow := .nothing })
  | .stuck => s.stick

/-- The moments at which a cause can abort a send (R33). -/
def Send.AbortsBy (m : Send) (c : AbortCause) : Prop :=
  (c = .bitError ∧ m.idBegun = true) ∨ (∃ r, c = .selfDrop r ∧ r ≠ .length ∧ r ≠ .crc ∧ m.idBegun = false) ∨ c = .stuck

theorem sendAbort_eq {c : AbortCause} {s : State} {m : Send} (h : s.loop.send = some m) (k : m.AbortsBy c) :
    exec (.sendAbort c) s = done (s.atAbort c).abort := by
  show execSendAbort c s = _
  unfold execSendAbort
  rw [h]
  rcases k with ⟨rfl, id⟩ | ⟨r, rfl, nl, nc, id⟩ | rfl
  · exact if_pos id
  · refine if_pos ⟨id, ?_⟩
    cases r <;> first | rfl | exact absurd rfl nl | exact absurd rfl nc
  · rfl

@[simp] theorem atAbort_life (s : State) (c : AbortCause) : (s.atAbort c).life = s.life := by cases c <;> rfl

/-- The loop interface at an abort: STUCK ends the line state and the heard slot, a drop what was followed (R19, R33). -/
theorem atAbort_eq (s : State) (c : AbortCause) : s.atAbort c = { s with loop := { s.loop with
    line := if c = .stuck then some .stuck else s.loop.line, follow := if c = .bitError then s.loop.follow else .nothing
    heardSlot := if c = .stuck then none else s.loop.heardSlot } } := by
  cases c <;> simp [State.atAbort, State.stick, State.onLoop]

/-- The station that an abort leaves, but for what withdrawal adds (R27, R32, R33, R35, R49). -/
theorem atAbort_aborted {s : State} {m : Send} (h : s.loop.send = some m) (c : AbortCause) :
    (s.atAbort c).aborted = { s with
      loop := { s.loop with
        trip := s.loop.trip.returned, intent := s.loop.intent.returned, status := s.loop.status.returned
        announce := s.loop.announce.returned, send := none, aborts := min (s.loop.aborts + 1) 8
        line := if c = .stuck then some .stuck else s.loop.line, follow := if c = .bitError then s.loop.follow else .nothing
        heardSlot := if c = .stuck then none else s.loop.heardSlot }
      pub := if m.kind = .status ∧ m.idBegun = true then { s.pub with inhibit := false, deferred := false } else s.pub } := by
  have sent : (s.atAbort c).loop.send = some m := by rw [atAbort_eq]; exact h
  unfold State.aborted
  rw [statusLost_eq sent, atAbort_eq]
  rfl

/-- Settles O19, by the one equation of an abort. -/
theorem lossAndAbortReturnFrame : Obligations.LossAndAbortReturnFrame := by
  unfold Obligations.LossAndAbortReturnFrame
  refine ⟨fun j s m h id b => ?_, fun _ _ => ⟨rfl, rfl⟩, fun cause s m h few k => ?_⟩
  · show execArbitrationLoss j s = _
    unfold execArbitrationLoss
    rw [h]
    dsimp only
    rw [if_pos ⟨id, b⟩, statusLost_eq h]
    simp only [id, and_true]
    rfl
  · have short : (s.atAbort cause).loop.aborts < 7 ∨ (s.atAbort cause).life = .configFault := by
      rw [atAbort_eq]
      exact few
    refine ⟨_, sendAbort_eq h k, ?_⟩
    rw [abort_short short, atAbort_aborted h]
    refine ⟨rfl, rfl, rfl, rfl, rfl, rfl, rfl, rfl, rfl, rfl, rfl, fun c => ?_, fun c => ?_⟩
    · subst c
      exact ⟨rfl, rfl⟩
    · exact if_neg c

/-! ## The line (R18, R19, R29) -/

theorem stuck_needs (s : State) (ticks : Nat) : Config.stuckBits < wholeBits s.bitRate ticks ↔ 41 * s.bt ≤ ticks :=
  wholeBits_reached s 41 ticks

/-- What an abort leaves whether or not it withdraws the station. -/
theorem abort_leaves (s : State) : s.abort.loop.line = s.loop.line ∧ s.abort.loop.follow = s.loop.follow ∧
    s.abort.loop.send = none ∧ s.abort.loop.aborts = min (s.loop.aborts + 1) 8 ∧ s.abort.loop.unheard = s.loop.unheard ∧
    (s.loop.aborts < 7 → s.abort.loop.wait = s.loop.wait) ∧ s.abort.image = s.image ∧ s.abort.field = s.field := by
  have lost : s.statusLost.image = s.image ∧ s.statusLost.field = s.field := by
    cases h : s.loop.send with
    | none => unfold State.statusLost; rw [h]; exact ⟨rfl, rfl⟩
    | some m => rw [statusLost_eq h]; exact ⟨rfl, rfl⟩
  rcases abort_cases s with e | ⟨n, e⟩
  · rw [e, aborted_loop]
    exact ⟨rfl, rfl, rfl, rfl, rfl, fun _ => rfl, lost⟩
  · obtain ⟨fns, w⟩ := enterWithdrawn_eq s.aborted
    rw [e, w, aborted_loop]
    exact ⟨rfl, rfl, rfl, rfl, rfl, fun c => by omega, lost⟩

/-- Settles O9, with the counts in ticks. -/
theorem lineStateFollowsDurations : Obligations.LineStateFollowsDurations := by
  unfold Obligations.LineStateFollowsDurations
  refine ⟨fun s f l => ?_, fun ticks s f l n fo => ?_, fun ticks s f l t => ?_, fun ticks s f l => ?_, fun ticks s w => ?_⟩
  · show execLineBusy s = _
    rw [execLineBusy, if_pos ⟨f, l⟩]
    rfl
  · have limit : ∀ bits : Nat, s.loop.idleRule.limit = bits → exec (.lineIdle ticks) s = .next (State.finish
        (if bits * s.bt ≤ ticks then { s with loop := { s.loop with
          line := some .idle, idleRule := .noFrame
          announce := if s.life = .configFault ∧ s.loop.idleRule = .join then
            announceRequest false s.loop.idBegun s.loop.announce else s.loop.announce } }
        else s)) := by
      rintro bits rfl
      show execLineIdle ticks s = _
      rw [execLineIdle]
      simp only [wholeBits_reached s]
      by_cases c : s.loop.idleRule.limit * s.bt ≤ ticks
      · rw [if_pos ⟨f, l, n, fo, c⟩, if_pos c]
        by_cases q : s.life = .configFault ∧ s.loop.idleRule = .join
        · rw [if_pos q, if_pos q, State.queueAnnounce, mayQueue_announce, State.onLoop_maySend,
            if_pos (by simp [State.maySend, q.1])]
          rfl
        · rw [if_neg q, if_neg q]
          rfl
      · rw [if_neg (fun h => c h.2.2.2.2), if_neg c]
        rfl
    cases r : s.loop.idleRule <;> rw [r] at limit <;> exact limit _ rfl
  · have line : s.loop.line ≠ none ∧ s.loop.line ≠ some .stuck := by
      rcases l with l | l <;> rw [l] <;> exact ⟨by simp, by simp⟩
    have stuck : exec (.lineStuck ticks) s = if s.loop.send.isSome then done s.stick.abort else done s.stick := by
      show execLineStuck ticks s = _
      rw [execLineStuck, if_pos ⟨f, line.1, line.2, (stuck_needs s ticks).mpr t⟩]
    refine ⟨fun n => ?_, fun m h => ⟨s.stick.abort.finish, ?_, abort_leaves s.stick⟩⟩
    · rw [stuck, n]
      rfl
    · rw [stuck, if_pos (by rw [h]; rfl)]
      rfl
  · show execStuckEnd ticks s = _
    rw [execStuckEnd]
    simp only [wholeBits_reached s, Nat.one_mul]
    by_cases c : s.bt ≤ ticks
    · rw [if_pos ⟨f, l, c⟩, if_pos c]
      rfl
    · rw [if_neg (fun h => c h.2.2), if_neg c]
      rfl
  · show execSendWaitEnd ticks s = _
    rw [execSendWaitEnd]
    simp only [wholeBits_reached s, show Config.sendWaitBits = 12 from rfl]
    by_cases c : 12 * s.bt ≤ ticks
    · rw [if_pos ⟨w, c⟩, if_pos c]
      rfl
    · rw [if_neg (fun h => c h.2), if_neg c]
      rfl

end Sys2Proof.Machine
end

section
/-! Frames that leave no more than their end on the line, and the timers of the publisher (chapters 2 and 3). -/

namespace Sys2Proof.Machine

/-! ## Frames without effect (R16, R25, R26) -/

/-- In JOINING and ACTIVE a frame whose delivery changes nothing leaves its end on the line. -/
theorem arrival_of_discarded {kind : FrameKind} {deliver : Frame → State → State} {w : Wave} {f : Frame} {s : State}
    (l : s.life = .joining ∨ s.life = .active) (e : s.hears w = some f) (k : f.kind = kind.code) (n : f.station ≠ s.station)
    (none : deliver f (s.frameEnd w) = s.frameEnd w) : s.arrival kind deliver w = s.frameEnd w := by
  rw [arrival_eq deliver l e k n, none]
  exact countGood_eq l

/-- In CONFIG_FAULT nothing is delivered. -/
theorem arrival_configFault {kind : FrameKind} (deliver : Frame → State → State) {w : Wave} {f : Frame} {s : State}
    (l : s.life = .configFault) (e : s.hears w = some f) (k : f.kind = kind.code) (n : f.station ≠ s.station) :
    s.arrival kind deliver w = s.frameEnd w := by
  unfold State.arrival
  rw [e]
  dsimp only
  rw [if_pos ⟨k, n⟩, if_neg (by simp [State.running, l])]

theorem running_configFault {s : State} (h : s.life = .configFault) : s.running = false := by simp [State.running, h]

theorem not_dropsAfterMark (r : DropReason) : (!dropsAfterMark r) = (r == .shortMark || r == .longMark) := by cases r <;> rfl

/-- Settles O10: the drop, the undelivered frame, and each reason to discard a delivered one. -/
theorem framesWithoutEffectEnd : Obligations.FramesWithoutEffectEnd := by
  unfold Obligations.FramesWithoutEffectEnd
  refine ⟨fun w r s d f n => ?_, fun w g s e u => ?_, fun w g s l e n => ?_, fun w g s l e n => ?_, fun r => ?_⟩
  · show execFrameDropped w s = _
    unfold execFrameDropped
    rw [d]
    dsimp only
    rw [if_pos ⟨f, n⟩, not_dropsAfterMark]
    rfl
  · have silent : 4 ≤ g.kind ∨ g.station = s.station ∨ s.running = false :=
      u.imp_right (Or.imp_right running_configFault)
    show execUndeliveredGoodFrame w s = _
    unfold execUndeliveredGoodFrame
    rw [e]
    dsimp only
    rw [if_pos silent]
    rfl
  · exact ⟨fun k => congrArg done (arrival_configFault _ l e k n), fun k => congrArg done (arrival_configFault _ l e k n),
      fun k => congrArg done (arrival_configFault _ l e k n), fun k => congrArg done (arrival_configFault _ l e k n)⟩
  · refine ⟨fun k d => ?_, fun k d => ?_, fun k d => ?_, fun b r k d misfit => ?_, fun k d => ?_⟩
    · exact congrArg done (arrival_of_discarded l e k n (by simp only [State.tripDelivered, d]))
    · exact congrArg done (arrival_of_discarded l e k n (by simp only [State.intentDelivered, d]))
    · exact congrArg done (arrival_of_discarded l e k n (by simp only [State.statusDelivered, d]))
    · refine congrArg done (arrival_of_discarded l e k n ?_)
      unfold State.statusDelivered
      rw [d]
      exact if_neg (by rw [show (s.frameEnd w).cfg = s.cfg from rfl, misfit]; simp)
    · exact congrArg done (arrival_of_discarded l e k n (by simp only [State.announceDelivered, d]))
  · cases r <;> simp [Record.fits]

/-! ## The publication timers (R12, R49, R51, R56) -/

theorem mayQueue_status {s : State} (a : s.isActive = true) (r : s.role = .motion ∨ s.role = .pump ∨ s.isPanel = true) :
    s.mayQueue .status = true := by
  rcases r with r | r | r <;> simp [State.mayQueue, a, r]

theorem mayQueue_trip {s : State} (a : s.isActive = true) (r : s.role = .motion) : s.mayQueue .trip = true := by
  simp [State.mayQueue, a, r]

/-- The TRIP that is queued again (R56). -/
theorem requeueTrip_eq {s : State} {r : TripReason} (c : s.tripCause.or s.unit.lastTrip = some r) :
    s.requeueTrip = s.queueTrip r := by
  unfold State.requeueTrip
  rw [c]

/-- Settles O22, expiry by expiry. -/
theorem publicationTimersExpire : Obligations.PublicationTimersExpire := by
  unfold Obligations.PublicationTimersExpire
  refine ⟨fun s l t => ?_, fun s t => ?_, fun s t a r => ?_, fun s r t a m c => ?_⟩
  · show execConfigFaultAnnounceTimer s = _
    rw [execConfigFaultAnnounceTimer, if_pos ⟨l, t⟩]
    exact congrArg done (if_pos ((mayQueue_announce _).trans (by simp [State.maySend, l])))
  · show execChangeInhibitExpiry s = _
    rw [execChangeInhibitExpiry, if_pos t]
    split <;> rfl
  · show execRefreshExpiry s = _
    rw [execRefreshExpiry, if_pos t]
    have may : (s.onPub (fun p => { p with refresh := none })).mayQueue .status = true := mayQueue_status (s := s) a r
    unfold State.statusCause
    rw [if_pos may]
    split
    next d =>
      have d' : s.pub.inhibit = true := d
      rw [d', Bool.or_true]
      rfl
    next d =>
      have d' : s.pub.inhibit = false := Bool.eq_false_iff.mpr d
      rw [d', Bool.or_false]
      rfl
  · have may : (s.onUnit (fun u => { u with tripRepeat := none })).mayQueue .trip = true := mayQueue_trip (s := s) a m
    have again := requeueTrip_eq (s := s.onUnit (fun u => { u with tripRepeat := none })) (r := r) c
    show execTripRepeatExpiry s = _
    rw [execTripRepeatExpiry, if_pos t]
    dsimp only
    rw [again, State.queueTrip, if_pos may]
    split <;> rfl

end Sys2Proof.Machine
end

section
/-! What a send takes at its ID cell (R31, R40 to R44, R47, R50), in the bit places of section 3.5. -/

namespace Sys2Proof.Machine

/-! ## The codes, as places in their lists -/

theorem ResetCause.idxOf_eq (c : ResetCause) : ([.powerOn, .pin, .supplyDip] : List ResetCause).idxOf c = causeCode c := by
  cases c <;> rfl

theorem Motion.idxOf_eq (m : Motion) : ([.none, .rest, .awaitFlow, .pressurise, .travel, .creep, .seat, .stopping, .heldFault] :
    List Motion).idxOf m = m.code := by
  cases m <;> rfl

theorem EndState.idxOf_eq (e : EndState) : ([.atClosed, .atOpen, .between, .unknown] : List EndState).idxOf e = e.code := by
  cases e <;> rfl

theorem FaultCode.idxOf_eq (c : FaultCode) : ([.none, .holdLost, .grantLost, .peerLost, .stopped, .strokeTimeout, .stall,
    .noPressure, .noFlow, .sensorDisagree, .transducer, .skew, .wrongDirection, .endLost] : List FaultCode).idxOf c = c.code := by
  cases c <;> rfl

theorem PumpState.idxOf_eq (p : PumpState) : ([.off, .starting, .running, .tripped] : List PumpState).idxOf p = p.code := by
  cases p <;> rfl

theorem Role.idxOf_eq (r : Role) :
    ([.unused, .motion, .pump, .panelCommand, .panelStop, .monitor] : List Role).idxOf r = r.code := by
  cases r <;> rfl

theorem LoadFault.idxOf_eq (c : LoadFault) :
    ([.none, .format, .fingerprint, .range, .calibration, .terms, .subscription] : List LoadFault).idxOf c = c.code := by
  cases c <;> rfl

/-! ## The station byte (R40) -/

theorem stationByteOf_bits (active asserted loopClosed supplyOk lone hold : Bool) (cause : ResetCause) :
    let b := stationByteOf active asserted loopClosed supplyOk lone hold cause
    b.getLsbD 7 = active ∧ b.getLsbD 6 = asserted ∧ b.getLsbD 5 = loopClosed ∧ b.getLsbD 4 = supplyOk ∧ b.getLsbD 3 = lone ∧
      b.getLsbD 2 = hold ∧ b.toNat % 4 = causeCode cause := by
  revert active asserted loopClosed supplyOk lone hold
  cases cause <;> decide

theorem isActive_iff (s : State) : s.isActive = true ↔ s.life = .active := by simp [State.isActive]

/-! ## The payloads (R41 to R44) -/

theorem statusData_motion {s : State} (r : s.role = .motion) : s.statusData = s.stationByte ::
    ((s.fnRecord 0).encode ++ (s.fnRecord 1).encode ++ (s.fnRecord 2).encode ++ (s.fnRecord 3).encode) := by
  unfold State.statusData State.ownRecord
  rw [r]
  rfl

/-- The four bytes of a slot's record. -/
theorem statusData_motion_slot {s : State} (r : s.role = .motion) (f : FnId) :
    (s.statusData.drop (1 + 4 * f.val)).take 4 = (s.fnRecord f).encode := by
  rw [statusData_motion r]
  fin_cases f <;> rfl

theorem statusData_pump {s : State} (r : s.role = .pump) : s.statusData = s.stationByte ::
    byte (s.flow.a.state.code * 4 + s.flow.b.state.code) :: byte s.flow.capacity :: byte s.flow.grants.length ::
      grantBytes s.flow.grants := by
  unfold State.statusData State.ownRecord
  rw [r]
  rfl

theorem statusData_panel {s : State} (r : s.isPanel = true) : s.statusData = encodeStatus s.stationByte s.panelRecord := by
  unfold State.statusData State.ownRecord
  unfold State.isPanel at r
  cases q : s.role <;> rw [q] at r <;> first | rfl | cases r

theorem grantBytes_length {gs : List (StationId × FnId)} (h : gs.length ≤ 8) : (grantBytes gs).length = 8 := by
  simp only [grantBytes, List.length_append, List.length_map, List.length_replicate]
  omega

theorem Motion.claims_iff (m : Motion) : m.claims = true ↔ m = .awaitFlow ∨ m = .pressurise ∨ m = .travel ∨ m = .creep ∨
    m = .seat ∨ m = .stopping := by
  cases m <;> simp [Motion.claims]

/-- The claim that a function record shows is that of the profile in use (R41, R42). -/
theorem fnRecord_claiming {s : State} {f : FnId} (h : (s.fns[f]).motion.claims = true) :
    (s.fnRecord f).units = (s.profile f).claimUnits ∧ (s.fnRecord f).priority = (s.profile f).claimPriority := by
  unfold State.fnRecord
  dsimp only
  rw [h]
  exact ⟨rfl, rfl⟩

theorem fnRecord_quiet {s : State} {f : FnId} (h : (s.fns[f]).motion.claims = false) :
    (s.fnRecord f).units = 0 ∧ (s.fnRecord f).priority = 0 := by
  unfold State.fnRecord
  dsimp only
  rw [h]
  exact ⟨rfl, rfl⟩

theorem profile_of {s : State} {f : FnId} {c : FnSetup} {d : Dir} (h : s.fnSetup f = some c)
    (t : (s.fns[f]).target = some d) : s.profile f = c.profile d := by
  unfold State.profile
  rw [h, t]

theorem flagAt_eq (b : Bool) (n : Nat) : flagAt b n = 2 ^ n * b.toNat := by cases b <;> simp [flagAt]

theorem entryActive_eq (s : State) (e : Option InputId) :
    s.entryActive e = e.any (fun i => (s.field.di[i]).accepted == some true) := by
  cases e <;> rfl

/-! ## The ID cell (R31) -/

theorem Publisher.choose_toNat (p : Publisher) (data : List Byte) :
    (p.choose data).toNat = if p.lastSent = some data then p.edition.toNat else (p.edition.toNat + 1) % 8 := by
  unfold Publisher.choose
  split
  · rfl
  · rw [BitVec.toNat_add]; rfl

/-- The content, edition, HEADER and CRC that the ID cell fixes for a frame, each kind's by one equation. -/
theorem idCellStart_eq {s : State} {m : Send} (e : s.loop.send = some m) (i : m.idBegun = false) :
    exec .idCellStart s = done { s with
      loop := { s.loop with send := some (s.fixed m) }, pub := { s.pub with inhibit := s.pub.inhibit || m.kind == .status } } := by
  show execIdCellStart s = _
  unfold execIdCellStart
  rw [e]
  dsimp only
  rw [if_pos i]
  split
  next k => rw [k, show (FrameKind.status == FrameKind.status) = true from rfl, Bool.or_true]; rfl
  next k => rw [beq_eq_false_iff_ne.mpr k, Bool.or_false]; rfl

theorem fixed_eq (s : State) (m : Send) : s.fixed m =
    m.fix s.station (if m.kind = .status then (s.pub.choose s.statusData).toNat else 0)
      (match m.kind with
        | .status => s.statusData
        | .announce => (s.announceFrame s.loop.askInFlight).encode
        | _ => m.data) := by
  unfold State.fixed
  cases m.kind <;> rfl

/-- Settles O18: the payloads in their bit places, and the ID cell. -/
theorem idCellFixesContent : Obligations.IdCellFixesContent := by
  unfold Obligations.IdCellFixesContent
  refine ⟨fun s => ?_, fun s m e i => ?_⟩
  · obtain ⟨active, asserted, loopClosed, supplyOk, lone, hold, cause⟩ := stationByteOf_bits s.isActive s.unit.tripAsserted
      s.field.stopLoopClosed s.field.supplyOk s.loop.lone s.unit.restartHold s.resetCause
    dsimp only
    refine ⟨?_, asserted, loopClosed, supplyOk, lone, hold, ?_, fun r => ?_, fun r few => ?_, fun r => ?_, fun ask => ?_, ?_⟩
    · rw [← isActive_iff, ← active]
      rfl
    · rw [ResetCause.idxOf_eq]
      exact cause
    · refine ⟨by rw [statusData_motion r]; rfl, by rw [statusData_motion r]; rfl, fun f => ?_⟩
      rw [statusData_motion_slot r, Motion.idxOf_eq, EndState.idxOf_eq, FaultCode.idxOf_eq, ← Motion.claims_iff]
      refine ⟨fun quiet => ?_, fun c claims setup => ⟨fun t => ?_, fun t => ?_⟩⟩
      · obtain ⟨units, priority⟩ := fnRecord_quiet (Bool.eq_false_iff.mpr quiet)
        rw [FnRecord.encode, units, priority]
        rfl
      all_goals
        obtain ⟨units, priority⟩ := fnRecord_claiming claims
        rw [profile_of setup t] at units priority
        rw [FnRecord.encode, units, priority]
        rfl
    · rw [PumpState.idxOf_eq, PumpState.idxOf_eq, statusData_pump r]
      refine ⟨by simp only [List.length_cons, grantBytes_length few], ?_⟩
      simp only [grantBytes, pairCode, byte, ← Nat.add_assoc, Nat.mul_comm 4]
    · rw [statusData_panel r]
      simp only [encodeStatus, State.panelRecord, Record.encode, panelFlagsByte, flagAt_eq, entryActive_eq]
      cases s.panel.selection with
      | none => rfl
      | some g => simp only [Option.getD_some, pairCode, Option.elim_some, byte, Nat.mul_comm 4]; rfl
    · rw [ResetCause.idxOf_eq, LoadFault.idxOf_eq]
      simp only [Role.idxOf_eq]
      refine ⟨fun l => ?_, fun l => ?_⟩
      · rw [State.announceFrame, if_pos l]
        simp only [AnnounceFrame.encode, flagAt]
        rfl
      · rw [State.announceFrame, if_neg l]
        cases ask <;> rfl
    · intro ask successor h
      rw [Loop.askInFlight, h]
  · rw [idCellStart_eq e i, fixed_eq, Publisher.choose_toNat]
    obtain ⟨kind, mark, begun, edition, data, bytes⟩ := m
    cases kind <;> rfl

end Sys2Proof.Machine
end

section
/-! The entry to WITHDRAWN at the eighth abort (R15, R35). -/

namespace Sys2Proof.Machine

/-! ## An operation on each function in turn -/

/-- What each slot shows after an operation on every slot, where the operation changes what its own slot shows only. -/
theorem eachFn_at {α : Type} {op : FnId → State → State} {view : State → FnId → α} {R : FnId → α → α → Prop} {I : State → Prop}
    (keep : ∀ f t, I t → I (op f t)) (own : ∀ f t, I t → R f (view t f) (view (op f t) f))
    (other : ∀ (f h : FnId) t, I t → f ≠ h → view (op f t) h = view t h) {s : State} (i : I s) (f : FnId) :
    R f (view s f) (view (s.eachFn op) f) := by
  have i0 := keep 0 s i
  have i1 := keep 1 _ i0
  have i2 := keep 2 _ i1
  unfold State.eachFn
  match f with
  | 0 =>
    rw [other 3 0 _ i2 (by decide), other 2 0 _ i1 (by decide), other 1 0 _ i0 (by decide)]
    exact own 0 s i
  | 1 =>
    rw [other 3 1 _ i2 (by decide), other 2 1 _ i1 (by decide), ← other 0 1 s i (by decide)]
    exact own 1 _ i0
  | 2 =>
    rw [other 3 2 _ i2 (by decide), ← other 0 2 s i (by decide), ← other 1 2 _ i0 (by decide)]
    exact own 2 _ i1
  | 3 =>
    rw [← other 0 3 s i (by decide), ← other 1 3 _ i0 (by decide), ← other 2 3 _ i1 (by decide)]
    exact own 3 _ i2

/-! ## The functions of a station that withdraws (R123, R125) -/

/-- A function before and after its station withdraws: it holds no claim and is in no fault state, and one that moved shows
STOPPED unless its code was latched. -/
structure Withdraws (x y : Fn) : Prop where
  claims : y.motion.claims = false
  held : y.motion ≠ .heldFault
  fault : y.fault = if x.motion.moving = true ∧ x.fault.latched = false then .stopped else x.fault

theorem withdrawFn_inactive {s : State} (f : FnId) (h : s.isActive = false) : (s.withdrawFn f).isActive = false :=
  (withdrawFn_fnsOnly f h).isActive.trans h

theorem withdrawFn_other {f h : FnId} (s : State) (ne : f ≠ h) : (s.withdrawFn f).fns[h] = s.fns[h] := by
  unfold State.withdrawFn
  split
  · exact s.onFn_other _ ne
  · exact ((immediateStop_moved f s).others h ne).1

theorem toIdle_fn (m : Motion) (f : FnId) (s : State) :
    ((s.toIdle m f).fns[f]).motion = m ∧ ((s.toIdle m f).fns[f]).fault = (s.fns[f]).fault := by
  unfold State.toIdle
  simp [Fn.quiet]

/-- An immediate stop outside ACTIVE, by the state of the function (R123). -/
theorem immediateStop_moving {s : State} {f : FnId} (h : s.isActive = false) (m : (s.fns[f]).motion.moving = true) :
    s.immediateStop f = (s.toIdle .rest f).onFn f (fun y => { y with
      fault := if (s.fns[f]).fault.latched then (s.fns[f]).fault else .stopped }) := by
  unfold State.immediateStop
  rw [if_pos m]
  dsimp only
  rw [act_inactive h, if_neg]
  intro c
  rw [Bool.and_eq_true] at c
  cases h.symm.trans c.2

theorem immediateStop_waiting {s : State} {f : FnId} (h : s.isActive = false) (m : (s.fns[f]).motion = .awaitFlow) :
    s.immediateStop f = s.toIdle .rest f := by
  unfold State.immediateStop
  rw [if_neg (by rw [m]; simp [Motion.moving]), if_pos m]
  exact act_inactive h

theorem immediateStop_still {s : State} {f : FnId} (m : (s.fns[f]).motion.moving = false)
    (n : (s.fns[f]).motion ≠ .awaitFlow) : s.immediateStop f = s := by
  unfold State.immediateStop
  rw [if_neg (by rw [m]; simp), if_neg n]

theorem withdrawFn_withdraws {s : State} (f : FnId) (h : s.isActive = false) :
    Withdraws (s.fns[f]) ((s.withdrawFn f).fns[f]) := by
  have idle := toIdle_fn .rest f s
  unfold State.withdrawFn
  split
  next held =>
    have rests : (s.fns[f]).motion.moving = false := by rw [held]; rfl
    rw [State.onFn_same]
    exact ⟨rfl, by simp, by rw [rests]; simp⟩
  next up =>
    cases moves : (s.fns[f]).motion.moving with
    | true =>
      rw [immediateStop_moving h moves, State.onFn_same]
      refine ⟨by rw [idle.1]; rfl, by rw [idle.1]; simp, ?_⟩
      rw [moves]
      cases (s.fns[f]).fault.latched <;> simp
    | false =>
      by_cases waits : (s.fns[f]).motion = .awaitFlow
      · rw [immediateStop_waiting h waits]
        exact ⟨by rw [idle.1]; rfl, by rw [idle.1]; simp, by rw [idle.2, moves]; simp⟩
      · rw [immediateStop_still moves waits]
        refine ⟨?_, up, by rw [moves]; simp⟩
        generalize (s.fns[f]).motion = m at moves waits
        cases m <;> first | rfl | exact absurd rfl waits | cases moves

theorem enterWithdrawn_fn (s : State) (f : FnId) : Withdraws (s.fns[f]) (s.enterWithdrawn.fns[f]) := by
  have stopped : Withdraws (s.fns[f]) ((State.eachFn State.withdrawFn
      { s with life := .withdrawn, joinWindow := none, goodFrames := 0 }).fns[f]) :=
    eachFn_at (op := State.withdrawFn) (view := fun t h => t.fns[h]) (R := fun _ => Withdraws)
      (I := fun t => t.isActive = false) (fun f _ i => withdrawFn_inactive f i) (fun f _ i => withdrawFn_withdraws f i)
      (fun _ _ t _ ne => withdrawFn_other t ne) (s := { s with life := .withdrawn, joinWindow := none, goodFrames := 0 }) rfl f
  unfold State.enterWithdrawn
  dsimp only
  exact stopped

/-! ## The guard engine (R88) -/

theorem cleared_fns (g : GuardEngine) (f : FnId) : g.cleared.fns[f] = (g.fns[f]).cleared := by
  fin_cases f <;> rfl

theorem cleared_lamps (g : GuardEngine) (n : Fin 8) : g.cleared.lamps[n] = (g.lamps[n]).cleared := by
  fin_cases n <;> rfl

/-- Settles O20: the abort by its one equation, then the entry to WITHDRAWN. -/
theorem eighthAbortWithdraws : Obligations.EighthAbortWithdraws := by
  unfold Obligations.EighthAbortWithdraws
  intro cause s m h seven l k
  have eighth := abort_eighth (s := s.atAbort cause) (by rw [atAbort_eq]; exact seven) (by rw [atAbort_life]; exact l)
  have ends : exec (.sendAbort cause) s = .next (s.atAbort cause).aborted.enterWithdrawn.finish := by
    rw [sendAbort_eq h k, eighth]
    rfl
  have fn := enterWithdrawn_fn (s.atAbort cause).aborted
  obtain ⟨fns, w⟩ := enterWithdrawn_eq (s.atAbort cause).aborted
  rw [atAbort_aborted h] at ends fn w
  rw [w] at ends fn
  refine ⟨_, ends, rfl, rfl, fun c => ?_, fun c => if_neg c, ⟨rfl, rfl, rfl, rfl, rfl, rfl, ?_⟩, fun f => ?_, fun f => ?_,
    fun n => ?_, rfl, outputsOff_of_gate (gateOpen_inactive rfl), rfl, rfl, ?_, rfl, rfl, rfl, rfl, rfl⟩
  · subst c
    exact ⟨rfl, rfl⟩
  · show min (s.loop.aborts + 1) 8 = 8
    rw [seven]
    rfl
  · exact ⟨(fn f).claims, (fn f).held, by simp, (fn f).fault⟩
  · dsimp only [State.finish]
    rw [cleared_fns]
    refine ⟨rfl, rfl, rfl, fun d => ?_⟩
    cases d <;> rfl
  · exact cleared_lamps _ n
  · dsimp only [State.finish]
    split <;> rfl

end Sys2Proof.Machine
end

section
/-! Arrivals at a station in WITHDRAWN (R15, R16). -/

namespace Sys2Proof.Machine

/-! ## What an arrival leaves alone there -/

/-- The parts of the station that no arrival in WITHDRAWN changes. -/
structure Quiet (s u : State) : Prop where
  life : u.life = s.life
  goodFrames : u.goodFrames = s.goodFrames
  loop : u.loop = s.loop
  pub : u.pub = s.pub
  guard : u.guard = s.guard
  panel : u.panel = s.panel
  hold : u.unit.restartHold = s.unit.restartHold
  asserted : u.unit.tripAsserted = s.unit.tripAsserted

theorem Quiet.refl (s : State) : Quiet s s := ⟨rfl, rfl, rfl, rfl, rfl, rfl, rfl, rfl⟩

theorem Quiet.trans {s t u : State} (h : Quiet s t) (k : Quiet t u) : Quiet s u :=
  ⟨k.life.trans h.life, k.goodFrames.trans h.goodFrames, k.loop.trans h.loop, k.pub.trans h.pub, k.guard.trans h.guard,
    k.panel.trans h.panel, k.hold.trans h.hold, k.asserted.trans h.asserted⟩

theorem Inert.quiet {s u : State} (h : Inert s u) : Quiet s u :=
  ⟨h.life, h.goodFrames, h.loop, h.pub, h.guard, h.panel, by rw [h.unit], by rw [h.unit]⟩

theorem isActive_withdrawn {s : State} (l : s.life = .withdrawn) : s.isActive = false := by simp [State.isActive, l]

/-! ## A frame counts (R16) -/

/-- The station after a good frame has counted, the sixteenth taking it to JOINING. -/
def State.counted (s : State) : State :=
  if s.goodFrames + 1 < 16 then { s with goodFrames := s.goodFrames + 1 } else s.enterJoining

theorem arrival_withdrawn {kind : FrameKind} {deliver : Frame → State → State} {w : Wave} {f : Frame} {s : State}
    (l : s.life = .withdrawn) (e : s.hears w = some f) (k : f.kind = kind.code) (n : f.station ≠ s.station)
    (q : Quiet (s.frameEnd w) (deliver f (s.frameEnd w))) :
    s.arrival kind deliver w = (deliver f (s.frameEnd w)).counted := by
  unfold State.arrival
  rw [e]
  dsimp only
  rw [if_pos ⟨k, n⟩, if_pos (by simp [State.running, l]), State.countGood, if_pos (q.life.trans l)]
  rfl

/-! ## The deliveries -/

/-- The entry of the sender after a STATUS that is well-formed and fits (R61 to R63). -/
def Entry.afterStatus (stale : Nat) (b : Byte) (kept : Option Record) (e : Entry) : Entry :=
  match e.state with
  | .absent => { e with state := .unverified, age := some stale }
  | .unverified => { e with state := .unverified, age := some stale }
  | .foreign => e
  | _ => Entry.absorb stale b kept e

/-- A TRIP request, an INTENT request and an ANNOUNCE request outside the states that queue them (R38). -/
theorem queueAnnounce_withdrawn (ask : Bool) {s : State} (l : s.life = .withdrawn) : s.queueAnnounce ask = s := by
  unfold State.queueAnnounce
  rw [mayQueue_announce, if_neg (by simp [State.maySend, State.isActive, l])]

theorem statusNotice_inert (n : StationId) {s : State} (i : s.isActive = false) : Inert s (s.statusNotice n) :=
  (inert_kept s).statusNotice n (.refl i)

theorem changeNotice_inert (n : StationId) {s : State} (i : s.isActive = false) : Inert s (s.changeNotice n) :=
  (inert_kept s).toKept.changeNotice n (.refl i)

theorem onEntry_congr {s : State} {n : StationId} {g k : Entry → Entry} (h : g s.image[n] = k s.image[n]) :
    s.onEntry n g = s.onEntry n k := by
  unfold State.onEntry
  rw [h]

theorem onEntry_same {s : State} {n : StationId} {g : Entry → Entry} (h : g s.image[n] = s.image[n]) : s.onEntry n g = s := by
  unfold State.onEntry
  rw [h, show s.image.set n s.image[n] = s.image from Vector.set_getElem_self n.isLt]

theorem takeStatus_withdrawn (n : StationId) (b : Byte) (r : Record) {s : State} (l : s.life = .withdrawn) :
    Inert (s.onEntry n (Entry.afterStatus s.timing.stale b (if s.cfg.subscription.contains n then some r else none)))
      (s.takeStatus n b r) := by
  have idle := isActive_withdrawn l
  have arrived : ∀ t : State, t.isActive = false → Inert t (t.statusNotice n) := fun t => statusNotice_inert n
  have changed : ∀ t : State, t.isActive = false → Inert t ((t.changeNotice n).statusNotice n) := fun t i =>
    (changeNotice_inert n i).trans (statusNotice_inert n (changeNotice_inert n i).isActive)
  have asks : ∀ g : Entry → Entry, (s.onEntry n g).queueAnnounce true = s.onEntry n g := fun g =>
    queueAnnounce_withdrawn true (s := s.onEntry n g) l
  generalize kept : (if s.cfg.subscription.contains n then some r else none) = k
  have entry : ∀ g : Entry → Entry, g s.image[n] = Entry.afterStatus s.timing.stale b k s.image[n] →
    s.onEntry n g = s.onEntry n (Entry.afterStatus s.timing.stale b k) := fun g => onEntry_congr
  unfold State.takeStatus
  rw [kept]
  dsimp only
  rw [asks]
  cases e : (s.image[n]).state <;> dsimp only
  case absent =>
    rw [← entry (fun x => { x with state := .unverified, age := some s.timing.stale }) (by rw [Entry.afterStatus, e])]
    exact ⟨idle, rfl⟩
  case unverified =>
    rw [← entry (fun x => { x with state := .unverified, age := some s.timing.stale }) (by rw [Entry.afterStatus, e])]
    exact ⟨idle, rfl⟩
  case foreign => rw [onEntry_same (by rw [Entry.afterStatus, e])]; exact .refl idle
  case known => rw [entry (Entry.absorb _ b k) (by rw [Entry.afterStatus, e])]; exact changed _ idle
  case stale => rw [entry (Entry.absorb _ b k) (by rw [Entry.afterStatus, e])]; exact changed _ idle
  case fresh =>
    rw [entry (Entry.absorb _ b k) (by rw [Entry.afterStatus, e])]
    split
    · exact arrived _ idle
    · exact changed _ idle

/-- An ANNOUNCE is judged as in ACTIVE and answered by none (R65). -/
theorem takeAnnounce_withdrawn (n : StationId) (a : AnnounceFrame) {s : State} (l : s.life = .withdrawn) :
    Inert (s.onEntry n (fun _ => Entry.announced (s.refuses n a) a.role)) (s.takeAnnounce n a) := by
  have silent : (s.onEntry n (fun _ => Entry.announced (s.refuses n a) a.role)).queueAnnounce false = _ :=
    queueAnnounce_withdrawn false (s := s.onEntry n (fun _ => Entry.announced (s.refuses n a) a.role)) l
  have idle : (s.onEntry n (fun _ => Entry.announced (s.refuses n a) a.role)).isActive = false := isActive_withdrawn l
  unfold State.takeAnnounce
  dsimp only
  rw [silent, ite_self]
  split
  · exact .refl idle
  · exact changeNotice_inert n idle

/-- A TRIP enters the trip list (R151). -/
theorem tripArrives_inert (n : StationId) (c : StopClass) {s : State} (i : s.isActive = false) :
    Inert s (s.enterTrip n c).settle :=
  (inert_kept s).toKept.settle ((inert_kept s).enterTrip n c (.refl i))

/-- A RESET arrival outside ACTIVE starts the reset window and leaves the flags (R150). -/
theorem resetArrival_inactive {s : State} (i : s.isActive = false) : ∃ u : State, Inert s u ∧
    Inert (u.onUnit (fun x => { x with resetWindow := some s.timing.intentLease })) s.resetArrival := by
  have cleared : Inert s (s.eachFn State.clearFault) :=
    Kept.eachFn (fun f _ => (inert_kept s).toKept.clearFault f) (.refl i)
  have machines := (inert_kept s).toKept.pumpReset .b ((inert_kept s).toKept.pumpReset .a cleared)
  unfold State.resetArrival
  extract_lets s1 s2 s3 s4
  change Inert s ((s1.pumpReset .a).pumpReset .b) at machines
  have flags : s2 = (s1.pumpReset .a).pumpReset .b := if_neg (by rw [machines.isActive]; simp)
  have window : s3 = s2.onUnit (fun x => { x with resetWindow := some s.timing.intentLease }) := rfl
  rw [← flags] at machines
  clear_value s2
  have k := inert_kept s3
  have first : Inert s3 s3 := .refl machines.isActive
  clear_value s3
  have computed : Inert s3 s4 := by
    unfold s4
    split
    · exact k.toKept.arbitrate first
    · exact first
  rw [window] at computed k
  exact ⟨s2, machines, k.toKept.settle (k.removeTrips stations computed)⟩

/-- An INTENT in WITHDRAWN leaves the image and the quiet parts alone, whatever it is. -/
theorem takeIntent_quiet (n : StationId) (x : IntentFrame) {s : State} (i : s.isActive = false) :
    Quiet s (s.takeIntent n x) ∧ (s.takeIntent n x).image = s.image := by
  have written : ∀ e : Option IntentEntry, (s.writeIntent n e).settle = s.writeIntent n e := fun e =>
    settle_idle (s := s.writeIntent n e) i
  have quiet : ∀ e : Option IntentEntry, Quiet s (s.writeIntent n e) ∧ (s.writeIntent n e).image = s.image := fun _ =>
    ⟨⟨rfl, rfl, rfl, rfl, rfl, rfl, rfl, rfl⟩, rfl⟩
  unfold State.takeIntent
  dsimp only
  split
  · exact ⟨.refl s, rfl⟩
  · split
    · split
      · rw [written]
        exact quiet _
      · obtain ⟨u, before, after⟩ := resetArrival_inactive i
        have window : Quiet u (u.onUnit (fun x => { x with resetWindow := some s.timing.intentLease })) :=
          ⟨rfl, rfl, rfl, rfl, rfl, rfl, rfl, rfl⟩
        exact ⟨(before.quiet.trans window).trans after.quiet, after.image.trans before.image⟩
      · rw [written]
        exact quiet _
    · exact ⟨.refl s, rfl⟩

theorem entered_reset {x : IntentFrame} (h : x.kind = .reset) : x.entered = .reset := by
  unfold IntentFrame.entered
  rw [h]
  cases x.underway <;> rfl

theorem entered_release {x : IntentFrame} (h : x.kind = .release) : x.entered = .release := by
  unfold IntentFrame.entered
  rw [h]
  cases x.underway <;> rfl

theorem entered_repeats {x : IntentFrame} (h : x.kind.repeats = true) : x.entered.repeats = true := by
  unfold IntentFrame.entered
  split
  · rfl
  · rfl
  · exact h

/-- What an allowed INTENT of a FRESH sender does in WITHDRAWN, by its kind (R147, R150). -/
theorem takeIntent_allowed {n : StationId} {x : IntentFrame} {r : Role} {s : State} (i : s.isActive = false)
    (fresh : (s.entry n).state = .fresh) (role : (s.entry n).role = some r) (allows : r.allows x.kind = true) :
    (x.kind = .reset → (s.takeIntent n x).unit.table = s.unit.table ∧
      (s.takeIntent n x).unit.resetWindow = some s.timing.intentLease) ∧
    (x.kind = .release → (s.takeIntent n x).unit.table = s.unit.table.set n none) ∧
    (x.kind.repeats = true → (s.takeIntent n x).unit.table = s.unit.table.set n
      (some { kind := x.entered, lease := some s.timing.intentLease })) := by
  have written : ∀ e : Option IntentEntry, (s.writeIntent n e).settle = s.writeIntent n e := fun e =>
    settle_idle (s := s.writeIntent n e) i
  unfold State.takeIntent
  dsimp only
  rw [role]
  dsimp only
  rw [if_pos ⟨fresh, allows⟩]
  refine ⟨fun k => ?_, fun k => ?_, fun k => ?_⟩
  · rw [entered_reset k]
    obtain ⟨u, before, after⟩ := resetArrival_inactive i
    dsimp only
    rw [after.unit]
    exact ⟨by rw [State.onUnit_unit, before.unit], rfl⟩
  · rw [entered_release k]
    dsimp only
    rw [written]
    rfl
  · have again := entered_repeats k
    split
    next e => rw [e] at again; cases again
    next e => rw [e] at again; cases again
    next => rw [written]; rfl

/-- Of two classes the trip list keeps the stronger (R151). -/
theorem tripEntry_cls (held : Option StopClass) (r : TripReason) : (tripEntry held r.cls).1 =
    some (if held = some .eStop ∨ r = .stopLoopOpen then StopClass.eStop else .cStop) := by
  cases r <;> rcases held with - | - | - <;> rfl

/-! ## The obligation -/

/-- The count of one arrival, given that its delivery is quiet. -/
theorem exec_arrival_withdrawn {kind : FrameKind} {deliver : Frame → State → State} {w : Wave} {f : Frame} {s : State}
    (l : s.life = .withdrawn) (e : s.hears w = some f) (k : f.kind = kind.code) (n : f.station ≠ s.station)
    (q : Quiet (s.frameEnd w) (deliver f (s.frameEnd w))) :
    let u := deliver f (s.frameEnd w)
    u.life = .withdrawn ∧ u.loop = { s.loop with
        line := some .busy, idleRule := if s.loop.idleRule = .join then .join else .endGap, follow := .nothing
        wait := false, heardSlot := none } ∧
      u.pub = s.pub ∧ u.guard = s.guard ∧ u.panel = s.panel ∧ u.unit.restartHold = s.unit.restartHold ∧
      u.unit.tripAsserted = s.unit.tripAsserted ∧
      done (s.arrival kind deliver w) = .next (State.finish
        (if s.goodFrames + 1 < 16 then { u with goodFrames := s.goodFrames + 1 } else u.enterJoining)) := by
  have frames : (deliver f (s.frameEnd w)).goodFrames = s.goodFrames := q.goodFrames
  have unheard : (s.frameEnd w).loop.heardSlot = none := if_neg (by rw [l]; simp)
  rw [arrival_withdrawn l e k n q]
  refine ⟨q.life.trans l, q.loop.trans ?_, q.pub, q.guard, q.panel, q.hold, q.asserted, ?_⟩
  · rw [← unheard]
    rfl
  · rw [State.counted, frames]
    rfl

/-- Settles O16: each kind's delivery is quiet, and the frame counts. -/
theorem withdrawnAbsorbsAndCounts : Obligations.WithdrawnAbsorbsAndCounts := by
  unfold Obligations.WithdrawnAbsorbsAndCounts
  intro w g s l e other
  have ended : (s.frameEnd w).life = .withdrawn := l
  have idle := isActive_withdrawn ended
  have sender : (s.frameEnd w).entry g.station = s.image[g.station] := entry_other (s := s.frameEnd w) other
  simp only [← enterJoining_eq]
  refine ⟨fun k => ?_, fun k => ?_, fun k => ?_, fun k => ?_⟩
  · have quiet : Quiet (s.frameEnd w) (State.statusDelivered g (s.frameEnd w)) := by
      unfold State.statusDelivered
      split
      · split
        · exact Quiet.trans (t := (s.frameEnd w).onEntry _ _) ⟨rfl, rfl, rfl, rfl, rfl, rfl, rfl, rfl⟩
            (takeStatus_withdrawn _ _ _ ended).quiet
        · exact .refl _
      · exact .refl _
    refine ⟨_, exec_arrival_withdrawn l e k other quiet, fun b r d fits => ?_⟩
    have taken : State.statusDelivered g (s.frameEnd w) = (s.frameEnd w).takeStatus g.station b r := by
      unfold State.statusDelivered
      rw [d]
      exact if_pos fits
    rw [taken, (takeStatus_withdrawn g.station b r ended).image]
    show s.image.set g.station (Entry.afterStatus _ b _ s.image[g.station]) = _
    unfold Entry.afterStatus
    cases (s.image[g.station]).state <;> rfl
  · have quiet : Quiet (s.frameEnd w) (State.announceDelivered g (s.frameEnd w)) := by
      unfold State.announceDelivered
      split
      · exact Quiet.trans (t := (s.frameEnd w).onEntry _ _) ⟨rfl, rfl, rfl, rfl, rfl, rfl, rfl, rfl⟩
          (takeAnnounce_withdrawn _ _ ended).quiet
      · exact .refl _
    refine ⟨_, exec_arrival_withdrawn l e k other quiet, fun a d => ?_⟩
    have taken : State.announceDelivered g (s.frameEnd w) = (s.frameEnd w).takeAnnounce g.station a := by
      unfold State.announceDelivered
      rw [d]
    have refuses : (s.frameEnd w).refuses g.station a = true ↔
        a.configFault = true ∨ a.fingerprint ≠ s.cfg.fingerprint ∨ a.role ≠ (s.cfg.briefs[g.station]).role := by
      show (a.configFault || a.fingerprint != s.cfg.fingerprint || a.role != (s.cfg.briefs[g.station]).role) = true ↔ _
      simp only [Bool.or_eq_true, bne_iff_ne, or_assoc]
    refine ⟨Entry.announced ((s.frameEnd w).refuses g.station a) a.role, ?_, rfl, rfl, rfl, rfl, fun r => ?_, fun r => ?_⟩
    · rw [taken, (takeAnnounce_withdrawn g.station a ended).image]
      rfl
    · rw [refuses.mpr r]
      exact ⟨rfl, rfl⟩
    · rw [Bool.eq_false_iff.mpr (fun c => r (refuses.mp c))]
      exact ⟨rfl, rfl⟩
  · have quiet : Quiet (s.frameEnd w) (State.intentDelivered g (s.frameEnd w)) ∧
        (State.intentDelivered g (s.frameEnd w)).image = s.image := by
      unfold State.intentDelivered
      split
      · exact takeIntent_quiet _ _ idle
      · exact ⟨.refl _, rfl⟩
    refine ⟨_, exec_arrival_withdrawn l e k other quiet.1, quiet.2, fun stale => ?_, fun i r d fresh role allows => ?_⟩
    · unfold State.intentDelivered
      split
      · unfold State.takeIntent
        dsimp only
        rw [sender]
        split
        · rfl
        · rw [if_neg (fun c => stale c.1)]
          rfl
      · rfl
    · have taken : State.intentDelivered g (s.frameEnd w) = (s.frameEnd w).takeIntent g.station i := by
        unfold State.intentDelivered
        rw [d]
      rw [taken]
      exact takeIntent_allowed idle (by rw [sender]; exact fresh) (by rw [sender]; exact role) allows
  · have quiet : Quiet (s.frameEnd w) (State.tripDelivered g (s.frameEnd w)) ∧
        (State.tripDelivered g (s.frameEnd w)).image = s.image := by
      unfold State.tripDelivered
      split
      · exact ⟨(tripArrives_inert _ _ idle).quiet, (tripArrives_inert _ _ idle).image⟩
      · exact ⟨.refl _, rfl⟩
    refine ⟨_, exec_arrival_withdrawn l e k other quiet.1, quiet.2, fun r d => ?_⟩
    have entered := (inert_kept (s.frameEnd w)).enterTrip g.station r.cls (.refl idle)
    unfold State.tripDelivered
    rw [d]
    dsimp only
    rw [settle_idle entered.isActive, enterTrip_trips, tripEntry_cls]
    rfl

end Sys2Proof.Machine
end

section
/-! The completion of a send (R34 to R36, R49 to R51, R56, R145 to R147). -/

namespace Sys2Proof.Machine

/-! ## What the blocks may change in answer -/

/-- What a RESET arrival, an evaluation or a change of LONE may change: functions, drives, guards, the arbiter, the field inputs of
the functions, the trip list and the flags and window of a RESET, and a STATUS request. -/
structure Reacted (s t : State) : Prop where
  rest : t = { s with
    fns := t.fns, drive := t.drive, dump := t.dump, guard := t.guard, flow := t.flow
    field := { s.field with fns := t.field.fns }
    unit := { s.unit with
      trips := t.unit.trips, restartHold := t.unit.restartHold, tripAsserted := t.unit.tripAsserted
      resetWindow := t.unit.resetWindow }
    loop := { s.loop with status := t.loop.status }, pub := { s.pub with deferred := t.pub.deferred } }
  asked : Asked s t

namespace Reacted

theorem refl (s : State) : Reacted s s := ⟨rfl, .refl s⟩

theorem trans {s t u : State} (h : Reacted s t) (k : Reacted t u) : Reacted s u := by
  refine ⟨?_, h.asked.trans k.asked⟩
  have e := h.rest
  have e' := k.rest
  generalize t.fns = a1, t.drive = a2, t.dump = a3, t.guard = a4, t.flow = a5, t.field.fns = a6, t.unit.trips = a7,
    t.unit.restartHold = a8, t.unit.tripAsserted = a9, t.unit.resetWindow = a10, t.loop.status = a11,
    t.pub.deferred = a12 at e
  subst e
  generalize u.fns = b1, u.drive = b2, u.dump = b3, u.guard = b4, u.flow = b5, u.field.fns = b6, u.unit.trips = b7,
    u.unit.restartHold = b8, u.unit.tripAsserted = b9, u.unit.resetWindow = b10, u.loop.status = b11,
    u.pub.deferred = b12 at e' ⊢
  subst e'
  rfl

variable {s t : State} (h : Reacted s t)
include h

theorem life : t.life = s.life := by rw [h.rest]
theorem setup : t.setup = s.setup := by rw [h.rest]
theorem station : t.station = s.station := by rw [h.rest]
theorem image : t.image = s.image := by rw [h.rest]
theorem panel : t.panel = s.panel := by rw [h.rest]
theorem joinWindow : t.joinWindow = s.joinWindow := by rw [h.rest]
theorem announceTimer : t.announceTimer = s.announceTimer := by rw [h.rest]
theorem loop : t.loop = { s.loop with status := t.loop.status } := by conv => lhs; rw [h.rest]
theorem pub : t.pub = { s.pub with deferred := t.pub.deferred } := by conv => lhs; rw [h.rest]
theorem field : t.field = { s.field with fns := t.field.fns } := by conv => lhs; rw [h.rest]
theorem table : t.unit.table = s.unit.table := by rw [h.rest]
theorem tripRepeat : t.unit.tripRepeat = s.unit.tripRepeat := by rw [h.rest]

end Reacted

theorem Settled.reacted {s t : State} (h : Settled s t) : Reacted s t := by
  refine ⟨?_, h.asked⟩
  have e := h.rest
  generalize t.fns = a, t.drive = b, t.dump = c, { t.guard with flash := s.guard.flash } = g, t.loop.status = x,
    t.pub.deferred = y at e
  subst e
  rfl

theorem statusCause_reacted (s : State) : Reacted s s.statusCause := by
  refine ⟨?_, statusCause_asked s⟩
  have e := statusCause_eq s
  generalize s.statusCause = u at e ⊢
  generalize u.loop.status = x, u.pub.deferred = y at e
  subst e
  rfl

theorem reacted_kept (s : State) : Kept (Reacted s) where
  cause h := h.trans (statusCause_reacted _)
  guard _ h := h.trans ⟨rfl, .inl rfl, id⟩
  fn _ _ _ h := h.trans ⟨rfl, .inl rfl, id⟩
  drive _ _ _ h := h.trans ⟨rfl, .inl rfl, id⟩
  still h := h.trans ⟨rfl, .inl rfl, id⟩
  fnField _ _ h := h.trans ⟨rfl, .inl rfl, id⟩
  flow _ h := h.trans ⟨rfl, .inl rfl, id⟩

theorem resetArrival_reacted (s : State) : Reacted s s.resetArrival :=
  (reacted_kept s).resetArrival (fun _ h => h.trans ⟨rfl, .inl rfl, id⟩) (fun _ h => h.trans ⟨rfl, .inl rfl, id⟩)
    (fun _ h => h.trans ⟨rfl, .inl rfl, id⟩) (fun _ h => h.trans ⟨rfl, .inl rfl, id⟩) (.refl s)

/-- A RESET arrival in ACTIVE ends RESTART_HOLD and starts the reset window (R150). -/
theorem resetArrival_flags {s : State} (a : s.isActive = true) :
    s.resetArrival.unit.restartHold = false ∧ s.resetArrival.unit.resetWindow = some s.timing.intentLease := by
  have kept : Kept (fun t : State => t.unit.restartHold = false ∧ t.unit.resetWindow = some s.timing.intentLease) :=
    { cause := fun h => by rw [statusCause_eq]; exact h, guard := fun _ h => h, fn := fun _ _ _ h => h, drive := fun _ _ _ h => h,
      still := id, fnField := fun _ _ h => h, flow := fun _ h => h }
  have active : ((((s.eachFn State.clearFault).pumpReset .a).pumpReset .b)).isActive = true := by
    have life : Kept (fun t : State => t.isActive = true) :=
      { cause := fun h => by rw [statusCause_eq]; exact h, guard := fun _ h => h, fn := fun _ _ _ h => h
        drive := fun _ _ _ h => h, still := id, fnField := fun _ _ h => h, flow := fun _ h => h }
    exact life.pumpReset .b (life.pumpReset .a (Kept.eachFn (P := fun t => t.isActive = true)
      (fun f _ => life.clearFault f) a))
  unfold State.resetArrival
  extract_lets s1 s2 s3 s4
  have held : s2.unit.restartHold = false := by
    unfold s2 State.resetFlags
    rw [if_pos active]
    dsimp only
    split
    · rw [act_unit, State.onUnit_unit, act_unit]
      rfl
    · rw [act_unit]
      rfl
  clear_value s2
  have opened : s3.unit.restartHold = false ∧ s3.unit.resetWindow = some s.timing.intentLease := ⟨held, rfl⟩
  clear_value s3
  have computed : s4.unit.restartHold = false ∧ s4.unit.resetWindow = some s.timing.intentLease := by
    unfold s4
    split
    · exact kept.arbitrate opened
    · exact opened
  exact kept.settle (kept.removeTrips (fun _ h => h) stations computed)

/-! ## The own INTENT (R146, R147) -/

theorem ownEntry_active {s : State} (l : s.life = .active) :
    s.ownEntry.state = .fresh ∧ s.ownEntry.role = some s.role := by
  unfold State.ownEntry
  rw [l]
  exact ⟨rfl, rfl⟩

theorem Role.allows_iff (r : Role) (k : IntentKind) : r.allows k = true ↔
    r = .panelCommand ∨ r = .panelStop ∧ (k = .release ∨ k = .stop ∨ k = .reset) := by
  cases r <;> cases k <;> simp [Role.allows]

/-- The intent table after the station's own INTENT is judged. -/
def State.judged (i : IntentFrame) (s : State) : Vector (Option IntentEntry) 16 :=
  if s.life = .active ∧ s.role.allows i.kind = true then
    match i.entered with
    | .release => s.unit.table.set s.station none
    | .reset => s.unit.table
    | k => s.unit.table.set s.station (some { kind := k, lease := some s.timing.intentLease })
  else s.unit.table

theorem takeIntent_own (i : IntentFrame) (s : State) : ∃ e : Option IntentKind,
    Reacted (s.onUnit (fun u => { u with table := s.judged i, effective := e })) (s.takeIntent s.station i) := by
  have same : s.onUnit (fun u => { u with table := s.unit.table, effective := s.unit.effective }) = s := rfl
  have written : ∀ x : Option IntentEntry, Reacted (s.writeIntent s.station x) (s.writeIntent s.station x).settle := fun x =>
    (settle_settled _).reacted
  by_cases c : s.life = .active ∧ s.role.allows i.kind = true
  · obtain ⟨fresh, role⟩ := ownEntry_active c.1
    unfold State.takeIntent State.judged
    dsimp only
    rw [entry_own, role]
    dsimp only
    rw [if_pos c, if_pos ⟨fresh, c.2⟩]
    cases i.entered <;> dsimp only
    case reset => exact ⟨s.unit.effective, resetArrival_reacted s⟩
    all_goals exact ⟨_, written _⟩
  · refine ⟨s.unit.effective, ?_⟩
    rw [State.judged, if_neg c, same]
    unfold State.takeIntent
    dsimp only
    rw [entry_own]
    split
    · exact .refl s
    next r role =>
      rw [if_neg]
      · exact .refl s
      · rintro ⟨fresh, allows⟩
        obtain ⟨l, own⟩ := ownEntry_fresh fresh
        cases role.symm.trans own
        exact c ⟨l, allows⟩

/-! ## The timers of the frame's kind (R12, R13, R49 to R51, R56, R145) -/

/-- The station that was told of a completion, with its intent table as judged. -/
def State.told (m : Send) (v : Vector (Option IntentEntry) 16) (e : Option IntentKind) (s : State) : State := { s with
  joinWindow := if m.kind = .announce ∧ s.life = .joining then some (s.joinWindow.getD s.timing.stale) else s.joinWindow
  announceTimer := if m.kind = .announce ∧ s.life = .configFault then some Config.announceMs else s.announceTimer
  pub := if m.kind = .status then { s.pub with
      edition := BitVec.ofNat 3 m.edition, lastSent := some m.data, refresh := some s.timing.refresh
      inhibitTimer := some s.timing.changeInhibit }
    else s.pub
  panel := match m.kind, decodeIntent m.data with
    | .intent, some i => { s.panel with
        refresh := if i.kind.repeats then some s.timing.intentRefresh else none
        refreshKind := if i.kind.repeats then some i.kind else none }
    | _, _ => s.panel
  unit := { s.unit with
    table := v, effective := e
    tripRepeat := if m.kind = .trip ∧ s.life = .active then some s.timing.refresh else s.unit.tripRepeat } }

/-- The intent table after a completed send: an own INTENT is judged. -/
def State.tableAfter (m : Send) (s : State) : Vector (Option IntentEntry) 16 :=
  match m.kind, decodeIntent m.data with
  | .intent, some i => s.judged i
  | _, _ => s.unit.table

/-- The timer that a completed ANNOUNCE starts: the join window once, or the timer of CONFIG_FAULT (R12, R13). -/
theorem announceCompleted_eq (s : State) : s.announceCompleted = { s with
    joinWindow := if s.life = .joining then some (s.joinWindow.getD s.timing.stale) else s.joinWindow
    announceTimer := if s.life = .configFault then some Config.announceMs else s.announceTimer } := by
  unfold State.announceCompleted
  split
  next l =>
    have faultless : ¬s.life = .configFault := by rw [l]; simp
    split
    next n =>
      rw [Option.isNone_iff_eq_none.mp n]
      rfl
    next n =>
      have runs : some (s.joinWindow.getD s.timing.stale) = s.joinWindow := by
        cases w : s.joinWindow with
        | none => rw [w] at n; exact absurd rfl n
        | some x => rfl
      rw [runs]
  next l => rw [if_neg (by rw [l]; simp), if_pos l]
  next j c => rw [if_neg j, if_neg c]

theorem notified_reacted (m : Send) (s : State) : ∃ e : Option IntentKind, Reacted (s.told m (s.tableAfter m) e) (s.notified m) := by
  obtain ⟨kind, mark, begun, edition, data, bytes⟩ := m
  cases kind
  case trip =>
    refine ⟨s.unit.effective, ?_⟩
    have same : s.tripCompleted = s.told ⟨.trip, mark, begun, edition, data, bytes⟩ s.unit.table s.unit.effective := by
      unfold State.tripCompleted State.told
      by_cases a : s.life = .active
      · rw [if_pos ((isActive_iff s).mpr a)]
        simp [a, State.onUnit]
      · rw [if_neg (fun c => a ((isActive_iff s).mp c))]
        simp [a]
    exact same ▸ .refl _
  case intent =>
    show ∃ e : Option IntentKind, Reacted _ (s.intentCompleted _)
    unfold State.intentCompleted State.tableAfter State.told
    dsimp only
    cases d : decodeIntent data with
    | none => exact ⟨s.unit.effective, .refl s⟩
    | some i =>
      exact takeIntent_own i (s.onPanel (fun p => { p with
        refresh := if i.kind.repeats then some s.timing.intentRefresh else none
        refreshKind := if i.kind.repeats then some i.kind else none }))
  case status => exact ⟨s.unit.effective, .refl (s.statusCompleted ⟨.status, mark, begun, edition, data, bytes⟩)⟩
  case announce =>
    refine ⟨s.unit.effective, ?_⟩
    have same : s.announceCompleted = s.told ⟨.announce, mark, begun, edition, data, bytes⟩ s.unit.table s.unit.effective := by
      rw [announceCompleted_eq]
      simp only [State.told, true_and, reduceCtorEq, if_false, false_and]
    exact same ▸ .refl _

/-! ## The unheard count and LONE (R36) -/

/-- The counts after a completed send. -/
def State.heardBy (heard : Bool) (s : State) : State := s.onLoop (fun x => { x with
  unheard := if s.running then (if heard then 0 else min (x.unheard + 1) 4) else x.unheard
  lone := if s.isActive then !heard && (x.lone || min (x.unheard + 1) 4 == 4) else x.lone })

theorem Reacted.heardBy (heard : Bool) {s t : State} (h : Reacted s t) : Reacted (s.heardBy heard) (t.heardBy heard) := by
  have life := h.life
  have loop := h.loop
  refine ⟨?_, h.asked.status, h.asked.deferred⟩
  have e := h.rest
  unfold State.heardBy State.running State.isActive
  rw [life]
  generalize t.fns = a1, t.drive = a2, t.dump = a3, t.guard = a4, t.flow = a5, t.field.fns = a6, t.unit.trips = a7,
    t.unit.restartHold = a8, t.unit.tripAsserted = a9, t.unit.resetWindow = a10, t.loop.status = a11,
    t.pub.deferred = a12 at e
  subst e
  rfl

theorem unheardUpdate_reacted (heard : Bool) (s : State) : Reacted (s.heardBy heard) (s.unheardUpdate heard) := by
  unfold State.unheardUpdate
  by_cases r : s.running = true
  · rw [if_pos r]
    dsimp only
    have base : ∀ b : Bool, (s.isActive = true → b = (!heard && (s.loop.lone || min (s.loop.unheard + 1) 4 == 4))) →
        (s.isActive = false → b = s.loop.lone) →
        (s.onLoop (Loop.count heard)).onLoop (fun x => { x with lone := b }) = s.heardBy heard := by
      intro b act idle
      unfold State.heardBy
      rw [r]
      cases a : s.isActive with
      | true => rw [act a]; rfl
      | false => rw [idle a]; rfl
    have lone : (s.onLoop (Loop.count heard)).loop.loneAfter heard =
        (!heard && (s.loop.lone || min (s.loop.unheard + 1) 4 == 4)) := by
      cases heard <;> rfl
    split
    next c =>
      rw [← base _ (fun _ => lone) (fun i => by rw [show s.isActive = true from c.1] at i; cases i)]
      have k := reacted_kept ((s.onLoop (Loop.count heard)).onLoop (fun x => { x with
        lone := (s.onLoop (Loop.count heard)).loop.loneAfter heard }))
      refine k.loneChanged ?_
      unfold State.act
      dsimp only
      split
      · exact statusCause_reacted _
      · exact .refl _
    next c =>
      rw [← base s.loop.lone (fun a => ?_) (fun _ => rfl)]
      · exact .refl _
      · rw [← lone]
        by_contra n
        exact c ⟨a, fun e => n e.symm⟩
  · have idle : s.isActive = false := by
      unfold State.running State.isActive at *
      cases l : s.life <;> rw [l] at r <;> first | rfl | exact absurd rfl r
    rw [if_neg r]
    dsimp only
    rw [if_neg (fun c => by rw [idle] at c; cases c.1)]
    have same : s.heardBy heard = s := by
      unfold State.heardBy
      rw [idle, Bool.eq_false_iff.mpr r]
      rfl
    rw [same]
    exact .refl s

theorem unheardUpdate_unit (heard : Bool) (s : State) : (s.unheardUpdate heard).unit = s.unit := by
  unfold State.unheardUpdate
  dsimp only
  have counted : (if s.running = true then s.onLoop (Loop.count heard) else s).unit = s.unit := by split <;> rfl
  generalize (if s.running = true then s.onLoop (Loop.count heard) else s) = u at counted
  rw [← counted]
  split
  · rw [(loneChanged_noticed _).rest]
    dsimp only
    rw [act_unit]
    rfl
  · rfl

/-! ## The obligation -/

/-- The station after a completed send, but for what its blocks do in answer. -/
theorem sendComplete_reacted {s : State} {m : Send} (heard : Bool) (e : s.loop.send = some m) (begun : m.idBegun = true)
    (may : s.maySend = true) :
    exec (.sendComplete heard) s = done (((s.onLoop Loop.complete).notified m).unheardUpdate heard) ∧
    ∃ x : Option IntentKind, Reacted (((s.onLoop Loop.complete).told m (s.tableAfter m) x).heardBy heard)
      (((s.onLoop Loop.complete).notified m).unheardUpdate heard) := by
  constructor
  · show execSendComplete heard s = _
    unfold execSendComplete
    rw [e]
    exact if_pos ⟨begun, may⟩
  · obtain ⟨x, told⟩ := notified_reacted m (s.onLoop Loop.complete)
    exact ⟨x, (told.heardBy heard).trans (unheardUpdate_reacted heard _)⟩

/-- A RESET of the own panel, as it is judged in ACTIVE. -/
theorem intentCompleted_reset {s : State} {m : Send} {i : IntentFrame} (k : m.kind = .intent) (d : decodeIntent m.data = some i)
    (l : s.life = .active) (allows : s.role.allows i.kind = true) (reset : i.kind = .reset) :
    (s.notified m).unit.restartHold = false ∧ (s.notified m).unit.resetWindow = some s.timing.intentLease := by
  have taken : s.notified m = s.intentCompleted m := by
    unfold State.notified
    rw [k]
  rw [taken]
  unfold State.intentCompleted
  rw [d]
  dsimp only
  generalize own : s.onPanel (fun p => { p with
    refresh := if i.kind.repeats then some s.timing.intentRefresh else none
    refreshKind := if i.kind.repeats then some i.kind else none }) = u
  have active : u.life = .active := by rw [← own]; exact l
  have role : u.role = s.role := by rw [← own]; rfl
  have station : u.station = s.station := by rw [← own]; rfl
  have timing : u.timing = s.timing := by rw [← own]; rfl
  obtain ⟨fresh, same⟩ := ownEntry_active active
  have arrives : u.takeIntent s.station i = u.resetArrival := by
    unfold State.takeIntent
    dsimp only
    rw [← station, entry_own, same]
    dsimp only
    rw [if_pos ⟨fresh, by rw [role]; exact allows⟩, entered_reset reset]
  rw [arrives, ← timing]
  exact resetArrival_flags ((isActive_iff u).mpr active)

theorem repeats_iff (k : IntentKind) : k.repeats = true ↔ k ≠ .release ∧ k ≠ .reset := by cases k <;> simp [IntentKind.repeats]

/-- Settles O21: the equation of a completion, field by field. -/
theorem completionEndsSend : Obligations.CompletionEndsSend := by
  unfold Obligations.CompletionEndsSend
  intro heard s m e begun may
  obtain ⟨ends, x, r⟩ := sendComplete_reacted heard e begun may
  have unit := unheardUpdate_unit heard ((s.onLoop Loop.complete).notified m)
  have reset := fun i => @intentCompleted_reset (s.onLoop Loop.complete) m i
  generalize (s.onLoop Loop.complete).notified m = n at ends r unit reset
  generalize n.unheardUpdate heard = t at ends r unit
  have lives : s.life = .configFault ∨ s.life = .joining ∨ s.life = .active := by
    simpa [State.maySend, State.isActive, or_assoc] using may
  have loop := r.loop
  have pub := r.pub
  refine ⟨t.finish, ends, ?_, ?_, ?_, ?_, r.life, ⟨?_, ?_, ?_, r.asked.status⟩, ?_, ?_, ?_, r.joinWindow, r.announceTimer,
    r.tripRepeat, fun i k d => ?_, fun i k d => ?_, fun k => ?_, r.image, ?_, ?_, r.setup⟩
  · exact congrArg Loop.send loop
  · exact congrArg Loop.aborts loop
  · exact congrArg Loop.wait loop
  · exact congrArg Loop.line loop
  · exact congrArg Loop.trip loop
  · exact congrArg Loop.intent loop
  · exact congrArg Loop.announce loop
  · refine (congrArg Loop.unheard loop).trans ?_
    show (if s.running then (if heard then 0 else min (s.loop.unheard + 1) 4) else s.loop.unheard) = _
    rcases lives with l | l | l <;> simp [State.running, l]
  · refine (congrArg Loop.lone loop).trans ?_
    show (if s.isActive then !heard && (s.loop.lone || min (s.loop.unheard + 1) 4 == 4) else s.loop.lone) = _
    rcases lives with l | l | l <;> simp [State.isActive, l]
  · have told : t.finish.pub = { (if m.kind = .status then { s.pub with
          edition := BitVec.ofNat 3 m.edition, lastSent := some m.data, refresh := some s.timing.refresh
          inhibitTimer := some s.timing.changeInhibit }
        else s.pub) with deferred := t.pub.deferred } := pub
    rw [told]
    split <;> exact ⟨rfl, rfl, rfl, rfl⟩
  · rw [State.finish_panel, r.panel]
    show (match m.kind, decodeIntent m.data with
      | .intent, some i => ({ s.panel with
          refresh := if i.kind.repeats then some s.timing.intentRefresh else none
          refreshKind := if i.kind.repeats then some i.kind else none } : Panel)
      | _, _ => s.panel).refresh = _
    rw [k, d]
    show (if i.kind.repeats = true then some s.timing.intentRefresh else none) = _
    have kept : i.kind.repeats = true ↔ ¬(i.kind = .release ∨ i.kind = .reset) := (repeats_iff _).trans not_or.symm
    by_cases c : i.kind = .release ∨ i.kind = .reset
    · rw [if_pos c, if_neg (fun h => kept.mp h c)]
    · rw [if_neg c, if_pos (kept.mpr c)]
  · have after : t.finish.unit.table = s.judged i := r.table.trans (by
      show s.tableAfter m = _
      unfold State.tableAfter
      rw [k, d])
    have kinds : s.role.allows i.kind = true ↔ s.role = .panelCommand ∨
        s.role = .panelStop ∧ (i.kind = .release ∨ i.kind = .stop ∨ i.kind = .reset) := Role.allows_iff _ _
    dsimp only
    rw [after, State.judged, ← kinds]
    refine ⟨fun refused => if_neg refused, fun allowed is => ?_, fun allowed is => ?_, fun allowed n1 n2 => ?_⟩
    · rw [if_pos allowed, entered_reset is, State.finish_unit, unit]
      exact ⟨rfl, reset i k d allowed.1 allowed.2 is⟩
    · rw [if_pos allowed, entered_release is]
    · have again := entered_repeats ((repeats_iff _).mpr ⟨n1, n2⟩)
      rw [if_pos allowed]
      split
      next c => rw [c] at again; cases again
      next c => rw [c] at again; cases again
      next => rfl
  · refine r.table.trans ?_
    show s.tableAfter m = _
    unfold State.tableAfter
    split
    next c _ => exact absurd c k
    next => rfl
  · rw [State.finish_field, r.field]
    rfl
  · rw [State.finish_field, r.field]
    rfl

end Sys2Proof.Machine
end

section
/-! The entry to ACTIVE at the end of the join window (R14). -/

namespace Sys2Proof.Machine

/-! ## Functions that hold no claim -/

/-- A function that holds no claim keeps its fault code, and stays where it is or goes to HELD_FAULT. -/
def Idles (x y : Fn) : Prop := x.motion.claims = false → y.fault = x.fault ∧ (y.motion = x.motion ∨ y.motion = .heldFault)

theorem Idles.refl (x : Fn) : Idles x x := fun _ => ⟨rfl, .inl rfl⟩

theorem Idles.claims {x y : Fn} (h : Idles x y) (c : x.motion.claims = false) : y.motion.claims = false := by
  rcases (h c).2 with m | m
  · rw [m]
    exact c
  · rw [m]
    rfl

theorem Idles.trans {x y z : Fn} (h : Idles x y) (k : Idles y z) : Idles x z := by
  intro c
  obtain ⟨fault, motion⟩ := h c
  obtain ⟨fault', motion'⟩ := k (h.claims c)
  refine ⟨fault'.trans fault, ?_⟩
  rcases motion' with m | m
  · rw [m]
    exact motion
  · exact .inr m

/-- Each function of the station idles between two states. -/
def AllIdle (s t : State) : Prop := ∀ f : FnId, Idles (s.fns[f]) (t.fns[f])

theorem AllIdle.of_eq {s t : State} (h : t.fns = s.fns) : AllIdle s t := fun f => by rw [h]; exact .refl _

theorem AllIdle.trans {s t u : State} (h : AllIdle s t) (k : AllIdle t u) : AllIdle s u := fun f => (h f).trans (k f)

/-- An operation on each function in turn, where each leaves a function without a claim in its place. -/
theorem AllIdle.eachFn {op : FnId → State → State} (own : ∀ f t, Idles (t.fns[f]) ((op f t).fns[f]))
    (other : ∀ f t, Moved f t (op f t)) (s : State) : AllIdle s (s.eachFn op) := fun f =>
  eachFn_at (op := op) (view := fun t h => t.fns[h]) (R := fun _ => Idles) (I := fun _ => True) (fun _ _ _ => trivial)
    (fun f t _ => own f t) (fun f h t _ ne => ((other f t).others h ne).1) trivial f

theorem holdLatched_idles (f : FnId) (s : State) : Idles (s.fns[f]) ((s.holdLatched f).fns[f]) := by
  unfold State.holdLatched
  split
  · obtain ⟨motion, fault⟩ := toIdle_fn .heldFault f s
    show Idles (s.fns[f]) ((s.act (State.toIdle .heldFault f)).fns[f])
    rw [act_fns]
    exact fun _ => ⟨fault, .inr motion⟩
  · exact .refl _

theorem holdLatched_moved (f : FnId) (s : State) : Moved f s (s.holdLatched f) := by
  unfold State.holdLatched
  split
  · exact (toIdle_moved _ f s).act
  · exact .refl f s

theorem immediateStop_idles (f : FnId) (s : State) : Idles (s.fns[f]) ((s.immediateStop f).fns[f]) := by
  intro c
  have still : s.immediateStop f = s := by
    refine immediateStop_still ?_ (fun e => by rw [e] at c; cases c)
    generalize (s.fns[f]).motion = m at c
    cases m <;> first | rfl | cases c
  rw [still]
  exact ⟨rfl, .inl rfl⟩

theorem halt_idles (f : FnId) (s : State) : Idles (s.fns[f]) ((s.halt f).fns[f]) := by
  intro c
  have still : s.halt f = s := by
    unfold State.halt
    generalize (s.fns[f]).motion = m at c
    cases m <;> first | rfl | cases c
  rw [still]
  exact ⟨rfl, .inl rfl⟩

theorem arbitrate_fns (s : State) : s.arbitrate.fns = s.fns := by
  unfold State.arbitrate
  split
  · rw [act_fns]
  · rfl

theorem pumpGateStop_fns (p : PumpId) (s : State) : (s.pumpGateStop p).fns = s.fns := by
  unfold State.pumpGateStop
  split
  · unfold State.pumpEnters
    rw [act_fns]
    rfl
  · rfl

theorem gateEdge_fns (old s : State) : (State.gateEdge old s).fns = s.fns := by
  unfold State.gateEdge
  split
  · split
    · rw [arbitrate_fns, pumpGateStop_fns, pumpGateStop_fns]
    · split
      · exact arbitrate_fns s
      · rfl
  · rfl

theorem queueTrip_fns (r : TripReason) (s : State) : (s.queueTrip r).fns = s.fns := by
  unfold State.queueTrip
  split <;> rfl

theorem tripGained_idle (old : State) (c : Option StopClass) (s : State) : AllIdle s (State.tripGained old c s) := by
  unfold State.tripGained
  split
  · exact .of_eq rfl
  · have stopped : AllIdle s s.stopNow :=
      (AllIdle.eachFn immediateStop_idles immediateStop_moved s).trans (.of_eq rfl)
    exact stopped.trans (.of_eq (gateEdge_fns old s.stopNow))
  · exact AllIdle.eachFn halt_idles halt_moved s

theorem enterTrip_idle (n : StationId) (c : StopClass) (s : State) : AllIdle s (s.enterTrip n c) :=
  tripGained_idle s _ (s.onUnit (fun u => { u with trips := u.trips.set n (tripEntry (s.unit.trips[n]) c).1 }))

theorem raiseCause_idle (s : State) : AllIdle s s.raiseCause := by
  unfold State.raiseCause
  split
  · split
    · exact .of_eq rfl
    · have asserted : AllIdle s (s.act (State.onUnit (fun u => { u with tripAsserted := true }))) := .of_eq (by rw [act_fns]; rfl)
      exact asserted.trans ((enterTrip_idle _ _ _).trans (.of_eq (queueTrip_fns _ _)))
  · exact .of_eq rfl

theorem requeueTrip_fns (s : State) : s.requeueTrip.fns = s.fns := by
  unfold State.requeueTrip
  split
  · exact queueTrip_fns _ s
  · rfl

theorem raiseCauses_idle : ∀ (n : Nat) (s : State), AllIdle s (State.raiseCauses n s)
  | 0, _ => .of_eq rfl
  | n + 1, s => (raiseCause_idle s).trans (raiseCauses_idle n s.raiseCause)

theorem statusCause_fns (s : State) : s.statusCause.fns = s.fns := by rw [statusCause_eq]

theorem requeued_idle (s : State) : AllIdle s s.requeued := by
  have held : AllIdle s (s.activated.statusCause.eachFn State.holdLatched) :=
    (AllIdle.of_eq (s := s) (t := s.activated.statusCause) (statusCause_fns _)).trans
      (AllIdle.eachFn holdLatched_idles holdLatched_moved _)
  unfold State.requeued
  dsimp only
  split
  · exact held.trans (.of_eq (requeueTrip_fns _))
  · exact held

/-! ## Nothing leaves REST while RESTART_HOLD is set (R110) -/

/-- A function in REST or HELD_FAULT of a station under RESTART_HOLD. -/
structure RestsHeld (f : FnId) (s : State) : Prop where
  hold : s.unit.restartHold = true
  rests : (s.fns[f]).motion = .rest ∨ (s.fns[f]).motion = .heldFault

theorem RestsHeld.react {f g : FnId} {s t : State} (h : RestsHeld f s) (e : s.react g = some t) : RestsHeld f t := by
  obtain ⟨moved, -⟩ := react_moved e
  have hold : t.unit.restartHold = true := by rw [moved.rest]; exact h.hold
  by_cases same : g = f
  · subst same
    have stays : s.react g = none := by
      have held : ∀ d : Dir, s.mayLeave g d = false := fun d => by simp [State.mayLeave, h.hold]
      unfold State.react
      rcases h.rests with m | m
      · rw [m]
        dsimp only
        rw [held, held]
        simp
      · rw [m]
    rw [stays] at e
    cases e
  · exact ⟨hold, by rw [(moved.others f same).1]; exact h.rests⟩

theorem RestsHeld.of_eq {f : FnId} {s t : State} (h : RestsHeld f s) (unit : t.unit = s.unit) (fns : t.fns = s.fns) :
    RestsHeld f t := ⟨by rw [unit]; exact h.hold, by rw [fns]; exact h.rests⟩

theorem RestsHeld.evaluate {f : FnId} {s : State} (h : RestsHeld f s) : RestsHeld f s.evaluate := by
  unfold State.evaluate
  split
  · exact h.of_eq (by rw [act_unit]) (by rw [act_fns])
  · exact h

/-- A predicate that evaluations and reactions keep is kept by all that follows from an event (R86, R87). -/
theorem settle_keeps {P : State → Prop} (evaluate : ∀ {s : State}, P s → P s.evaluate)
    (react : ∀ {s t : State} {f : FnId}, s.react f = some t → P s → P t) {s : State} (h : P s) : P s.settle := by
  have sweep : ∀ (fs : List FnId) {s : State}, P s → P (State.sweep fs s).1 := by
    intro fs
    induction fs with
    | nil => exact id
    | cons f fs ih =>
      intro s h
      unfold State.sweep
      split
      · exact ih h
      next e => exact ih (evaluate (react e h))
  have rounds : ∀ (n : Nat) {s : State}, P s → P (State.settleRounds n s) := by
    intro n
    induction n with
    | zero => exact id
    | succ n ih =>
      intro s h
      have k := sweep s.choice.functions h
      unfold State.settleRounds
      split
      next e => rw [e] at k; exact ih k
      next e => rw [e] at k; exact k
  unfold State.settle
  split
  · exact rounds _ (evaluate h)
  · exact h

theorem RestsHeld.settle {f : FnId} {s : State} (h : RestsHeld f s) : RestsHeld f s.settle :=
  settle_keeps (P := RestsHeld f) RestsHeld.evaluate (fun e h => h.react e) h

/-! ## The causes that are present (R55) -/

theorem tripCause_congr {s t : State} (field : t.field = s.field) (faults : ∀ f : FnId, (t.fns[f]).fault = (s.fns[f]).fault) :
    t.tripCause = s.tripCause := by
  unfold State.tripCause
  rw [field]
  simp only [faults]

theorem presentCauses_congr {s t : State} (field : t.field = s.field)
    (faults : ∀ f : FnId, (t.fns[f]).fault = (s.fns[f]).fault) : t.presentCauses = s.presentCauses := by
  unfold State.presentCauses
  rw [field]
  simp only [faults]

/-- The first slot with a property. -/
theorem find_slot {p : FnId → Bool} {f : FnId} (h : p f = true) (first : ∀ g : FnId, g < f → p g = false) :
    slots.find? p = some f := by
  unfold slots
  match f with
  | 0 => simp [h]
  | 1 => simp [h, first 0 (by decide)]
  | 2 => simp [h, first 0 (by decide), first 1 (by decide)]
  | 3 => simp [h, first 0 (by decide), first 1 (by decide), first 2 (by decide)]

theorem mem_slots (f : FnId) : f ∈ slots := by fin_cases f <;> decide

/-- How many causes are present, by the first of them (R55). -/
theorem presentCauses_pos {s : State} {r : TripReason} (h : s.tripCause = some r) : 0 < s.presentCauses := by
  unfold State.tripCause at h
  unfold State.presentCauses
  generalize (fun f : FnId => (s.fns[f]).fault.raisesTrip) = raises at h ⊢
  cases l : s.field.stopLoopClosed with
  | false => simp
  | true =>
    cases p : s.field.supplyOk with
    | false => simp
    | true =>
      rw [l, p] at h
      cases e : slots.find? raises with
      | none => simp [e] at h
      | some f =>
        have mem := List.mem_filter.mpr ⟨List.mem_of_find?_eq_some e, List.find?_some e⟩
        have some := List.length_pos_of_mem mem
        simpa using some

theorem presentCauses_none {s : State} (h : s.tripCause = none) : s.presentCauses = 0 := by
  unfold State.tripCause at h
  unfold State.presentCauses
  generalize (fun f : FnId => (s.fns[f]).fault.raisesTrip) = raises at h ⊢
  cases l : s.field.stopLoopClosed with
  | false => simp [l] at h
  | true =>
    cases p : s.field.supplyOk with
    | false => simp [l, p] at h
    | true =>
      rw [l, p] at h
      cases e : slots.find? raises with
      | some f => simp [e] at h
      | none =>
        rw [List.filter_eq_nil_iff.mpr (List.find?_eq_none.mp e)]
        rfl

/-! ## A cause rises (R55, R151, R152) -/

theorem raiseCause_none {s : State} (c : s.tripCause = none) : s.raiseCause = s := by
  unfold State.raiseCause
  rw [c]
  exact ite_self s

/-- A rising cause: the flag, the own entry of the trip list, and at a MOTION station the TRIP. -/
theorem raiseCause_eq {s : State} {r : TripReason} (a : s.isActive = true) (c : s.tripCause = some r) : s.raiseCause =
    ((s.act (State.onUnit (fun u => { u with tripAsserted := true }))).enterTrip s.station r.cls).queueTrip r := by
  unfold State.raiseCause
  rw [if_pos a, c]

theorem queueTrip_unit (r : TripReason) (s : State) : (s.queueTrip r).unit.tripAsserted = s.unit.tripAsserted ∧
    (s.queueTrip r).unit.trips = s.unit.trips := by
  unfold State.queueTrip
  split <;> exact ⟨rfl, rfl⟩

theorem enterTrip_rest (n : StationId) (c : StopClass) (s : State) :
    (s.enterTrip n c).loop.trip = s.loop.trip ∧ (s.enterTrip n c).unit.tripAsserted = s.unit.tripAsserted ∧
    (s.enterTrip n c).life = s.life ∧ (s.enterTrip n c).setup = s.setup := by
  unfold State.enterTrip
  dsimp only
  rw [(tripGained_noticed _ _ _).rest]
  exact ⟨rfl, rfl, rfl, rfl⟩

theorem raiseCause_unit {s : State} {r : TripReason} (a : s.isActive = true) (c : s.tripCause = some r) :
    s.raiseCause.unit.tripAsserted = true ∧ s.raiseCause.unit.trips =
      s.unit.trips.set s.station (some (if s.unit.trips[s.station] = some .eStop ∨ r = .stopLoopOpen then .eStop else .cStop)) := by
  obtain ⟨asserted, trips⟩ := queueTrip_unit r
    ((s.act (State.onUnit (fun u => { u with tripAsserted := true }))).enterTrip s.station r.cls)
  obtain ⟨-, entered, -, -⟩ := enterTrip_rest s.station r.cls (s.act (State.onUnit (fun u => { u with tripAsserted := true })))
  rw [raiseCause_eq a c]
  refine ⟨asserted.trans (entered.trans (by rw [act_unit]; rfl)), trips.trans ?_⟩
  rw [enterTrip_trips, act_unit, tripEntry_cls]
  rfl

/-- The TRIP that a rising cause queues at a MOTION station. -/
theorem raiseCause_queued {s : State} {r : TripReason} (a : s.isActive = true) (c : s.tripCause = some r)
    (m : s.role = .motion) : s.raiseCause.loop.trip = s.loop.trip.request r ∧ s.raiseCause.unit.lastTrip = some r := by
  obtain ⟨trip, -, life, setup⟩ := enterTrip_rest s.station r.cls (s.act (State.onUnit (fun u => { u with tripAsserted := true })))
  rw [raiseCause_eq a c]
  generalize (s.act (State.onUnit (fun u => { u with tripAsserted := true }))).enterTrip s.station r.cls = t at trip life setup
  rw [act_life] at life
  rw [act_setup] at setup
  have may : t.mayQueue .trip = true := by
    refine mayQueue_trip ?_ ?_
    · unfold State.isActive
      rw [life]
      exact a
    · unfold State.role State.cfg
      rw [setup]
      exact m
  have same : t.loop.trip = s.loop.trip := by rw [trip, act_eq]; rfl
  unfold State.queueTrip
  rw [if_pos may]
  exact ⟨congrArg (Slot.request r) same, rfl⟩

/-- No other role queues one. -/
theorem queueTrip_other (r : TripReason) {s : State} (m : s.role ≠ .motion) : s.queueTrip r = s := by
  unfold State.queueTrip
  rw [if_neg (by simp [State.mayQueue, m])]

theorem Tripped.role {s t : State} (h : Tripped s t) : t.role = s.role := by
  unfold State.role State.cfg
  rw [h.rest]

theorem Tripped.field {s t : State} (h : Tripped s t) : t.field = s.field := by rw [h.rest]

theorem Tripped.station {s t : State} (h : Tripped s t) : t.station = s.station := by rw [h.rest]

theorem Tripped.isActive {s t : State} (h : Tripped s t) : t.isActive = s.isActive := by
  unfold State.isActive
  rw [h.life]

theorem raiseCause_other {s : State} (m : s.role ≠ .motion) : s.raiseCause.loop.trip = s.loop.trip := by
  unfold State.raiseCause
  split
  · split
    · rfl
    next r _ =>
      obtain ⟨trip, -, -, setup⟩ := enterTrip_rest s.station r.cls (s.act (State.onUnit (fun u => { u with tripAsserted := true })))
      rw [queueTrip_other, trip, act_eq]
      · rfl
      · unfold State.role State.cfg
        rw [setup, act_setup]
        exact m
  · rfl

/-! ## The causes rise in turn -/

theorem raiseCauses_keep {P : State → Prop} (step : ∀ t : State, P t → P t.raiseCause) :
    ∀ (n : Nat) {s : State}, P s → P (State.raiseCauses n s)
  | 0, _, h => h
  | n + 1, s, h => raiseCauses_keep step n (step s h)

/-- A station whose own trip is in force, its entry of the trip list with a property. -/
structure Asserts (n : StationId) (p : Option StopClass → Prop) (t : State) : Prop where
  active : t.isActive = true
  own : t.station = n
  asserted : t.unit.tripAsserted = true
  listed : p t.unit.trips[n]

/-- The property that a rising cause gives the own entry stays while others rise (R151). -/
theorem raiseCauses_asserts {p : Option StopClass → Prop} {s : State} {r : TripReason} (a : s.isActive = true)
    (c : s.tripCause = some r) (first : ∀ h : Option StopClass,
      p (some (if h = some .eStop ∨ r = .stopLoopOpen then StopClass.eStop else .cStop)))
    (stays : ∀ (h : Option StopClass) (x : TripReason), p h →
      p (some (if h = some .eStop ∨ x = .stopLoopOpen then StopClass.eStop else .cStop))) :
    Asserts s.station p (State.raiseCauses s.presentCauses s) := by
  have raised : ∀ {t : State} {x : TripReason} {n : StationId}, t.isActive = true → t.station = n → t.tripCause = some x →
      p (some (if t.unit.trips[n] = some .eStop ∨ x = .stopLoopOpen then StopClass.eStop else .cStop)) →
      Asserts n p t.raiseCause := by
    rintro t x n act rfl cause listed
    obtain ⟨asserted, trips⟩ := raiseCause_unit act cause
    have tripped := raiseCause_tripped t
    refine ⟨tripped.isActive.trans act, tripped.station, asserted, ?_⟩
    rw [trips]
    simpa using listed
  have step : ∀ t : State, Asserts s.station p t → Asserts s.station p t.raiseCause := by
    intro t h
    cases cause : t.tripCause with
    | none => rw [raiseCause_none cause]; exact h
    | some x => exact raised h.active h.own cause (stays _ x h.listed)
  obtain ⟨n, some⟩ := Nat.exists_eq_succ_of_ne_zero (presentCauses_pos c).ne'
  rw [some]
  exact raiseCauses_keep step n (raised a rfl c (first _))

theorem request_twice {α : Type} (c : α) (x : Slot α) : (x.request c).request c = x.request c := by cases x <;> rfl

/-- At a MOTION station whose functions hold no claim each rising queues the TRIP of the first cause. -/
theorem raiseCauses_queued {s : State} {r : TripReason} (a : s.isActive = true) (m : s.role = .motion)
    (calm : ∀ f : FnId, (s.fns[f]).motion.claims = false) (c : s.tripCause = some r) :
    (State.raiseCauses s.presentCauses s).loop.trip = s.loop.trip.request r ∧
    (State.raiseCauses s.presentCauses s).unit.lastTrip = some r := by
  have step : ∀ t : State, (Tripped s t ∧ AllIdle s t) ∧ t.loop.trip = s.loop.trip.request r ∧ t.unit.lastTrip = some r →
      (Tripped s t.raiseCause ∧ AllIdle s t.raiseCause) ∧ t.raiseCause.loop.trip = s.loop.trip.request r ∧
        t.raiseCause.unit.lastTrip = some r := by
    rintro t ⟨⟨tripped, idle⟩, trip, -⟩
    have same : t.tripCause = some r := (tripCause_congr tripped.field (fun f => ((idle f) (calm f)).1)).trans c
    obtain ⟨queued, last⟩ := raiseCause_queued (tripped.isActive.trans a) same (tripped.role.trans m)
    rw [trip, request_twice] at queued
    exact ⟨⟨tripped.trans (raiseCause_tripped t), idle.trans (raiseCause_idle t)⟩, queued, last⟩
  obtain ⟨n, some⟩ := Nat.exists_eq_succ_of_ne_zero (presentCauses_pos c).ne'
  rw [some]
  exact (raiseCauses_keep step n ⟨⟨raiseCause_tripped s, raiseCause_idle s⟩, raiseCause_queued a c m⟩).2

/-! ## The entry to ACTIVE, part by part -/

/-- The station at its entry to ACTIVE with its STATUS queued and its latched functions in HELD_FAULT. -/
def State.holding (s : State) : State := s.activated.statusCause.eachFn State.holdLatched

theorem requeued_eq (s : State) : s.requeued = if s.unit.tripAsserted then s.holding.requeueTrip else s.holding := rfl

theorem holding_noticed (s : State) : Noticed s.activated.statusCause s.holding := eachFn_noticed holdLatched_noticed _

theorem holding_rest (s : State) : s.holding.loop.trip = s.loop.trip ∧ s.holding.unit = { s.unit with restartHold := true } ∧
    s.holding.field = s.field := by
  rw [(holding_noticed s).rest]
  dsimp only
  rw [statusCause_eq]
  exact ⟨rfl, rfl, rfl⟩

theorem holding_idle (s : State) : AllIdle s s.holding :=
  (AllIdle.of_eq (s := s) (t := s.activated.statusCause) (statusCause_fns _)).trans
    (AllIdle.eachFn holdLatched_idles holdLatched_moved _)

theorem requeued_rest (s : State) : s.requeued.isActive = true ∧ s.requeued.role = s.role ∧ s.requeued.station = s.station ∧
    s.requeued.field = s.field := by
  have tripped := requeued_tripped s
  have base : s.activated.statusCause.role = s.role ∧ s.activated.statusCause.station = s.station ∧
      s.activated.statusCause.field = s.field ∧ s.activated.statusCause.isActive = true := by
    unfold State.role State.cfg State.isActive
    rw [statusCause_eq]
    exact ⟨rfl, rfl, rfl, rfl⟩
  exact ⟨tripped.isActive.trans base.2.2.2, tripped.role.trans base.1, tripped.station.trans base.2.1,
    tripped.field.trans base.2.2.1⟩

/-- What follows the risings leaves the trip list, the flags and the TRIP slot. -/
theorem enterActive_noticed (s : State) :
    Noticed (State.raiseCauses s.requeued.presentCauses s.requeued) s.enterActive := by
  rw [enterActive_eq]
  exact (arbitrate_noticed _).trans (settle_settled _).noticed

theorem enterActive_requests {s : State} (free : s.pub.inhibit = false)
    (r : s.role = .motion ∨ s.role = .pump ∨ s.role = .panelCommand ∨ s.role = .panelStop) :
    s.enterActive.loop.status = statusRequest s.loop.status := by
  have may : s.activated.mayQueue .status = true := by
    refine mayQueue_status rfl (r.imp_right (Or.imp_right (fun p => ?_)))
    show s.isPanel = true
    unfold State.isPanel
    rcases p with p | p <;> rw [p] <;> rfl
  have caused : s.activated.statusCause.loop.status = statusRequest s.loop.status := by
    unfold State.statusCause
    rw [if_pos may, if_neg (by rw [show s.activated.pub.inhibit = s.pub.inhibit from rfl, free]; simp)]
    rfl
  rcases (enterActive_caused s).asked.status with e | e
  · rw [e, caused]
  · rw [e, caused]
    cases s.loop.status <;> rfl

theorem enterActive_rests {s : State} {f : FnId} (r : (s.fns[f]).motion = .rest) :
    (s.enterActive.fns[f]).motion = .rest ∨ (s.enterActive.fns[f]).motion = .heldFault := by
  have idle := (requeued_idle s).trans (raiseCauses_idle s.requeued.presentCauses s.requeued)
  have tripped := (requeued_tripped s).trans (raiseCauses_tripped s.requeued.presentCauses s.requeued)
  have hold : (State.raiseCauses s.requeued.presentCauses s.requeued).unit.restartHold = true := by
    rw [tripped.rest]
    dsimp only
    rw [statusCause_eq]
    rfl
  have rests := (idle f (by rw [r]; rfl)).2
  rw [r] at rests
  have before : RestsHeld f (State.raiseCauses s.requeued.presentCauses s.requeued) := ⟨hold, rests⟩
  rw [enterActive_eq]
  generalize State.raiseCauses s.requeued.presentCauses s.requeued = w at before
  have computed : RestsHeld f w.arbitrate := before.of_eq (by rw [(arbitrate_noticed w).rest]) (arbitrate_fns w)
  exact computed.settle.rests

/-- A cause that is present at the entry to ACTIVE is in force there, with its class at least in the trip list. -/
theorem enterActive_asserts {p : Option StopClass → Prop} {s : State} {r : TripReason} (c : s.requeued.tripCause = some r)
    (first : ∀ h : Option StopClass, p (some (if h = some .eStop ∨ r = .stopLoopOpen then StopClass.eStop else .cStop)))
    (stays : ∀ (h : Option StopClass) (x : TripReason), p h →
      p (some (if h = some .eStop ∨ x = .stopLoopOpen then StopClass.eStop else .cStop))) :
    s.enterActive.unit.tripAsserted = true ∧ p s.enterActive.unit.trips[s.station] := by
  obtain ⟨active, -, own, -⟩ := requeued_rest s
  obtain ⟨-, -, asserted, listed⟩ := raiseCauses_asserts active c first stays
  have unit : s.enterActive.unit = (State.raiseCauses s.requeued.presentCauses s.requeued).unit := by
    rw [(enterActive_noticed s).rest]
  rw [unit]
  generalize s.requeued.station = n at own listed
  subst own
  exact ⟨asserted, listed⟩

theorem tripCause_loop {s : State} (h : s.field.stopLoopClosed = false) : s.tripCause = some .stopLoopOpen := by
  simp [State.tripCause, h]

theorem tripCause_supply {s : State} (l : s.field.stopLoopClosed = true) (h : s.field.supplyOk = false) :
    s.tripCause = some .fieldSupplyLow := by
  simp [State.tripCause, l, h]

theorem tripCause_fault {s : State} (l : s.field.stopLoopClosed = true) (h : s.field.supplyOk = true) : s.tripCause =
    (slots.find? (fun f => (s.fns[f]).fault.raisesTrip)).map TripReason.functionFault := by
  unfold State.tripCause
  rw [l, h]
  cases slots.find? (fun f => (s.fns[f]).fault.raisesTrip) <;> rfl

theorem raisesTrip_iff (c : FaultCode) : c.raisesTrip = true ↔ c = .stall ∨ c = .skew ∨ c = .wrongDirection := by
  cases c <;> simp [FaultCode.raisesTrip]

/-- What the entry to ACTIVE queues at a MOTION station: the first cause, or the last TRIP while one is in force (R55, R56). -/
theorem enterActive_queued {s : State} {r : TripReason} (m : s.role = .motion)
    (calm : ∀ f : FnId, (s.fns[f]).motion.claims = false) (c : s.tripCause = some r) :
    s.enterActive.loop.trip = s.loop.trip.request r ∧ s.enterActive.unit.lastTrip = some r := by
  obtain ⟨active, role, -, field⟩ := requeued_rest s
  have idle := requeued_idle s
  have cause : s.requeued.tripCause = some r := (tripCause_congr field (fun f => ((idle f) (calm f)).1)).trans c
  obtain ⟨queued, last⟩ := raiseCauses_queued active (role.trans m) (fun f => (idle f).claims (calm f)) cause
  have base : s.requeued.loop.trip = s.loop.trip ∨ s.requeued.loop.trip = s.loop.trip.request r := by
    obtain ⟨trip, -, field⟩ := holding_rest s
    have held : s.holding.tripCause = some r :=
      (tripCause_congr field (fun f => ((holding_idle s f) (calm f)).1)).trans c
    rw [requeued_eq]
    generalize s.holding = v at trip held
    split
    · rw [requeueTrip_eq (r := r) (by rw [held]; rfl), State.queueTrip]
      split
      · exact .inr (congrArg (Slot.request r) trip)
      · exact .inl trip
    · exact .inl trip
  rw [(enterActive_noticed s).rest]
  refine ⟨queued.trans ?_, last⟩
  rcases base with e | e <;> rw [e]
  exact request_twice r _

/-- With no cause present nothing rises, and a TRIP in force is queued again. -/
theorem enterActive_calm {s : State} (m : s.role = .motion) (calm : ∀ f : FnId, (s.fns[f]).motion.claims = false)
    (c : s.tripCause = none) : s.enterActive.unit.tripAsserted = s.unit.tripAsserted ∧
    (∀ r : TripReason, s.unit.tripAsserted = true → s.unit.lastTrip = some r →
      s.enterActive.loop.trip = s.loop.trip.request r ∧ s.enterActive.unit.lastTrip = some r) ∧
    (s.unit.tripAsserted = false ∨ s.unit.lastTrip = none → s.enterActive.loop.trip = s.loop.trip) := by
  obtain ⟨-, role, -, field⟩ := requeued_rest s
  have noticed := enterActive_noticed s
  have none : s.requeued.presentCauses = 0 := by
    rw [presentCauses_congr field (fun f => ((requeued_idle s f) (calm f)).1)]
    exact presentCauses_none c
  rw [none] at noticed
  change Noticed s.requeued s.enterActive at noticed
  rw [noticed.rest]
  dsimp only
  obtain ⟨trip, unit, heldField⟩ := holding_rest s
  have held : s.holding.tripCause = Option.none :=
    (tripCause_congr heldField (fun f => ((holding_idle s f) (calm f)).1)).trans c
  have may : s.holding.mayQueue .trip = true := by
    have base : s.activated.statusCause.life = .active ∧ s.activated.statusCause.role = s.role := by
      unfold State.role State.cfg
      rw [statusCause_eq]
      exact ⟨rfl, rfl⟩
    have tripped := (holding_noticed s).tripped
    exact mayQueue_trip ((isActive_iff _).mpr (tripped.life.trans base.1)) ((tripped.role.trans base.2).trans m)
  rw [requeued_eq]
  generalize s.holding = v at trip unit held may
  have queued : ∀ r : TripReason, v.queueTrip r =
      (v.onLoop (fun x => { x with trip := x.trip.request r })).onUnit (fun u => { u with lastTrip := some r }) := fun r =>
    if_pos may
  cases a : s.unit.tripAsserted with
  | false =>
    refine ⟨?_, fun r t => ?_, fun _ => trip⟩
    · show v.unit.tripAsserted = false
      rw [unit]
      exact a
    · cases t
  | true =>
    cases l : s.unit.lastTrip with
    | none =>
      have stays : v.requeueTrip = v := by
        unfold State.requeueTrip
        rw [held, unit, l]
        rfl
      refine ⟨?_, fun r _ t => ?_, fun _ => ?_⟩
      · show v.requeueTrip.unit.tripAsserted = true
        rw [stays, unit]
        exact a
      · cases t
      · show v.requeueTrip.loop.trip = _
        rw [stays]
        exact trip
    | some r =>
      rw [if_pos rfl, requeueTrip_eq (r := r) (by rw [held, unit, l]; rfl), queued]
      refine ⟨?_, fun x _ t => ?_, fun t => ?_⟩
      · show v.unit.tripAsserted = true
        rw [unit]
        exact a
      · cases t
        exact ⟨congrArg (Slot.request r) trip, rfl⟩
      · rcases t with t | t <;> cases t

theorem enterActive_other {s : State} (m : s.role ≠ .motion) : s.enterActive.loop.trip = s.loop.trip := by
  obtain ⟨-, role, -, -⟩ := requeued_rest s
  obtain ⟨trip, -, -⟩ := holding_rest s
  have holding : s.holding.role = s.role := by
    unfold State.role State.cfg
    rw [(holding_noticed s).rest]
    dsimp only
    rw [statusCause_eq]
    rfl
  have base : s.requeued.loop.trip = s.loop.trip := by
    rw [requeued_eq]
    generalize s.holding = v at trip holding
    split
    · unfold State.requeueTrip
      split
      · rw [queueTrip_other _ (by rw [holding]; exact m), trip]
      · exact trip
    · exact trip
  have step : ∀ t : State, t.role ≠ .motion ∧ t.loop.trip = s.loop.trip → t.raiseCause.role ≠ .motion ∧
      t.raiseCause.loop.trip = s.loop.trip := fun t h =>
    ⟨by rw [(raiseCause_tripped t).role]; exact h.1, (raiseCause_other h.1).trans h.2⟩
  have raised := raiseCauses_keep step s.requeued.presentCauses ⟨by rw [role]; exact m, base⟩
  rw [(enterActive_noticed s).rest]
  exact raised.2

theorem armedAtEntry_eq (s : State) (e : Option InputId) : s.armedAtEntry e = e.any (fun i => !s.accepted i) := by
  cases e <;> rfl

/-- Settles O7, part by part. -/
theorem joinWindowEntersActive : Obligations.JoinWindowEntersActive := by
  unfold Obligations.JoinWindowEntersActive
  intro s l w
  dsimp only
  have ends : exec .joinWindowExpiry s = .next s.enterActive.finish := if_pos ⟨l, w⟩
  have field := (requeued_rest s).2.2.2
  refine ⟨s.enterActive.finish, ends, (?_ : Tripped _ _), ?_⟩
  · have tripped := (enterActive_tripped s).trans (.finish _)
    unfold State.activated at tripped
    simpa only [armedAtEntry_eq] using tripped
  simp only [State.finish_unit, State.finish_loop, State.finish_fns]
  refine ⟨enterActive_requests, fun h => ?_, fun h => ?_, fun f => enterActive_rests, enterActive_other,
    fun m calm => ⟨fun h => ?_, fun h k => ?_, fun h k => ⟨fun f raises first => ?_, fun none => ?_⟩⟩⟩
  · refine enterActive_asserts (p := fun x => x = some .eStop) (tripCause_loop (by rw [field]; exact h)) (fun _ => ?_)
      (fun x _ e => ?_)
    · rw [if_pos (.inr rfl)]
    · rw [if_pos (.inl e)]
  · have cause : ∃ r, s.requeued.tripCause = some r := by
      cases loop : s.requeued.field.stopLoopClosed with
      | false => exact ⟨_, tripCause_loop loop⟩
      | true => exact ⟨_, tripCause_supply loop (by rw [field]; exact h)⟩
    obtain ⟨r, cause⟩ := cause
    exact enterActive_asserts (p := fun x => x.isSome = true) cause (fun _ => rfl) (fun _ _ _ => rfl)
  · exact enterActive_queued m calm (tripCause_loop h)
  · exact enterActive_queued m calm (tripCause_supply h k)
  · have found : slots.find? (fun f => (s.fns[f]).fault.raisesTrip) = some f :=
      find_slot ((raisesTrip_iff _).mpr raises) (fun g lt => Bool.eq_false_iff.mpr (fun c => first g lt ((raisesTrip_iff _).mp c)))
    have cause : s.tripCause = some (.functionFault f) := by rw [tripCause_fault h k, found]; rfl
    refine ⟨enterActive_queued m calm cause, ?_⟩
    have same : s.requeued.tripCause = some (.functionFault f) :=
      (tripCause_congr field (fun f => ((requeued_idle s f) (calm f)).1)).trans cause
    exact (enterActive_asserts (p := fun _ => True) same (fun _ => trivial) (fun _ _ _ => trivial)).1
  · have cause : s.tripCause = Option.none := by
      rw [tripCause_fault h k, List.find?_eq_none.mpr (fun f _ c => none f ((raisesTrip_iff _).mp c))]
      rfl
    exact enterActive_calm m calm cause

end Sys2Proof.Machine
end

section
/-! The end of a load (R11): CONFIG_FAULT, or JOINING with the first levels, positions and guard values. -/

namespace Sys2Proof.Machine

/-! ## Changes of one slot -/

theorem onFn_onFn (f : FnId) (g k : Fn → Fn) (s : State) : (s.onFn f g).onFn f k = s.onFn f (fun x => k (g x)) := by
  simp [State.onFn]

theorem onFn_self {f : FnId} {g : Fn → Fn} {s : State} (h : g s.fns[f] = s.fns[f]) : s.onFn f g = s := by
  unfold State.onFn
  rw [h, show s.fns.set f s.fns[f] = s.fns from Vector.set_getElem_self f.isLt]

theorem onFn_congr {f : FnId} {g k : Fn → Fn} {s : State} (h : g s.fns[f] = k s.fns[f]) : s.onFn f g = s.onFn f k := by
  unfold State.onFn
  rw [h]

theorem onFnField_onFnField (f : FnId) (g k : FnField → FnField) (s : State) :
    (s.onFnField f g).onFnField f k = s.onFnField f (fun x => k (g x)) := by
  simp [State.onFnField, State.onField]

theorem onFnField_congr {f : FnId} {g k : FnField → FnField} {s : State} (h : g s.field.fns[f] = k s.field.fns[f]) :
    s.onFnField f g = s.onFnField f k := by
  unfold State.onFnField State.onField
  dsimp only
  rw [h]

theorem onFnField_onFn (f h : FnId) (g : FnField → FnField) (k : Fn → Fn) (s : State) :
    (s.onFn h k).onFnField f g = (s.onFnField f g).onFn h k := rfl

/-! ## The first conversion (R100, R101) -/

/-- What the field inputs hold for a function after a conversion: the position moves where no TRANSDUCER is held. -/
def FnField.converted (p : Int) (held : FaultCode) (y : FnField) : FnField :=
  { y with
    lastRaw := some p
    position := if held = .transducer then y.position else if inBand p = true then clampPosition p else Config.noPosition }

/-- The code of a function after a conversion. -/
def FaultCode.converted (p : Int) (held : FaultCode) : FaultCode := if inBand p = true then held else .transducer

theorem shownFault_transducer (held : FaultCode) : shownFault held .transducer = .transducer := by cases held <;> rfl

theorem takeLatched_resting {s : State} {f : FnId} {c : FaultCode} (i : s.isActive = false) (r : (s.fns[f]).motion = .rest)
    (quiet : c.raisesTrip = false) :
    s.takeLatched f c = s.onFn f (fun x => { x with fault := shownFault (s.fns[f]).fault c }) := by
  unfold State.takeLatched
  dsimp only
  rw [r, quiet, i]
  exact act_inactive i

theorem supervise_resting {s : State} {f : FnId} (r : (s.fns[f]).motion = .rest) : s.supervise f = s := by
  unfold State.supervise
  exact if_neg (by rw [r]; simp)

theorem FnField.converted_held (p : Int) (y : FnField) : FnField.converted p .transducer y = { y with lastRaw := some p } := by
  simp [FnField.converted]

theorem FnField.converted_out {p : Int} {held : FaultCode} (h : held ≠ .transducer) (b : inBand p = false) (y : FnField) :
    FnField.converted p held y = { y with lastRaw := some p, position := Config.noPosition } := by
  simp [FnField.converted, h, b]

theorem FnField.converted_in {p : Int} {held : FaultCode} (h : held ≠ .transducer) (b : inBand p = true) (y : FnField) :
    FnField.converted p held y = { y with lastRaw := some p, position := clampPosition p } := by
  simp [FnField.converted, h, b]

/-- A conversion at a function in REST of a station that is not ACTIVE. -/
theorem convert_resting {s : State} {f : FnId} {x : FnSetup} {raw : Reading} (i : s.isActive = false)
    (r : (s.fns[f]).motion = .rest) : s.convert f x raw =
    (s.onFnField f (FnField.converted (unclamped x raw) (s.fns[f]).fault)).onFn f
      (fun y => { y with fault := FaultCode.converted (unclamped x raw) y.fault }) := by
  unfold State.convert
  dsimp only
  generalize unclamped x raw = p
  have kept : ∀ g : FnField → FnField, FaultCode.converted p (s.fns[f]).fault = (s.fns[f]).fault →
      (s.onFnField f g).onFn f (fun y => { y with fault := FaultCode.converted p y.fault }) = s.onFnField f g := by
    intro g same
    refine onFn_self ?_
    show { (s.fns[f]) with fault := FaultCode.converted p (s.fns[f]).fault } = s.fns[f]
    rw [same]
  by_cases held : (s.fns[f]).fault = .transducer
  · rw [if_pos held, kept _ (by rw [held]; exact ite_self _), held]
    exact onFnField_congr (FnField.converted_held p _).symm
  · rw [if_neg held]
    cases band : inBand p with
    | false =>
      rw [act_inactive i]
      simp only [Bool.not_false, if_true]
      rw [takeLatched_resting (s := (s.onFnField f _).onFnField f _) (c := .transducer) i r rfl, onFnField_onFnField,
        funext (FnField.converted_out held band)]
      refine onFn_congr ?_
      rw [shownFault_transducer, FaultCode.converted, if_neg (by rw [band]; simp)]
    | true =>
      rw [kept _ (by rw [FaultCode.converted, if_pos band]), funext (FnField.converted_in held band)]
      simp only [Bool.not_true, Bool.false_eq_true, if_false]
      split
      next still =>
        rw [still]
        exact onFnField_congr rfl
      next =>
        rw [act_inactive i, supervise_resting (s := (s.onFnField f _).onFnField f _) r, onFnField_onFnField]

/-! ## The first values of a function (R98, R100, R108) -/

/-- A configured function after its first values: REST, and TRANSDUCER where a first conversion lies out of band. -/
def FnSetup.firstFn (x : FnSetup) (raw : Reading) (y : Fn) : Fn :=
  { y with motion := .rest, fault := if x.kind = .positioned then FaultCode.converted (unclamped x raw) y.fault else y.fault }

/-- What the field inputs hold for it: the end state of its ends, and the position of a first conversion. -/
def FnSetup.firstField (x : FnSetup) (raw : Reading) (e : EndState) (held : FaultCode) (y : FnField) : FnField :=
  if x.kind = .positioned then FnField.converted (unclamped x raw) held { y with endState := e } else { y with endState := e }

theorem firstFn_unconfigured {s : State} {f : FnId} (c : s.fnSetup f = none) : s.firstFn f = s := by
  unfold State.firstFn
  rw [c]

theorem firstFn_configured {s : State} {f : FnId} {x : FnSetup} (i : s.isActive = false) (c : s.fnSetup f = some x) :
    s.firstFn f = (s.onFnField f (x.firstField s.field.lines.ai[f] (s.endStateNow f) (s.fns[f]).fault)).onFn f
      (x.firstFn s.field.lines.ai[f]) := by
  have rests : (((s.onFn f (fun y => { y with motion := .rest })).onFnField f
      (fun y => { y with endState := s.endStateNow f })).fns[f]).motion = .rest := by simp
  have code : (((s.onFn f (fun y => { y with motion := .rest })).onFnField f
      (fun y => { y with endState := s.endStateNow f })).fns[f]).fault = (s.fns[f]).fault := by simp
  unfold State.firstFn
  rw [c]
  dsimp only
  unfold FnSetup.firstFn FnSetup.firstField
  by_cases k : x.kind = .positioned
  · simp only [if_pos k]
    rw [convert_resting (s := (s.onFn f _).onFnField f _) i rests, code, onFnField_onFnField, onFnField_onFn,
      onFn_onFn]
  · simp only [if_neg k]
    rfl

/-- A state that has the first values of some functions. -/
def Firsts (u t : State) : Prop := t = { u with fns := t.fns, field := { u.field with fns := t.field.fns } }

theorem Firsts.refl (u : State) : Firsts u u := rfl

theorem Firsts.fnSetup {u t : State} (h : Firsts u t) (f : FnId) : t.fnSetup f = u.fnSetup f := by
  unfold State.fnSetup State.cfg
  rw [h]

theorem Firsts.isActive {u t : State} (h : Firsts u t) : t.isActive = u.isActive := by
  unfold State.isActive
  rw [h]

theorem Firsts.lines {u t : State} (h : Firsts u t) : t.field.lines = u.field.lines := by rw [h]

theorem Firsts.firstFn {u t : State} (h : Firsts u t) (i : u.isActive = false) (f : FnId) : Firsts u (t.firstFn f) := by
  cases c : t.fnSetup f with
  | none => rw [firstFn_unconfigured c]; exact h
  | some x =>
    rw [firstFn_configured (h.isActive.trans i) c]
    unfold Firsts at h ⊢
    generalize x.firstField t.field.lines.ai[f] (t.endStateNow f) (t.fns[f]).fault = g, x.firstFn t.field.lines.ai[f] = k
    generalize t.fns = a, t.field.fns = b at h
    subst h
    rfl

/-- The end state that the ends of a function give, by what it depends on (R98). -/
theorem endStateNow_congr {s t : State} {f : FnId} (setup : t.setup = s.setup) (di : t.field.di = s.field.di)
    (opens : (t.field.fns[f]).openEnd = (s.field.fns[f]).openEnd)
    (closes : (t.field.fns[f]).closedEnd = (s.field.fns[f]).closedEnd) : t.endStateNow f = s.endStateNow f := by
  have made : ∀ d : Dir, t.made f d = s.made f d := by
    intro d
    unfold State.made State.fnSetup State.cfg State.accepted FnField.endPair
    rw [setup, di]
    cases d
    · simp only [opens]
    · simp only [closes]
  unfold State.endStateNow
  rw [made, made]
  unfold State.fnSetup State.cfg
  rw [setup, opens, closes]

/-- What one slot shows before and after the first values of every function. -/
def FirstAt (u : State) (f : FnId) (a b : Fn × FnField) : Prop :=
  match u.fnSetup f with
  | none => b = a
  | some x => ∃ t : State, Firsts u t ∧ t.field.fns[f] = a.2 ∧
      b = (x.firstFn u.field.lines.ai[f] a.1, x.firstField u.field.lines.ai[f] (t.endStateNow f) a.1.fault a.2)

theorem firstFn_at {u t : State} (h : Firsts u t) (i : u.isActive = false) (f : FnId) :
    FirstAt u f (t.fns[f], t.field.fns[f]) ((t.firstFn f).fns[f], (t.firstFn f).field.fns[f]) := by
  have setup := h.fnSetup f
  unfold FirstAt
  cases c : u.fnSetup f with
  | none => rw [firstFn_unconfigured (setup.trans c)]
  | some x =>
    refine ⟨t, h, rfl, ?_⟩
    rw [firstFn_configured (h.isActive.trans i) (setup.trans c), h.lines]
    simp

theorem firstFn_others {u t : State} (h : Firsts u t) (i : u.isActive = false) {f g : FnId} (ne : f ≠ g) :
    ((t.firstFn f).fns[g], (t.firstFn f).field.fns[g]) = (t.fns[g], t.field.fns[g]) := by
  cases c : t.fnSetup f with
  | none => rw [firstFn_unconfigured c]
  | some x =>
    rw [firstFn_configured (h.isActive.trans i) c]
    refine Prod.ext ?_ ?_
    · exact State.onFn_other _ _ ne
    · exact State.onFnField_other _ _ ne

theorem firsts_at (u : State) (i : u.isActive = false) : Firsts u (u.eachFn State.firstFn) ∧
    ∀ f : FnId, FirstAt u f (u.fns[f], u.field.fns[f])
      ((u.eachFn State.firstFn).fns[f], (u.eachFn State.firstFn).field.fns[f]) :=
  ⟨Kept.eachFn (P := Firsts u) (op := State.firstFn) (fun f _ h => h.firstFn i f) (.refl u), fun f =>
    eachFn_at (op := State.firstFn) (view := fun t g => (t.fns[g], t.field.fns[g])) (R := FirstAt u) (I := Firsts u)
      (fun f _ h => h.firstFn i f) (fun f _ h => firstFn_at h i f) (fun _ _ _ h ne => firstFn_others h i ne) (.refl u) f⟩

/-! ## The first levels (R94, R103, R106) -/

/-- The inputs that have taken their first levels. -/
structure Levels (is : List InputId) (s t : State) : Prop where
  rest : t = { s with field := { s.field with di := t.field.di } }
  taken : ∀ i : InputId, t.field.di[i] =
    if i ∈ is ∧ s.used i = true then { accepted := some (s.inputLevel i), debounce := none } else s.field.di[i]

theorem Levels.used {is : List InputId} {s t : State} (h : Levels is s t) (i : InputId) : t.used i = s.used i := by
  unfold State.used State.activeLow State.activeHighUse State.role State.cfg
  rw [h.rest]

theorem Levels.inputLevel {is : List InputId} {s t : State} (h : Levels is s t) (i : InputId) :
    t.inputLevel i = s.inputLevel i := by
  unfold State.inputLevel State.activeLow State.role State.cfg
  rw [h.rest]

theorem firstLevel_other {s : State} {i j : InputId} (ne : i ≠ j) : (s.firstLevel i).field.di[j] = s.field.di[j] := by
  unfold State.firstLevel
  split
  · exact Vector.getElem_set_ne i.isLt j.isLt (fun e => ne (Fin.ext e))
  · rfl

theorem firstLevel_same (s : State) (i : InputId) : (s.firstLevel i).field.di[i] =
    if s.used i = true then { accepted := some (s.inputLevel i), debounce := none } else s.field.di[i] := by
  unfold State.firstLevel
  split
  · exact Vector.getElem_set_self i.isLt
  · rfl

theorem firstLevel_rest (s : State) (i : InputId) :
    s.firstLevel i = { s with field := { s.field with di := (s.firstLevel i).field.di } } := by
  unfold State.firstLevel
  split <;> rfl

theorem firstLevels_taken : ∀ (is : List InputId) (s : State), is.Nodup →
    Levels is s (is.foldl (fun t i => t.firstLevel i) s)
  | [], s, _ => ⟨rfl, fun i => (if_neg (fun c => absurd c.1 List.not_mem_nil)).symm⟩
  | i :: is, s, once => by
    obtain ⟨out, once⟩ := List.nodup_cons.mp once
    have first : Levels [i] s (s.firstLevel i) := by
      refine ⟨firstLevel_rest s i, fun j => ?_⟩
      by_cases same : i = j
      · subst same
        rw [firstLevel_same]
        simp only [List.mem_singleton, true_and]
      · rw [firstLevel_other same, if_neg (fun c => same (List.mem_singleton.mp c.1).symm)]
    have later := firstLevels_taken is (s.firstLevel i) once
    rw [List.foldl_cons]
    generalize is.foldl (fun t i => t.firstLevel i) (s.firstLevel i) = t at later
    refine ⟨?_, fun j => ?_⟩
    · have e := first.rest
      have e' := later.rest
      generalize (s.firstLevel i).field.di = a at e
      rw [e] at e'
      exact e'
    · rw [later.taken j, first.used, first.inputLevel, first.taken j]
      by_cases same : j = i
      · subst same
        rw [if_neg (fun c => out c.1)]
        simp only [true_and, List.mem_cons, true_or]
      · simp only [List.mem_cons, same, false_or, List.not_mem_nil, false_and, if_false]

theorem inputs_all (i : InputId) : i ∈ inputs := by fin_cases i <;> decide

theorem inputs_nodup : inputs.Nodup := by decide

/-- The field inputs after the first levels, with all that they depend on. -/
theorem firstInputs_taken (lines : FieldLines) (s : State) : let t := s.firstInputs lines
    t = { s with field := { s.field with
      lines := lines, stopLoopClosed := lines.stopLoopClosed, supplyOk := lines.supply != .below19, di := t.field.di } } ∧
    ∀ i : InputId, t.field.di[i] =
      if s.used i = true then { accepted := some (lines.di[i] != s.activeLow i), debounce := none } else s.field.di[i] := by
  have levels := firstLevels_taken inputs (s.onField (fun x => { x with
    lines := lines, stopLoopClosed := lines.stopLoopClosed, supplyOk := lines.supply != .below19 })) inputs_nodup
  unfold State.firstInputs
  dsimp only
  refine ⟨levels.rest, fun i => (levels.taken i).trans ?_⟩
  simp only [inputs_all, true_and]
  rfl

/-! ## The guard values of a good load (R75) -/

theorem unevaluated_eq (terms : List Term) : unevaluated terms = List.replicate terms.length false := List.map_const' ..

theorem loaded_fns (o : OwnSection) (f : FnId) : (GuardEngine.loaded o).fns[f] = FnGuard.loaded o.fns[f] := by
  fin_cases f <;> rfl

theorem loaded_lamps (o : OwnSection) (n : Fin 8) : (GuardEngine.loaded o).lamps[n] = Lamp.loaded (o.lamps[n.val]?) := by
  fin_cases n <;> rfl

theorem loaded_permits (x : Option FnSetup) (d : Dir) : (FnGuard.loaded x).permits d =
    { values := List.replicate ((x.elim [] (fun y => y.terms d)).length) false, start := false, proceed := false
      holdCause := .none } := by
  cases x <;> cases d <;> simp only [FnGuard.loaded, FnGuard.permits, FnGuard.blank, Permits.blank, unevaluated_eq] <;> rfl

/-! ## The obligation -/

/-- A bad load ends in CONFIG_FAULT with its class (R11, R12). -/
theorem imageRead_error {bytes : List Byte} {lines : FieldLines} {s : State} {h : Header} {role : Option Role} {x : LoadFault}
    (l : s.life = .loading) (e : s.header = some h) (n : bytes.length = h.length - 7)
    (r : loadImage s.station h bytes = { ownRole := role, result := .error x }) :
    exec (.imageReadComplete bytes lines) s =
      done (s.enterConfigFault { cls := x, role := role.getD .unused, fingerprint := h.published }) := by
  show execImageReadComplete bytes lines s = _
  unfold execImageReadComplete
  rw [l, e]
  dsimp only
  rw [show imageOperand h bytes = bytes from takeBytes_self n, r]

/-- A good one keeps the configuration and enters JOINING (R11, R13). -/
theorem imageRead_ok {bytes : List Byte} {lines : FieldLines} {s : State} {h : Header} {role : Option Role} {c : Setup}
    (l : s.life = .loading) (e : s.header = some h) (n : bytes.length = h.length - 7)
    (r : loadImage s.station h bytes = { ownRole := role, result := .ok c }) :
    exec (.imageReadComplete bytes lines) s = done (s.goodLoad c lines) := by
  show execImageReadComplete bytes lines s = _
  unfold execImageReadComplete
  rw [l, e]
  dsimp only
  rw [show imageOperand h bytes = bytes from takeBytes_self n, r]

theorem firstField_ends (x : FnSetup) (raw : Reading) (e : EndState) (held : FaultCode) (y : FnField) :
    (x.firstField raw e held y).openEnd = y.openEnd ∧ (x.firstField raw e held y).closedEnd = y.closedEnd ∧
    (x.firstField raw e held y).endState = e := by
  unfold FnSetup.firstField
  split <;> exact ⟨rfl, rfl, rfl⟩

/-- The station after a good load, before its entry to JOINING: what was loaded, with the first levels and values. -/
theorem firsts_eq {c : Setup} {lines : FieldLines} {s t : State} (h : (s.loadedWith c).firsts lines = t) :
    t = { s.loadedWith c with
      fns := t.fns
      field := { s.field with
        lines := lines, stopLoopClosed := lines.stopLoopClosed, supplyOk := lines.supply != .below19, di := t.field.di
        fns := t.field.fns } } ∧
    (∀ i : InputId, t.field.di[i] =
      if t.used i = true then { accepted := some (lines.di[i] != t.activeLow i), debounce := none } else s.field.di[i]) ∧
    ∀ f : FnId, match c.own.fns[f] with
      | none => t.fns[f] = s.fns[f] ∧ t.field.fns[f] = s.field.fns[f]
      | some x => t.fns[f] = x.firstFn lines.ai[f] s.fns[f] ∧
        t.field.fns[f] = x.firstField lines.ai[f] (t.endStateNow f) (s.fns[f]).fault s.field.fns[f] := by
  obtain ⟨levels, taken⟩ := firstInputs_taken lines (s.loadedWith c)
  obtain ⟨first, slot⟩ := firsts_at ((s.loadedWith c).firstInputs lines) (by rw [levels]; rfl)
  have each : ((s.loadedWith c).firstInputs lines).eachFn State.firstFn = t := h
  rw [each] at first slot
  generalize (s.loadedWith c).firstInputs lines = u at levels taken first slot
  generalize u.field.di = di at levels taken
  subst levels
  have whole : t = { s.loadedWith c with
      fns := t.fns
      field := { s.field with
        lines := lines, stopLoopClosed := lines.stopLoopClosed, supplyOk := lines.supply != .below19, di := di
        fns := t.field.fns } } := first
  have same : t.field.di = di := by rw [whole]
  have setup : t.setup = some c := by rw [whole]; rfl
  have uses : ∀ i : InputId, t.used i = (s.loadedWith c).used i ∧ t.activeLow i = (s.loadedWith c).activeLow i := by
    intro i
    unfold State.used State.activeLow State.activeHighUse State.role State.cfg
    rw [setup]
    exact ⟨rfl, rfl⟩
  refine ⟨by rw [same]; exact whole, fun i => ?_, fun f => ?_⟩
  · rw [same, (uses i).1, (uses i).2]
    exact taken i
  · have at_f := slot f
    unfold FirstAt at at_f
    have own : State.fnSetup { s.loadedWith c with field := { (s.loadedWith c).field with
        lines := lines, stopLoopClosed := lines.stopLoopClosed, supplyOk := lines.supply != .below19, di := di } } f =
        c.own.fns[f] := rfl
    rw [own] at at_f
    cases k : c.own.fns[f] with
    | none =>
      rw [k] at at_f
      exact Prod.ext_iff.mp at_f
    | some x =>
      rw [k] at at_f
      obtain ⟨v, before, held, e⟩ := at_f
      obtain ⟨fn, field⟩ := Prod.ext_iff.mp e
      refine ⟨fn, field.trans ?_⟩
      obtain ⟨opens, closes, -⟩ := firstField_ends x lines.ai[f] (v.endStateNow f) (s.fns[f]).fault s.field.fns[f]
      have now : v.endStateNow f = t.endStateNow f := by
        refine endStateNow_congr ?_ ?_ ?_ ?_
        · rw [before, setup]
          rfl
        · rw [same, before]
        · rw [held]
          exact (opens.symm.trans (congrArg FnField.openEnd field.symm))
        · rw [held]
          exact (closes.symm.trans (congrArg FnField.closedEnd field.symm))
      rw [← now]
      rfl

/-- A good load, with the station that has its first values named. -/
theorem goodLoad_of {c : Setup} {lines : FieldLines} {s t : State} (h : (s.loadedWith c).firsts lines = t) :
    s.goodLoad c lines = (t.onPanel (fun p => { p with selection := t.selectionNow })).enterJoining := by
  rw [goodLoad_eq, h]

theorem FnSetup.firstField_positioned {x : FnSetup} (k : x.kind = .positioned) (raw : Reading) (e : EndState) (held : FaultCode)
    (y : FnField) : (x.firstField raw e held y).lastRaw = some (unclamped x raw) ∧ (held ≠ .transducer →
      (x.firstField raw e held y).position =
        if inBand (unclamped x raw) = true then clampPosition (unclamped x raw) else Config.noPosition) := by
  unfold FnSetup.firstField
  rw [if_pos k]
  exact ⟨rfl, fun n => if_neg n⟩

theorem FnSetup.firstFn_positioned {x : FnSetup} (k : x.kind = .positioned) (raw : Reading) (y : Fn) :
    (x.firstFn raw y).fault = if inBand (unclamped x raw) = true then y.fault else .transducer := if_pos k

theorem inBand_iff (p : Int) : inBand p = true ↔ -30 ≤ p ∧ p ≤ 1030 := by
  unfold inBand
  rw [Bool.and_eq_true, decide_eq_true_eq, decide_eq_true_eq]
  rfl

/-- Settles O5: the two ends of a load, and the bytes that the memory did not give. -/
theorem imageLoadEnds : Obligations.ImageLoadEnds := by
  unfold Obligations.ImageLoadEnds
  refine ⟨fun bytes lines s h role l e n => ⟨fun x r => ?_, fun c r => ?_⟩, fun bytes lines s h e => ?_⟩
  · rw [imageRead_error l e n r]
    rfl
  · have ends := imageRead_ok (lines := lines) l e n r
    obtain ⟨t, first⟩ : ∃ t, (s.loadedWith c).firsts lines = t := ⟨_, rfl⟩
    obtain ⟨whole, levels, slot⟩ := firsts_eq first
    rw [goodLoad_of first, enterJoining_eq] at ends
    have setup : t.setup = some c := by rw [whole]; rfl
    have guard : t.guard = .loaded c.own := by rw [whole]; rfl
    have loop : t.loop = s.loop := by rw [whole]; rfl
    refine ⟨_, ends, rfl, setup, ?_, rfl, ⟨rfl, rfl, rfl, rfl, ?_⟩, ⟨?_, ?_, ?_⟩, levels, fun f => ?_, fun f x k => ?_, ?_, rfl,
      ?_, ?_, ?_, ?_, ?_, ?_, ?_, ?_, ?_⟩
    · exact (congrArg State.header whole).trans rfl
    · exact congrArg (fun x => announceRequest true (Loop.idBegun x) x.announce) loop
    · exact (congrArg (fun x => x.field.lines) whole).trans rfl
    · exact (congrArg (fun x => x.field.stopLoopClosed) whole).trans rfl
    · exact (congrArg (fun x => x.field.supplyOk) whole).trans rfl
    · have at_f := slot f
      change (t.fns[f]).motion = _ ∧ (t.field.fns[f]).endState = if _ then t.endStateNow f else _
      cases k : c.own.fns[f] with
      | none =>
        rw [k] at at_f
        rw [at_f.1, at_f.2]
        exact ⟨rfl, rfl⟩
      | some x =>
        rw [k] at at_f
        obtain ⟨fn, field⟩ := at_f
        obtain ⟨-, -, now⟩ := firstField_ends x lines.ai[f] (t.endStateNow f) (s.fns[f]).fault s.field.fns[f]
        exact ⟨congrArg Fn.motion fn, (congrArg FnField.endState field).trans now⟩
    · have at_f := slot f
      rw [k] at at_f
      obtain ⟨fn, field⟩ := at_f
      change (_ → (t.field.fns[f]).lastRaw = _ ∧ (_ → if _ then (t.field.fns[f]).position = _ ∧ (t.fns[f]).fault = _
        else (t.field.fns[f]).position = _ ∧ (t.fns[f]).fault = _)) ∧
        (_ → (t.field.fns[f]).lastRaw = _ ∧ (t.field.fns[f]).position = _ ∧ (t.fns[f]).fault = _)
      rw [fn, field]
      refine ⟨fun p => ?_, fun e => ?_⟩
      · obtain ⟨raw, position⟩ := FnSetup.firstField_positioned p lines.ai[f] (t.endStateNow f) (s.fns[f]).fault s.field.fns[f]
        refine ⟨raw, fun calm => ?_⟩
        rw [position calm, FnSetup.firstFn_positioned p]
        have band := inBand_iff (unclamped x lines.ai[f])
        split
        next b => rw [if_pos (band.mpr b), if_pos (band.mpr b)]; exact ⟨rfl, rfl⟩
        next b => rw [if_neg (fun h => b (band.mp h)), if_neg (fun h => b (band.mp h))]; exact ⟨rfl, rfl⟩
      · have other : x.kind ≠ .positioned := by rw [e]; simp
        unfold FnSetup.firstField FnSetup.firstFn
        rw [if_neg other, if_neg other]
        exact ⟨rfl, rfl, rfl⟩
    · refine ⟨fun f => ?_, fun n => ?_, congrArg GuardEngine.flash guard⟩
      · change (t.guard.fns[f]).mode = _ ∧ (t.guard.fns[f]).pairTerm = _ ∧ (t.guard.fns[f]).blocking = _ ∧
          ∀ d : Dir, (t.guard.fns[f]).permits d = _
        rw [guard, loaded_fns]
        refine ⟨?_, ?_, ?_, loaded_permits _⟩ <;> cases c.own.fns[f] <;> rfl
      · change t.guard.lamps[n] = _
        rw [guard, loaded_lamps]
        cases c.own.lamps[n.val]? with
        | none => rfl
        | some l => simp only [Lamp.loaded, Lamp.blank, unevaluated_eq, Option.getD_some]
    · exact (congrArg State.station whole).trans rfl
    · exact (congrArg State.bitRate whole).trans rfl
    · exact (congrArg State.resetCause whole).trans rfl
    · exact (congrArg State.image whole).trans rfl
    · exact (congrArg State.unit whole).trans rfl
    · exact (congrArg State.flow whole).trans rfl
    · exact (congrArg State.drive whole).trans rfl
    · exact (congrArg (fun x => x.pub.edition) whole).trans rfl
    · exact (congrArg State.pending whole).trans rfl
  · have padded : imageOperand h (bytes.take (h.length - 7) ++ List.replicate (h.length - 7 - bytes.length) 0xFF) =
        imageOperand h bytes := takeBytes_twice (h.length - 7) bytes
    show execImageReadComplete bytes lines s = execImageReadComplete _ lines s
    unfold execImageReadComplete
    rw [e]
    cases s.life
    case loading =>
      dsimp only
      rw [padded]
    all_goals rfl

end Sys2Proof.Machine
end

section
/-! The records of a configuration image: what the walk reads as one, and how it fails (R6, sections 1.5 and 1.6). -/

namespace Sys2Proof.Machine

/-! ## A number of records in turn -/

/-- `n` records in turn, each read as `read` reads one. -/
def readMany {α : Type} (read : List Byte → Except LoadFault (α × List Byte)) :
    Nat → List Byte → Except LoadFault (List α × List Byte)
  | 0, bs => .ok ([], bs)
  | n + 1, bs =>
      match read bs with
      | .error e => .error e
      | .ok (x, rest) =>
          match readMany read n rest with
          | .error e => .error e
          | .ok (xs, rest1) => .ok (x :: xs, rest1)

section
variable {α : Type} {read : List Byte → Except LoadFault (α × List Byte)} {Good : α → Prop} {bytes : α → List Byte}

theorem readMany_cons {n : Nat} {bs rest : List Byte} {x : α} (h : read bs = .ok (x, rest)) : readMany read (n + 1) bs =
    match readMany read n rest with
    | .error e => .error e
    | .ok (xs, rest1) => .ok (x :: xs, rest1) := by
  rw [readMany, h]

/-- Where one record is read exactly where it has its layout, so are several. -/
theorem readMany_ok_iff (one : ∀ bs x rest, read bs = .ok (x, rest) ↔ Good x ∧ bs = bytes x ++ rest) :
    ∀ (n : Nat) (bs : List Byte) (xs : List α) (rest : List Byte), readMany read n bs = .ok (xs, rest) ↔
      xs.length = n ∧ (∀ x ∈ xs, Good x) ∧ bs = xs.flatMap bytes ++ rest := by
  intro n
  induction n with
  | zero =>
    intro bs xs rest
    constructor
    · intro h
      cases h
      exact ⟨rfl, fun _ m => absurd m List.not_mem_nil, rfl⟩
    · rintro ⟨n, -, rfl⟩
      rw [List.length_eq_zero_iff.mp n]
      rfl
  | succ n ih =>
    intro bs xs rest
    constructor
    · intro h
      cases e : read bs with
      | error c => rw [readMany, e] at h; cases h
      | ok p =>
        obtain ⟨x, rest1⟩ := p
        obtain ⟨good, layout⟩ := (one bs x rest1).mp e
        rw [readMany_cons e] at h
        cases e' : readMany read n rest1 with
        | error c => rw [e'] at h; cases h
        | ok q =>
          obtain ⟨ys, rest2⟩ := q
          rw [e'] at h
          cases h
          obtain ⟨size, all, tail⟩ := (ih rest1 ys rest).mp e'
          refine ⟨congrArg (· + 1) size, ?_, ?_⟩
          · rintro y m
            rcases List.mem_cons.mp m with rfl | m
            · exact good
            · exact all y m
          · rw [layout, tail, List.flatMap_cons, List.append_assoc]
    · rintro ⟨size, all, layout⟩
      cases xs with
      | nil => cases size
      | cons x xs =>
        have first : read bs = .ok (x, xs.flatMap bytes ++ rest) :=
          (one _ _ _).mpr ⟨all x List.mem_cons_self, by rw [layout, List.flatMap_cons, List.append_assoc]⟩
        have later := (ih (xs.flatMap bytes ++ rest) xs rest).mpr
          ⟨Nat.succ.inj size, fun y m => all y (List.mem_cons_of_mem _ m), rfl⟩
        rw [readMany_cons first, later]

/-- The first record that fails is the failure of them all. -/
theorem readMany_error (one : ∀ bs x rest, read bs = .ok (x, rest) ↔ Good x ∧ bs = bytes x ++ rest) :
    ∀ (n : Nat) (xs : List α) (rest : List Byte) (e : LoadFault), (∀ x ∈ xs, Good x) → xs.length < n → read rest = .error e →
      readMany read n (xs.flatMap bytes ++ rest) = .error e := by
  intro n
  induction n with
  | zero => exact fun _ _ _ _ few => absurd few (Nat.not_lt_zero _)
  | succ n ih =>
    intro xs rest e all few fails
    cases xs with
    | nil =>
      show readMany read (n + 1) rest = _
      rw [readMany, fails]
    | cons x xs =>
      have first : read ((x :: xs).flatMap bytes ++ rest) = .ok (x, xs.flatMap bytes ++ rest) :=
        (one _ _ _).mpr ⟨all x List.mem_cons_self, by rw [List.flatMap_cons, List.append_assoc]⟩
      rw [readMany_cons first, ih xs rest e (fun y m => all y (List.mem_cons_of_mem _ m)) (Nat.lt_of_succ_lt_succ few) fails]

/-- Several records fail with a class of one. -/
theorem readMany_class {P : LoadFault → Prop} (one : ∀ bs e, read bs = .error e → P e) :
    ∀ (n : Nat) (bs : List Byte) (e : LoadFault), readMany read n bs = .error e → P e := by
  intro n
  induction n with
  | zero => exact fun _ _ h => by cases h
  | succ n ih =>
    intro bs e h
    cases r : read bs with
    | error c =>
      rw [readMany, r] at h
      cases h
      exact one _ _ r
    | ok p =>
      obtain ⟨x, rest⟩ := p
      rw [readMany_cons r] at h
      cases q : readMany read n rest with
      | error c =>
        rw [q] at h
        cases h
        exact ih _ _ q
      | ok y => rw [q] at h; cases h

end

/-! ## Terms -/

/-- One term record of five bytes. -/
def rawTerm (bs : List Byte) : Except LoadFault (List Byte × List Byte) :=
  if bs.length < 5 then .error .format else .ok (bs.take 5, bs.drop 5)

theorem rawTerms_eq : ∀ (n : Nat) (bs : List Byte), rawTerms n bs = readMany rawTerm n bs := by
  intro n
  induction n with
  | zero => exact fun _ => rfl
  | succ n ih =>
    intro bs
    rw [rawTerms, readMany, rawTerm]
    split
    · rfl
    · rw [ih]
      dsimp only
      cases readMany rawTerm n (bs.drop 5) <;> rfl

theorem rawTerm_ok_iff (bs t rest : List Byte) : rawTerm bs = .ok (t, rest) ↔ t.length = 5 ∧ bs = id t ++ rest := by
  unfold rawTerm
  constructor
  · intro h
    split at h
    · cases h
    next long =>
      cases h
      exact ⟨by rw [List.length_take]; omega, (List.take_append_drop 5 bs).symm⟩
  · rintro ⟨five, rfl⟩
    rw [if_neg (by rw [List.length_append, id, five]; omega), id, ← five, List.take_left, List.drop_left]

theorem rawTerms_ok_iff (n : Nat) (bs : List Byte) (ts : List (List Byte)) (rest : List Byte) :
    rawTerms n bs = .ok (ts, rest) ↔ ts.length = n ∧ (∀ t ∈ ts, t.length = 5) ∧ bs = ts.flatten ++ rest := by
  rw [rawTerms_eq, readMany_ok_iff rawTerm_ok_iff, List.flatMap_id]

theorem rawTerms_class {n : Nat} {bs : List Byte} {e : LoadFault} (h : rawTerms n bs = .error e) : e = .format := by
  rw [rawTerms_eq] at h
  refine readMany_class (P := (· = .format)) (fun bs c r => ?_) n bs e h
  unfold rawTerm at r
  split at r <;> cases r
  rfl

theorem flatten_length {ts : List (List Byte)} (h : ∀ t ∈ ts, t.length = 5) : ts.flatten.length = 5 * ts.length := by
  rw [List.length_flatten, List.map_congr_left h, List.map_const', List.sum_replicate, smul_eq_mul, Nat.mul_comm]

/-- Terms that are cut short are FORMAT. -/
theorem rawTerms_short {n : Nat} {bs : List Byte} (h : bs.length < 5 * n) : rawTerms n bs = .error .format := by
  cases r : rawTerms n bs with
  | error e => rw [rawTerms_class r]
  | ok p =>
    obtain ⟨ts, rest⟩ := p
    obtain ⟨size, five, layout⟩ := (rawTerms_ok_iff _ _ _ _).mp r
    rw [layout, List.length_append, flatten_length five, size] at h
    omega

/-! ## Bytes at the head of a record -/

theorem natAt_append {xs ys : List Byte} {i : Nat} (h : i < xs.length) : natAt (xs ++ ys) i = natAt xs i := by
  unfold natAt byteAt
  rw [List.getD_append _ _ _ _ h]

theorem natAt_cons (x : Byte) (xs : List Byte) (i : Nat) : natAt (x :: xs) (i + 1) = natAt xs i := rfl

theorem natAt_zero (x : Byte) (xs : List Byte) : natAt (x :: xs) 0 = x.toNat := rfl

/-! ## Function records -/

/-- The bytes of a function record. -/
def RawFn.bytes : RawFn → List Byte
  | .unconfigured => [0]
  | .configured head os cs => head ++ os.flatten ++ cs.flatten

/-- A function record of the layout of section 1.5. -/
def RawFn.Good (r : RawFn) : Prop := ∀ (head : List Byte) (os cs : List (List Byte)), r = .configured head os cs →
  head.length = 66 ∧ (natAt head 0 = 1 ∨ natAt head 0 = 2) ∧ natAt head 64 = os.length ∧ natAt head 65 = cs.length ∧
  os.length ≤ 8 ∧ cs.length ≤ 8 ∧ ∀ t ∈ os ++ cs, t.length = 5

theorem RawFn.good_unconfigured : RawFn.unconfigured.Good := fun _ _ _ e => by cases e

theorem rawFn_zero (rest : List Byte) : rawFn (0 :: rest) = .ok (.unconfigured, rest) := rfl

theorem rawFn_kind {k : Byte} (rest : List Byte) (h : 2 < k.toNat) : rawFn (k :: rest) = .error .range := by
  unfold rawFn
  dsimp only
  rw [if_neg (fun e => by rw [e] at h; cases h), if_pos h]

/-- A record of a known kind, once its first 66 bytes are there and its counts in range. -/
theorem rawFn_counts {k : Byte} {rest : List Byte} (h : k = 1 ∨ k = 2) (long : 65 ≤ rest.length) (os : natAt rest 63 ≤ 8)
    (cs : natAt rest 64 ≤ 8) : rawFn (k :: rest) =
    match rawTerms (natAt rest 63) (rest.drop 65) with
    | .error e => .error e
    | .ok (os, rest1) =>
        match rawTerms (natAt rest 64) rest1 with
        | .error e => .error e
        | .ok (cs, rest2) => .ok (.configured ((k :: rest).take 66) os cs, rest2) := by
  unfold rawFn
  dsimp only
  rw [if_neg (by rcases h with rfl | rfl <;> decide), if_neg (by rcases h with rfl | rfl <;> decide),
    if_neg (by rw [List.length_cons]; omega), if_neg (by rw [natAt_cons, natAt_cons]; omega)]
  rfl

theorem rawFn_short {k : Byte} {rest : List Byte} (h : k = 1 ∨ k = 2) (short : rest.length < 65) :
    rawFn (k :: rest) = .error .format := by
  unfold rawFn
  dsimp only
  rw [if_neg (by rcases h with rfl | rfl <;> decide), if_neg (by rcases h with rfl | rfl <;> decide),
    if_pos (by rw [List.length_cons]; omega)]

theorem rawFn_many {k : Byte} {rest : List Byte} (h : k = 1 ∨ k = 2) (long : 65 ≤ rest.length)
    (many : 8 < natAt rest 63 ∨ 8 < natAt rest 64) : rawFn (k :: rest) = .error .range := by
  unfold rawFn
  dsimp only
  rw [if_neg (by rcases h with rfl | rfl <;> decide), if_neg (by rcases h with rfl | rfl <;> decide),
    if_neg (by rw [List.length_cons]; omega), if_pos (show 8 < natAt (k :: rest) 64 ∨ 8 < natAt (k :: rest) 65 from many)]

/-- The terms of a record, read in turn, are FORMAT where the bytes do not hold both lists. -/
theorem rawFn_cut {k : Byte} {rest : List Byte} (h : k = 1 ∨ k = 2) (os : natAt rest 63 ≤ 8) (cs : natAt rest 64 ≤ 8)
    (short : rest.length < 65 + 5 * (natAt rest 63 + natAt rest 64)) : rawFn (k :: rest) = .error .format := by
  by_cases long : 65 ≤ rest.length
  · rw [rawFn_counts h long os cs]
    cases r : rawTerms (natAt rest 63) (rest.drop 65) with
    | error e => rw [rawTerms_class r]
    | ok p =>
      obtain ⟨ts, rest1⟩ := p
      obtain ⟨size, five, layout⟩ := (rawTerms_ok_iff _ _ _ _).mp r
      have total := congrArg List.length layout
      rw [List.length_drop, List.length_append, flatten_length five, size] at total
      dsimp only
      rw [rawTerms_short (by omega)]
  · exact rawFn_short h (Nat.lt_of_not_le long)

theorem kind_of_code {k : Byte} (zero : k ≠ 0) (two : ¬2 < k.toNat) : k = 1 ∨ k = 2 := by
  have n : k.toNat ≠ 0 := fun e => zero (BitVec.eq_of_toNat_eq e)
  have : k.toNat = 1 ∨ k.toNat = 2 := by omega
  rcases this with e | e
  · exact .inl (BitVec.eq_of_toNat_eq e)
  · exact .inr (BitVec.eq_of_toNat_eq e)

/-- A record is read exactly where it has its layout. -/
theorem rawFn_ok_iff (bs : List Byte) (r : RawFn) (rest : List Byte) :
    rawFn bs = .ok (r, rest) ↔ r.Good ∧ bs = r.bytes ++ rest := by
  constructor
  · intro h
    cases bs with
    | nil => cases h
    | cons k tail =>
      by_cases zero : k = 0
      · rw [zero, rawFn_zero] at h
        cases h
        exact ⟨RawFn.good_unconfigured, by rw [zero]; rfl⟩
      by_cases two : 2 < k.toNat
      · rw [rawFn_kind tail two] at h
        cases h
      have kind := kind_of_code zero two
      by_cases long : 65 ≤ tail.length
      swap
      · rw [rawFn_short kind (Nat.lt_of_not_le long)] at h
        cases h
      by_cases many : 8 < natAt tail 63 ∨ 8 < natAt tail 64
      · rw [rawFn_many kind long many] at h
        cases h
      rw [rawFn_counts kind long (by omega) (by omega)] at h
      cases ro : rawTerms (natAt tail 63) (tail.drop 65) with
      | error e => rw [ro] at h; cases h
      | ok p =>
        obtain ⟨os, rest1⟩ := p
        rw [ro] at h
        dsimp only at h
        cases rc : rawTerms (natAt tail 64) rest1 with
        | error e => rw [rc] at h; cases h
        | ok q =>
          obtain ⟨cs, rest2⟩ := q
          rw [rc] at h
          cases h
          obtain ⟨so, fo, lo⟩ := (rawTerms_ok_iff _ _ _ _).mp ro
          obtain ⟨sc, fc, lc⟩ := (rawTerms_ok_iff _ _ _ _).mp rc
          have split : k :: tail = (k :: tail).take 66 ++ (os.flatten ++ (cs.flatten ++ rest)) := by
            rw [← lc, ← lo]
            exact (List.take_append_drop 66 (k :: tail)).symm
          have size : ((k :: tail).take 66).length = 66 := by rw [List.length_take, List.length_cons]; omega
          have head : ∀ i : Nat, i < 66 → natAt ((k :: tail).take 66) i = natAt (k :: tail) i := by
            intro i lt
            conv_rhs => rw [split]
            rw [natAt_append (by rw [size]; exact lt)]
          refine ⟨?_, by rw [RawFn.bytes, List.append_assoc, List.append_assoc]; exact split⟩
          intro hd xs ys e
          cases e
          refine ⟨size, ?_, ?_, ?_, by omega, by omega, fun t m => ?_⟩
          · rw [head 0 (by omega), natAt_zero]
            rcases kind with rfl | rfl
            · exact .inl rfl
            · exact .inr rfl
          · rw [head 64 (by omega), natAt_cons]
            exact so.symm
          · rw [head 65 (by omega), natAt_cons]
            exact sc.symm
          · rcases List.mem_append.mp m with m | m
            · exact fo t m
            · exact fc t m
  · rintro ⟨good, rfl⟩
    cases r with
    | unconfigured => rfl
    | configured head os cs =>
      obtain ⟨size, kind, no, nc, fo, fc, five⟩ := good head os cs rfl
      cases head with
      | nil => cases size
      | cons k tail =>
        have long : tail.length = 65 := by
          rw [List.length_cons] at size
          omega
        rw [natAt_zero] at kind
        rw [natAt_cons] at no nc
        have code : k = 1 ∨ k = 2 := by
          rcases kind with e | e
          · exact .inl (BitVec.eq_of_toNat_eq e)
          · exact .inr (BitVec.eq_of_toNat_eq e)
        have whole : (RawFn.configured (k :: tail) os cs).bytes ++ rest = k :: (tail ++ (os.flatten ++ (cs.flatten ++ rest))) := by
          simp only [RawFn.bytes, List.append_assoc, List.cons_append]
        have co : natAt (tail ++ (os.flatten ++ (cs.flatten ++ rest))) 63 = os.length := by rw [natAt_append (by omega), no]
        have cc : natAt (tail ++ (os.flatten ++ (cs.flatten ++ rest))) 64 = cs.length := by rw [natAt_append (by omega), nc]
        have ro := (rawTerms_ok_iff os.length (os.flatten ++ (cs.flatten ++ rest)) os (cs.flatten ++ rest)).mpr
          ⟨rfl, fun t m => five t (List.mem_append_left _ m), rfl⟩
        have rc := (rawTerms_ok_iff cs.length (cs.flatten ++ rest) cs rest).mpr
          ⟨rfl, fun t m => five t (List.mem_append_right _ m), rfl⟩
        rw [whole, rawFn_counts code (by rw [List.length_append]; omega) (by omega) (by omega), co, cc, ← long, List.drop_left, ro]
        dsimp only
        rw [rc]
        have taken : (k :: (tail ++ (os.flatten ++ (cs.flatten ++ rest)))).take 66 = k :: tail := by
          rw [show (66 : Nat) = tail.length + 1 by omega, List.take_succ_cons, List.take_left]
        rw [taken]

theorem rawFn_class {bs : List Byte} {e : LoadFault} (h : rawFn bs = .error e) : e = .format ∨ e = .range := by
  unfold rawFn at h
  split at h
  · cases h; exact .inl rfl
  · split at h
    · cases h
    · split at h
      · cases h; exact .inr rfl
      · split at h
        · cases h; exact .inl rfl
        · dsimp only at h
          split at h
          · cases h; exact .inr rfl
          · split at h
            next c => cases h; exact .inl (rawTerms_class c)
            · split at h
              next c => cases h; exact .inl (rawTerms_class c)
              · cases h

end Sys2Proof.Machine
end

section
/-! The lamp block, the sections and the walk over them (R6). -/

namespace Sys2Proof.Machine

/-! ## Lamps -/

/-- The bytes of one lamp. -/
def RawLamp.bytes (l : RawLamp) : List Byte :=
  BitVec.ofNat 8 l.on.length :: BitVec.ofNat 8 l.flash.length :: (l.on ++ l.flash).flatten

/-- A lamp of the layout of section 1.5. -/
def RawLamp.Good (l : RawLamp) : Prop := l.on.length ≤ 4 ∧ l.flash.length ≤ 4 ∧ ∀ t ∈ l.on ++ l.flash, t.length = 5

theorem ofNat_toNat_of_le {n : Nat} (h : n ≤ 8) : (BitVec.ofNat 8 n).toNat = n := by
  rw [BitVec.toNat_ofNat]
  omega

theorem rawLamp_counts {k n : Byte} {rest : List Byte} (hk : k.toNat ≤ 4) (hn : n.toNat ≤ 4) : rawLamp (k :: n :: rest) =
    match rawTerms k.toNat rest with
    | .error e => .error e
    | .ok (on, rest1) =>
        match rawTerms n.toNat rest1 with
        | .error e => .error e
        | .ok (fl, rest2) => .ok ({ on := on, flash := fl }, rest2) := by
  unfold rawLamp
  rw [if_neg (by simp), if_neg (by rw [natAt_cons, natAt_zero, natAt_zero]; omega)]
  rfl

theorem rawLamp_many {k n : Byte} (rest : List Byte) (h : 4 < k.toNat ∨ 4 < n.toNat) :
    rawLamp (k :: n :: rest) = .error .range := by
  unfold rawLamp
  rw [if_neg (by simp), if_pos (show 4 < natAt (k :: n :: rest) 0 ∨ 4 < natAt (k :: n :: rest) 1 from h)]

theorem rawLamp_cut {k n : Byte} {rest : List Byte} (hk : k.toNat ≤ 4) (hn : n.toNat ≤ 4)
    (short : rest.length < 5 * (k.toNat + n.toNat)) : rawLamp (k :: n :: rest) = .error .format := by
  rw [rawLamp_counts hk hn]
  cases r : rawTerms k.toNat rest with
  | error e => rw [rawTerms_class r]
  | ok p =>
    obtain ⟨ts, rest1⟩ := p
    obtain ⟨size, five, layout⟩ := (rawTerms_ok_iff _ _ _ _).mp r
    have total := congrArg List.length layout
    rw [List.length_append, flatten_length five, size] at total
    dsimp only
    rw [rawTerms_short (by omega)]

theorem rawLamp_ok_iff (bs : List Byte) (l : RawLamp) (rest : List Byte) :
    rawLamp bs = .ok (l, rest) ↔ l.Good ∧ bs = l.bytes ++ rest := by
  constructor
  · intro h
    match bs with
    | [] => cases h
    | [_] => cases h
    | k :: n :: tail =>
      by_cases many : 4 < k.toNat ∨ 4 < n.toNat
      · rw [rawLamp_many tail many] at h
        cases h
      rw [rawLamp_counts (by omega) (by omega)] at h
      cases ro : rawTerms k.toNat tail with
      | error e => rw [ro] at h; cases h
      | ok p =>
        obtain ⟨on, rest1⟩ := p
        rw [ro] at h
        dsimp only at h
        cases rf : rawTerms n.toNat rest1 with
        | error e => rw [rf] at h; cases h
        | ok q =>
          obtain ⟨fl, rest2⟩ := q
          rw [rf] at h
          cases h
          obtain ⟨so, fo, lo⟩ := (rawTerms_ok_iff _ _ _ _).mp ro
          obtain ⟨sf, ff, lf⟩ := (rawTerms_ok_iff _ _ _ _).mp rf
          refine ⟨⟨by dsimp only; omega, by dsimp only; omega, fun t m => ?_⟩, ?_⟩
          · rcases List.mem_append.mp m with m | m
            · exact fo t m
            · exact ff t m
          · unfold RawLamp.bytes
            rw [so, sf, BitVec.ofNat_toNat, BitVec.ofNat_toNat, BitVec.setWidth_eq, BitVec.setWidth_eq, lo, lf,
              List.flatten_append, List.cons_append, List.cons_append, List.append_assoc]
  · rintro ⟨⟨o4, f4, five⟩, rfl⟩
    have ro := (rawTerms_ok_iff l.on.length (l.on.flatten ++ (l.flash.flatten ++ rest)) l.on (l.flash.flatten ++ rest)).mpr
      ⟨rfl, fun t m => five t (List.mem_append_left _ m), rfl⟩
    have rf := (rawTerms_ok_iff l.flash.length (l.flash.flatten ++ rest) l.flash rest).mpr
      ⟨rfl, fun t m => five t (List.mem_append_right _ m), rfl⟩
    unfold RawLamp.bytes
    rw [List.flatten_append, List.cons_append, List.cons_append, List.append_assoc,
      rawLamp_counts (by rw [ofNat_toNat_of_le (by omega)]; exact o4) (by rw [ofNat_toNat_of_le (by omega)]; exact f4),
      ofNat_toNat_of_le (by omega), ofNat_toNat_of_le (by omega), ro]
    dsimp only
    rw [rf]

theorem rawLamp_class {bs : List Byte} {e : LoadFault} (h : rawLamp bs = .error e) : e = .format ∨ e = .range := by
  unfold rawLamp at h
  split at h
  · cases h; exact .inl rfl
  · split at h
    · cases h; exact .inr rfl
    · split at h
      next c => cases h; exact .inl (rawTerms_class c)
      · split at h
        next c => cases h; exact .inl (rawTerms_class c)
        · cases h

theorem rawLampList_eq : ∀ (n : Nat) (bs : List Byte), rawLampList n bs = readMany rawLamp n bs := by
  intro n
  induction n with
  | zero => exact fun _ => rfl
  | succ n ih =>
    intro bs
    rw [rawLampList, readMany]
    cases rawLamp bs with
    | error e => rfl
    | ok p =>
      dsimp only
      rw [ih]
      cases readMany rawLamp n p.2 <;> rfl

theorem rawFns_eq : ∀ (n : Nat) (bs : List Byte), rawFns n bs = readMany rawFn n bs := by
  intro n
  induction n with
  | zero => exact fun _ => rfl
  | succ n ih =>
    intro bs
    rw [rawFns, readMany]
    cases rawFn bs with
    | error e => rfl
    | ok p =>
      dsimp only
      rw [ih]
      cases readMany rawFn n p.2 <;> rfl

/-! ## The lamp block -/

/-- The bytes of a lamp block. -/
def lampBlock (ls : List RawLamp) : List Byte := BitVec.ofNat 8 ls.length :: ls.flatMap RawLamp.bytes

theorem rawLamps_count {n : Byte} (rest : List Byte) (h : n.toNat ≤ 8) : rawLamps (n :: rest) =
    match readMany rawLamp n.toNat rest with
    | .error e => .error e
    | .ok (ls, []) => .ok ls
    | .ok (_, _ :: _) => .error .format := by
  unfold rawLamps
  dsimp only
  rewrite [if_neg (by omega), rawLampList_eq]
  cases readMany rawLamp n.toNat rest with
  | error e => rfl
  | ok p =>
    obtain ⟨ls, rest1⟩ := p
    cases rest1 <;> rfl

theorem rawLamps_many {n : Byte} (rest : List Byte) (h : 8 < n.toNat) : rawLamps (n :: rest) = .error .range := by
  unfold rawLamps
  exact if_pos h

/-- A lamp that fails is the failure of its block. -/
theorem rawLamps_error {n : Byte} {ls : List RawLamp} {rest : List Byte} {e : LoadFault} (few : n.toNat ≤ 8)
    (good : ∀ l ∈ ls, l.Good) (more : ls.length < n.toNat) (fails : rawLamp rest = .error e) :
    rawLamps (n :: (ls.flatMap RawLamp.bytes ++ rest)) = .error e := by
  rw [rawLamps_count _ few, readMany_error rawLamp_ok_iff n.toNat ls rest e good more fails]

/-- Bytes left over after the lamps are FORMAT. -/
theorem rawLamps_left {n : Byte} {ls : List RawLamp} {rest : List Byte} (few : n.toNat ≤ 8) (good : ∀ l ∈ ls, l.Good)
    (all : ls.length = n.toNat) (left : rest ≠ []) : rawLamps (n :: (ls.flatMap RawLamp.bytes ++ rest)) = .error .format := by
  rw [rawLamps_count _ few, (readMany_ok_iff rawLamp_ok_iff n.toNat _ ls rest).mpr ⟨all, good, rfl⟩]
  cases rest with
  | nil => exact absurd rfl left
  | cons _ _ => rfl

theorem rawLamps_ok_iff (bs : List Byte) (ls : List RawLamp) :
    rawLamps bs = .ok ls ↔ ls.length ≤ 8 ∧ (∀ l ∈ ls, l.Good) ∧ bs = lampBlock ls := by
  constructor
  · intro h
    cases bs with
    | nil => cases h
    | cons n rest =>
      by_cases many : 8 < n.toNat
      · rw [rawLamps_many rest many] at h
        cases h
      rw [rawLamps_count rest (by omega)] at h
      cases r : readMany rawLamp n.toNat rest with
      | error e => rw [r] at h; cases h
      | ok p =>
        obtain ⟨xs, rest1⟩ := p
        rw [r] at h
        cases rest1 with
        | cons _ _ => cases h
        | nil =>
          cases h
          obtain ⟨size, good, layout⟩ := (readMany_ok_iff rawLamp_ok_iff _ _ _ _).mp r
          refine ⟨by omega, good, ?_⟩
          rw [lampBlock, size, BitVec.ofNat_toNat, BitVec.setWidth_eq, layout, List.append_nil]
  · rintro ⟨few, good, rfl⟩
    have count := ofNat_toNat_of_le few
    rw [lampBlock, rawLamps_count _ (by rw [count]; exact few), count,
      (readMany_ok_iff rawLamp_ok_iff ls.length _ ls []).mpr ⟨rfl, good, by rw [List.append_nil]⟩]

theorem rawLamps_class {bs : List Byte} {e : LoadFault} (h : rawLamps bs = .error e) : e = .format ∨ e = .range := by
  cases bs with
  | nil => cases h; exact .inl rfl
  | cons n rest =>
    by_cases many : 8 < n.toNat
    · rw [rawLamps_many rest many] at h
      cases h
      exact .inr rfl
    rw [rawLamps_count rest (by omega)] at h
    cases r : readMany rawLamp n.toNat rest with
    | error c =>
      rw [r] at h
      cases h
      exact readMany_class (P := fun e => e = .format ∨ e = .range) (fun _ _ => rawLamp_class) _ _ _ r
    | ok p =>
      obtain ⟨xs, rest1⟩ := p
      rw [r] at h
      cases rest1 with
      | nil => cases h
      | cons _ _ => cases h; exact .inl rfl

end Sys2Proof.Machine
end

section
/-! The sections and the walk over them (R6). -/

namespace Sys2Proof.Machine

/-! ## Sections -/

/-- How many bytes stand between a section's role byte and its function records or its lamp block. -/
def fixedBytes : Role → Nat
  | .unused => 0
  | .motion => 1
  | .pump => 5
  | .panelCommand => 13
  | .panelStop => 3
  | .monitor => 0

/-- The bytes of a section after its role byte. -/
def RawSection.bytes (s : RawSection) : List Byte :=
  if s.role = .unused then [] else s.fixed ++ s.fns.flatMap RawFn.bytes ++ lampBlock s.lamps

/-- A section of the layout of section 1.5. -/
def RawSection.Good (s : RawSection) : Prop :=
  s.fns.length = (if s.role = .motion then 4 else 0) ∧ s.fixed.length = fixedBytes s.role ∧
  s.lamps.length ≤ (if s.role = .unused then 0 else 8) ∧ (∀ r ∈ s.fns, r.Good) ∧ ∀ l ∈ s.lamps, l.Good

theorem rawFixed_short {role : Role} {n : Nat} {bs : List Byte} (h : bs.length < n) : rawFixed role n bs = .error .format :=
  if_pos h

theorem rawFixed_lamps {role : Role} {n : Nat} {bs : List Byte} (h : n ≤ bs.length) : rawFixed role n bs =
    match rawLamps (bs.drop n) with
    | .error e => .error e
    | .ok ls => .ok { role := role, fixed := bs.take n, fns := [], lamps := ls } :=
  if_neg (Nat.not_lt_of_le h)

/-- A section without function records is read exactly where it has its layout. -/
theorem rawFixed_ok_iff {role : Role} (used : role ≠ .unused) (other : role ≠ .motion) (bs : List Byte) (sec : RawSection) :
    rawFixed role (fixedBytes role) bs = .ok sec ↔ sec.role = role ∧ sec.Good ∧ bs = sec.bytes := by
  constructor
  · intro h
    by_cases long : fixedBytes role ≤ bs.length
    swap
    · rw [rawFixed_short (Nat.lt_of_not_le long)] at h
      cases h
    rw [rawFixed_lamps long] at h
    cases r : rawLamps (bs.drop (fixedBytes role)) with
    | error e => rw [r] at h; cases h
    | ok ls =>
      rw [r] at h
      cases h
      obtain ⟨few, good, layout⟩ := (rawLamps_ok_iff _ _).mp r
      refine ⟨rfl, ⟨(if_neg other).symm, List.length_take_of_le long, (if_neg used).symm ▸ few,
        fun _ m => absurd m List.not_mem_nil, good⟩, ?_⟩
      unfold RawSection.bytes
      dsimp only
      rw [if_neg used, List.flatMap_nil, List.append_nil, ← layout, List.take_append_drop]
  · rintro ⟨rfl, ⟨none, size, few, -, good⟩, rfl⟩
    rw [if_neg other] at none
    rw [if_neg used] at few
    obtain ⟨role, fixed, fns, lamps⟩ := sec
    cases List.eq_nil_of_length_eq_zero none
    unfold RawSection.bytes
    dsimp only at size few good used ⊢
    rw [if_neg used, List.flatMap_nil, List.append_nil, rawFixed_lamps (by rw [List.length_append]; omega), ← size,
      List.drop_left, List.take_left, (rawLamps_ok_iff _ _).mpr ⟨few, good, rfl⟩]

theorem rawBody_fixed {role : Role} (used : role ≠ .unused) (other : role ≠ .motion) (bs : List Byte) :
    rawBody role bs = rawFixed role (fixedBytes role) bs := by
  cases role with
  | unused => exact absurd rfl used
  | motion => exact absurd rfl other
  | pump | panelCommand | panelStop | monitor => rfl

theorem rawBody_motion (p : Byte) (rest : List Byte) : rawBody .motion (p :: rest) =
    match readMany rawFn 4 rest with
    | .error e => .error e
    | .ok (fs, rest1) =>
        match rawLamps rest1 with
        | .error e => .error e
        | .ok ls => .ok { role := .motion, fixed := [p], fns := fs, lamps := ls } := by
  unfold rawBody
  dsimp only
  rewrite [rawFns_eq]
  cases readMany rawFn 4 rest with
  | error e => rfl
  | ok p => rfl

/-- A MOTION section is read exactly where it has its layout. -/
theorem rawMotion_ok_iff (bs : List Byte) (sec : RawSection) :
    rawBody .motion bs = .ok sec ↔ sec.role = .motion ∧ sec.Good ∧ bs = sec.bytes := by
  constructor
  · intro h
    cases bs with
    | nil => cases h
    | cons p rest =>
      rw [rawBody_motion] at h
      cases rf : readMany rawFn 4 rest with
      | error e => rw [rf] at h; cases h
      | ok q =>
        obtain ⟨fs, rest1⟩ := q
        rw [rf] at h
        dsimp only at h
        cases rl : rawLamps rest1 with
        | error e => rw [rl] at h; cases h
        | ok ls =>
          rw [rl] at h
          cases h
          obtain ⟨four, goodF, layoutF⟩ := (readMany_ok_iff rawFn_ok_iff _ _ _ _).mp rf
          obtain ⟨few, goodL, layoutL⟩ := (rawLamps_ok_iff _ _).mp rl
          refine ⟨rfl, ⟨four, rfl, few, goodF, goodL⟩, ?_⟩
          rw [layoutF, layoutL]
          rfl
  · rintro ⟨motion, ⟨four, one, few, goodF, goodL⟩, rfl⟩
    obtain ⟨role, fixed, fns, lamps⟩ := sec
    dsimp only at motion
    subst motion
    obtain ⟨p, rfl⟩ := List.length_eq_one_iff.mp one
    show rawBody .motion (p :: (fns.flatMap RawFn.bytes ++ lampBlock lamps)) = _
    rw [rawBody_motion, (readMany_ok_iff rawFn_ok_iff 4 _ fns _).mpr ⟨four, goodF, rfl⟩]
    dsimp only
    rw [(rawLamps_ok_iff _ lamps).mpr ⟨few, goodL, rfl⟩]

theorem rawUnused_ok_iff (bs : List Byte) (sec : RawSection) :
    rawBody .unused bs = .ok sec ↔ sec.role = .unused ∧ sec.Good ∧ bs = sec.bytes := by
  constructor
  · intro h
    cases bs with
    | cons _ _ => cases h
    | nil =>
      cases h
      exact ⟨rfl, ⟨rfl, rfl, Nat.le_refl 0, fun _ m => absurd m List.not_mem_nil, fun _ m => absurd m List.not_mem_nil⟩, rfl⟩
  · rintro ⟨unused, ⟨noFns, noFixed, noLamps, -, -⟩, rfl⟩
    obtain ⟨role, fixed, fns, lamps⟩ := sec
    dsimp only at unused
    subst unused
    cases List.eq_nil_of_length_eq_zero noFns
    cases List.eq_nil_of_length_eq_zero noFixed
    cases List.eq_nil_of_length_eq_zero (Nat.le_zero.mp noLamps)
    rfl

/-- A section is read exactly where it has its layout (R6). -/
theorem rawBody_ok_iff (role : Role) (bs : List Byte) (sec : RawSection) :
    rawBody role bs = .ok sec ↔ sec.role = role ∧ sec.Good ∧ bs = sec.bytes := by
  by_cases unused : role = .unused
  · rw [unused]
    exact rawUnused_ok_iff bs sec
  by_cases motion : role = .motion
  · rw [motion]
    exact rawMotion_ok_iff bs sec
  rw [rawBody_fixed unused motion]
  exact rawFixed_ok_iff unused motion bs sec

/-- A section whose fixed bytes are cut short is FORMAT. -/
theorem rawBody_short {role : Role} {bs : List Byte} (h : bs.length < fixedBytes role) : rawBody role bs = .error .format := by
  by_cases unused : role = .unused
  · rw [unused] at h
    cases h
  by_cases motion : role = .motion
  · rw [motion] at h ⊢
    rw [List.eq_nil_of_length_eq_zero (Nat.lt_one_iff.mp h)]
    rfl
  rw [rawBody_fixed unused motion]
  exact rawFixed_short h

/-- The failure of the lamp block is the section's. -/
theorem rawBody_lamps {role : Role} {bs : List Byte} {e : LoadFault} (used : role ≠ .unused) (other : role ≠ .motion)
    (long : fixedBytes role ≤ bs.length) (fails : rawLamps (bs.drop (fixedBytes role)) = .error e) :
    rawBody role bs = .error e := by
  rw [rawBody_fixed used other, rawFixed_lamps long, fails]

/-- The failure of a function record is the section's. -/
theorem rawMotion_record {p : Byte} {rs : List RawFn} {rest : List Byte} {e : LoadFault} (good : ∀ r ∈ rs, r.Good)
    (few : rs.length < 4) (fails : rawFn rest = .error e) :
    rawBody .motion (p :: (rs.flatMap RawFn.bytes ++ rest)) = .error e := by
  rw [rawBody_motion, readMany_error rawFn_ok_iff 4 rs rest e good few fails]

theorem rawMotion_lamps {p : Byte} {rs : List RawFn} {rest : List Byte} {e : LoadFault} (good : ∀ r ∈ rs, r.Good)
    (four : rs.length = 4) (fails : rawLamps rest = .error e) :
    rawBody .motion (p :: (rs.flatMap RawFn.bytes ++ rest)) = .error e := by
  rw [rawBody_motion, (readMany_ok_iff rawFn_ok_iff 4 _ rs rest).mpr ⟨four, good, rfl⟩]
  dsimp only
  rw [fails]

/-- A section fails with FORMAT or RANGE. -/
theorem rawBody_class {role : Role} {bs : List Byte} {e : LoadFault} (h : rawBody role bs = .error e) :
    e = .format ∨ e = .range := by
  by_cases unused : role = .unused
  · rw [unused] at h
    cases bs <;> cases h
    exact .inl rfl
  by_cases motion : role = .motion
  · rw [motion] at h
    cases bs with
    | nil => cases h; exact .inl rfl
    | cons p rest =>
      rw [rawBody_motion] at h
      cases rf : readMany rawFn 4 rest with
      | error c =>
        rw [rf] at h
        cases h
        exact readMany_class (P := fun e => e = .format ∨ e = .range) (fun _ _ => rawFn_class) _ _ _ rf
      | ok q =>
        obtain ⟨fs, rest1⟩ := q
        rw [rf] at h
        dsimp only at h
        cases rl : rawLamps rest1 with
        | error c =>
          rw [rl] at h
          cases h
          exact rawLamps_class rl
        | ok ls => rw [rl] at h; cases h
  rw [rawBody_fixed unused motion] at h
  by_cases long : fixedBytes role ≤ bs.length
  · rw [rawFixed_lamps long] at h
    cases rl : rawLamps (bs.drop (fixedBytes role)) with
    | error c =>
      rw [rl] at h
      cases h
      exact rawLamps_class rl
    | ok ls => rw [rl] at h; cases h
  · rw [rawFixed_short (Nat.lt_of_not_le long)] at h
    cases h
    exact .inl rfl

/-! ## The walk -/

theorem roleOf_none {n : Nat} (h : 5 < n) : roleOf n = none := by
  obtain ⟨m, rfl⟩ := Nat.exists_eq_add_of_lt h
  rw [show 5 + m + 1 = m + 6 by omega]
  rfl

theorem roleOf_code (role : Role) :
    roleOf (([.unused, .motion, .pump, .panelCommand, .panelStop, .monitor] : List Role).idxOf role) = some role := by
  cases role <;> rfl

theorem walkFrom_short (own : StationId) (left index : Nat) {bs : List Byte}
    (h : bs.length < 3 ∨ be16 bs 0 < 3 ∨ bs.length < be16 bs 0) :
    walkFrom own (left + 1) index bs = { result := .error .format, ownRole := none } := by
  unfold walkFrom
  exact if_pos h

theorem walkFrom_cons (own : StationId) (left index : Nat) {bs : List Byte}
    (h : ¬(bs.length < 3 ∨ be16 bs 0 < 3 ∨ bs.length < be16 bs 0)) {role : Role} (code : roleOf (natAt bs 2) = some role) :
    walkFrom own (left + 1) index bs =
      match rawBody role ((bs.take (be16 bs 0)).drop 3) with
      | .error e => { result := .error e, ownRole := if index = own.val then some role else none }
      | .ok sec =>
          let later := walkFrom own left (index + 1) (bs.drop (be16 bs 0))
          { result := match later.result with
              | .error e => .error e
              | .ok ss => .ok (sec :: ss)
            ownRole := (if index = own.val then some role else none).or later.ownRole } := by
  rewrite [walkFrom]
  refine (if_neg h).trans ?_
  rewrite [code]
  rfl

theorem walkFrom_role (own : StationId) (left index : Nat) {bs : List Byte}
    (h : ¬(bs.length < 3 ∨ be16 bs 0 < 3 ∨ bs.length < be16 bs 0)) (code : roleOf (natAt bs 2) = none) :
    walkFrom own (left + 1) index bs = { result := .error .range, ownRole := none } := by
  rw [walkFrom]
  dsimp only
  rw [if_neg h, code]

/-- The walk fails with FORMAT or RANGE. -/
theorem walkFrom_class (own : StationId) : ∀ (left index : Nat) (bs : List Byte) (e : LoadFault),
    (walkFrom own left index bs).result = .error e → e = .format ∨ e = .range := by
  intro left
  induction left with
  | zero =>
    intro index bs e h
    unfold walkFrom at h
    dsimp only at h
    split at h <;> cases h
    exact .inl rfl
  | succ left ih =>
    intro index bs e h
    by_cases short : bs.length < 3 ∨ be16 bs 0 < 3 ∨ bs.length < be16 bs 0
    · rw [walkFrom_short own left index short] at h
      cases h
      exact .inl rfl
    cases code : roleOf (natAt bs 2) with
    | none =>
      rw [walkFrom_role own left index short code] at h
      cases h
      exact .inr rfl
    | some role =>
      rw [walkFrom_cons own left index short code] at h
      cases body : rawBody role ((bs.take (be16 bs 0)).drop 3) with
      | error c =>
        rw [body] at h
        cases h
        exact rawBody_class body
      | ok sec =>
        rw [body] at h
        dsimp only at h
        cases later : (walkFrom own left (index + 1) (bs.drop (be16 bs 0))).result with
        | error c =>
          rw [later] at h
          cases h
          exact ih _ _ _ later
        | ok ss => rw [later] at h; cases h

end Sys2Proof.Machine
end

section
/-! Bytes as entries, selectors and terms (sections 1.5 and 1.6, R7). -/

namespace Sys2Proof.Machine

/-! ## Bits of a byte -/

theorem bit_iff (b : Byte) (n : Nat) : bit b n = true ↔ b.toNat / 2 ^ n % 2 = 1 := by
  rw [bit, ← BitVec.testBit_toNat, Nat.testBit_eq_decide_div_mod_eq, decide_eq_true_eq]

theorem bit_toNat (b : Byte) (n : Nat) : (bit b n).toNat = b.toNat / 2 ^ n % 2 := by
  have := bit_iff b n
  cases h : bit b n with
  | false =>
    rw [h] at this
    have : b.toNat / 2 ^ n % 2 ≠ 1 := fun e => by simpa using this.mpr e
    show 0 = _
    omega
  | true => exact (this.mp h).symm

theorem eq_bit_iff (x : Bool) (b : Byte) (n : Nat) : x = bit b n ↔ x.toNat = b.toNat / 2 ^ n % 2 := by
  rw [← bit_toNat]
  cases x <;> cases bit b n <;> decide

theorem fin_ofNat_eq_iff {n : Nat} [NeZero n] (x : Fin n) (k : Nat) : x = Fin.ofNat n k ↔ x.val = k % n := Fin.ext_iff

/-! ## Entries -/

theorem readEntry_input (b : Byte) (i : InputId) : readEntry b = some (some i) ↔ b.toNat = 128 + i.val := by
  have high := bit_iff b 7
  have lt := b.isLt
  unfold readEntry
  split
  next zero => exact ⟨fun h => (nomatch h), fun h => absurd (show b.toNat / 2 ^ 4 % 2 ^ 3 = 0 by omega) zero⟩
  next zero =>
    have zero : b.toNat / 2 ^ 4 % 2 ^ 3 = 0 := Decidable.not_not.mp zero
    split
    next one =>
      have := high.mp one
      rw [Option.some.injEq, Option.some.injEq, eq_comm, fin_ofNat_eq_iff, field]
      omega
    next one =>
      have : ¬b.toNat / 2 ^ 7 % 2 = 1 := fun e => one (high.mpr e)
      exact ⟨fun h => (nomatch h), fun h => by omega⟩

theorem readEntry_none (b : Byte) : readEntry b = some none ↔ b.toNat < 16 := by
  have high := bit_iff b 7
  have lt := b.isLt
  unfold readEntry
  split
  next zero => exact ⟨fun h => (nomatch h), fun h => absurd (show b.toNat / 2 ^ 4 % 2 ^ 3 = 0 by omega) zero⟩
  next zero =>
    have zero : b.toNat / 2 ^ 4 % 2 ^ 3 = 0 := Decidable.not_not.mp zero
    split
    next one =>
      have := high.mp one
      exact ⟨fun h => (nomatch h), fun h => by omega⟩
    next one =>
      have : ¬b.toNat / 2 ^ 7 % 2 = 1 := fun e => one (high.mpr e)
      exact ⟨fun _ => by omega, fun _ => rfl⟩

/-! ## Selectors -/

/-- The code of a selector (section 1.5). -/
def Selector.code : Selector → Nat
  | .stationFlags => 0
  | .fnMotion _ => 1
  | .fnEnd _ => 2
  | .fnFault _ => 3
  | .fnPosition _ => 4
  | .panelFlags => 5
  | .pumpState _ => 6
  | .pumpCapacity => 7
  | .localInput _ => 8

/-- The argument of a selector. -/
def Selector.arg : Selector → Nat
  | .fnMotion f | .fnEnd f | .fnFault f | .fnPosition f => f.val
  | .pumpState .b => 1
  | .localInput i => i.val
  | .stationFlags | .panelFlags | .pumpState .a | .pumpCapacity => 0

theorem readSelector_code_arg (s : Selector) : readSelector s.code s.arg = some s := by
  cases s with
  | stationFlags | panelFlags | pumpCapacity => rfl
  | pumpState p => cases p <;> rfl
  | fnMotion f => exact (if_pos f.isLt).trans (congrArg (fun f => some (Selector.fnMotion f)) (Fin.ofNat_val_eq_self f))
  | fnEnd f => exact (if_pos f.isLt).trans (congrArg (fun f => some (Selector.fnEnd f)) (Fin.ofNat_val_eq_self f))
  | fnFault f => exact (if_pos f.isLt).trans (congrArg (fun f => some (Selector.fnFault f)) (Fin.ofNat_val_eq_self f))
  | fnPosition f => exact (if_pos f.isLt).trans (congrArg (fun f => some (Selector.fnPosition f)) (Fin.ofNat_val_eq_self f))
  | localInput i => exact (if_pos i.isLt).trans (congrArg (fun i => some (Selector.localInput i)) (Fin.ofNat_val_eq_self i))

/-- A selector is read exactly of its code and its argument. -/
theorem readSelector_some_iff (c n : Nat) (s : Selector) : readSelector c n = some s ↔ c = s.code ∧ n = s.arg := by
  constructor
  · intro h
    unfold readSelector at h
    split at h
    case h_10 => cases h
    case h_7 =>
      split at h
      next zero => cases h; exact ⟨rfl, zero⟩
      · split at h <;> cases h
        next one => exact ⟨rfl, one⟩
    all_goals
      split at h <;> cases h
      next inRange =>
        first
        | exact ⟨rfl, inRange⟩
        | exact ⟨rfl, (Nat.mod_eq_of_lt inRange).symm⟩
  · rintro ⟨rfl, rfl⟩
    exact readSelector_code_arg s

/-! ## Terms -/

/-- The operator of a code over an operand of two bytes, for an enumeration of `codes` codes (R7, R79 to R81). -/
def operatorOf (codes op : Nat) (d e : Byte) : Option Operator :=
  match op with
  | 0 => if d.toNat * 256 + e.toNat < 2 ^ codes then some (.member (d ++ e)) else none
  | 1 => some (.maskedEqual d e)
  | 2 => if d.toNat * 256 + e.toNat ≤ 1023 then some (.atLeast (d.toNat * 256 + e.toNat)) else none
  | _ => if d.toNat * 256 + e.toNat ≤ 1023 then some (.below (d.toNat * 256 + e.toNat)) else none

/-- What the two operand bytes hold of an operator. -/
def Operator.Operand (o : Operator) (codes op : Nat) (d e : Byte) : Prop :=
  match o with
  | .member set => op = 0 ∧ set.toNat = d.toNat * 256 + e.toNat ∧ d.toNat * 256 + e.toNat < 2 ^ codes
  | .maskedEqual m v => op = 1 ∧ m = d ∧ v = e
  | .atLeast n => op = 2 ∧ n = d.toNat * 256 + e.toNat ∧ n ≤ 1023
  | .below n => op = 3 ∧ n = d.toNat * 256 + e.toNat ∧ n ≤ 1023

theorem toNat_append_bytes (d e : Byte) : (d ++ e).toNat = d.toNat * 256 + e.toNat := by
  rw [BitVec.toNat_append, ← Nat.shiftLeft_add_eq_or_of_lt e.isLt, Nat.shiftLeft_eq]

theorem operatorOf_some_iff {op : Nat} (codes : Nat) (d e : Byte) (o : Operator) (h : op < 4) :
    operatorOf codes op d e = some o ↔ o.Operand codes op d e := by
  have code : op = 0 ∨ op = 1 ∨ op = 2 ∨ op = 3 := by omega
  rcases code with rfl | rfl | rfl | rfl
  · have member : ∀ set : BitVec 16, d ++ e = set ↔ set.toNat = d.toNat * 256 + e.toNat := by
      intro set
      rw [← toNat_append_bytes]
      exact ⟨fun h => by rw [h], fun h => BitVec.eq_of_toNat_eq h.symm⟩
    cases o <;> simp [operatorOf, Operator.Operand, member, and_comm]
  · cases o <;> simp [operatorOf, Operator.Operand, eq_comm]
  · cases o <;> simp [operatorOf, Operator.Operand]
    omega
  · cases o <;> simp [operatorOf, Operator.Operand]
    omega

/-- A term is read field by field. -/
theorem readTerm_fields (a b c d e : Byte) (t : Term) : readTerm [a, b, c, d, e] = some t ↔
    readSelector (field a 0 4) (field b 4 4) = some t.selector ∧
    operatorOf t.selector.codes (field b 2 2) d e = some t.operator ∧ field c 1 7 = 0 ∧
    t.station = stationOf (field a 4 4) ∧ t.hold = bit b 1 ∧ t.safe = bit b 0 ∧ t.invert = bit c 0 := by
  have shape : readTerm [a, b, c, d, e] =
      (readSelector (field a 0 4) (field b 4 4)).bind (fun sel => (operatorOf sel.codes (field b 2 2) d e).bind (fun o =>
        if field c 1 7 ≠ 0 then none
        else some { station := stationOf (field a 4 4), selector := sel, operator := o, hold := bit b 1, safe := bit b 0,
                    invert := bit c 0 })) := by
    show (match readSelector (field a 0 4) (field b 4 4) with
      | none => none
      | some sel => match operatorOf sel.codes (field b 2 2) d e with
        | none => none
        | some o => _) = _
    cases readSelector (field a 0 4) (field b 4 4) with
    | none => rfl
    | some sel =>
      dsimp only [Option.bind_some]
      cases operatorOf sel.codes (field b 2 2) d e <;> rfl
  rw [shape]
  constructor
  · intro h
    obtain ⟨sel, hs, h⟩ := Option.bind_eq_some_iff.mp h
    obtain ⟨o, ho, h⟩ := Option.bind_eq_some_iff.mp h
    split at h
    · cases h
    next zero =>
      cases h
      exact ⟨hs, ho, Decidable.not_not.mp zero, rfl, rfl, rfl, rfl⟩
  · rintro ⟨hs, ho, zero, station, hold, safe, invert⟩
    rw [hs, Option.bind_some, ho, Option.bind_some, if_neg (fun n => n zero), ← station, ← hold, ← safe, ← invert]

/-- The five bytes of a term whose selector has this code, argument and enumeration. -/
def Term.Selects (t : Term) (a b c d e : Byte) (code argument enumeration : Nat) : Prop :=
  let operand := d.toNat * 256 + e.toNat
  a.toNat = t.station.val * 16 + code ∧ c.toNat = t.invert.toNat ∧
  (let second := fun (operator : Nat) =>
    b.toNat = argument * 16 + operator * 4 + t.hold.toNat * 2 + t.safe.toNat
  match t.operator with
  | .member codes => second 0 ∧ codes.toNat = operand ∧ operand < 2 ^ enumeration
  | .maskedEqual m v => second 1 ∧ m = d ∧ v = e
  | .atLeast n => second 2 ∧ n = operand ∧ n ≤ 1023
  | .below n => second 3 ∧ n = operand ∧ n ≤ 1023)

theorem Selector.code_lt (s : Selector) : s.code < 16 := by
  cases s <;> exact of_decide_eq_true rfl

theorem Selector.arg_lt (s : Selector) : s.arg < 16 := by
  cases s with
  | stationFlags | panelFlags | pumpCapacity => exact of_decide_eq_true rfl
  | fnMotion f | fnEnd f | fnFault f | fnPosition f => exact Nat.lt_trans f.isLt (of_decide_eq_true rfl)
  | pumpState p => cases p <;> exact of_decide_eq_true rfl
  | localInput i => exact i.isLt

/-- The second byte of a term is its argument, its operator, its phase and its class. -/
theorem second_byte_iff (b : Byte) (argument operator : Nat) (hold safe : Bool) (ha : argument < 16) (ho : operator < 4) :
    b.toNat = argument * 16 + operator * 4 + hold.toNat * 2 + safe.toNat ↔
      field b 4 4 = argument ∧ field b 2 2 = operator ∧ hold = bit b 1 ∧ safe = bit b 0 := by
  have lt := b.isLt
  have := hold.toNat_lt
  have := safe.toNat_lt
  rw [eq_bit_iff, eq_bit_iff, field, field]
  omega

theorem Term.selects_iff (t : Term) (a b c d e : Byte) (code argument enumeration : Nat) (hc : code < 16)
    (ha : argument < 16) : t.Selects a b c d e code argument enumeration ↔
    (field a 0 4 = code ∧ field b 4 4 = argument) ∧ t.operator.Operand enumeration (field b 2 2) d e ∧ field c 1 7 = 0 ∧
    t.station = stationOf (field a 4 4) ∧ t.hold = bit b 1 ∧ t.safe = bit b 0 ∧ t.invert = bit c 0 := by
  have first : a.toNat = t.station.val * 16 + code ↔ field a 0 4 = code ∧ t.station = stationOf (field a 4 4) := by
    have := a.isLt
    have := t.station.isLt
    rw [stationOf, fin_ofNat_eq_iff, field, field]
    omega
  have third : c.toNat = t.invert.toNat ↔ field c 1 7 = 0 ∧ t.invert = bit c 0 := by
    have := c.isLt
    have := t.invert.toNat_lt
    rw [eq_bit_iff, field]
    omega
  have second := fun operator => second_byte_iff b argument operator t.hold t.safe ha
  unfold Term.Selects
  dsimp only
  rw [first, third]
  cases o : t.operator with
  | member set =>
    simp only [Operator.Operand, second 0 (by omega)]
    tauto
  | maskedEqual m v =>
    simp only [Operator.Operand, second 1 (by omega)]
    tauto
  | atLeast n =>
    simp only [Operator.Operand, second 2 (by omega)]
    tauto
  | below n =>
    simp only [Operator.Operand, second 3 (by omega)]
    tauto

/-- A term is read exactly of its five bytes. -/
theorem readTerm_some_iff (a b c d e : Byte) (t : Term) : readTerm [a, b, c, d, e] = some t ↔
    t.Selects a b c d e t.selector.code t.selector.arg t.selector.codes := by
  rw [readTerm_fields, Term.selects_iff t a b c d e _ _ _ t.selector.code_lt t.selector.arg_lt, readSelector_some_iff,
    operatorOf_some_iff _ d e _ (show field b 2 2 < 4 from Nat.mod_lt _ (by decide))]

end Sys2Proof.Machine
end

section
/-! The ranges of section 1.6 and what a record and a section of the station's own hold (R7). -/

namespace Sys2Proof.Machine

theorem within_iff {lo hi n : Nat} : within lo hi n = true ↔ lo ≤ n ∧ n ≤ hi := by
  unfold within
  rw [Bool.and_eq_true, decide_eq_true_eq, decide_eq_true_eq]

theorem profile_inRange_iff (p : Profile) : p.inRange = true ↔
    (10 ≤ p.pressureThreshold ∧ p.pressureThreshold ≤ 350) ∧ (500 ≤ p.pressuriseTimeout ∧ p.pressuriseTimeout ≤ 5000) ∧
    (2 ≤ p.grantWait ∧ p.grantWait ≤ 60) ∧ (1 ≤ p.strokeLimit ∧ p.strokeLimit ≤ 120) ∧
    (200 ≤ p.stallWindow ∧ p.stallWindow ≤ 5000) ∧ (1 ≤ p.stallDelta ∧ p.stallDelta ≤ 50) ∧ p.seatTime ≤ 500 ∧
    (20 ≤ p.pullIn ∧ p.pullIn ≤ 200) ∧ (200 ≤ p.holdDuty ∧ p.holdDuty ≤ 1000) ∧
    (100 ≤ p.travelLevel ∧ p.travelLevel ≤ 1000) ∧ (50 ≤ p.creepLevel ∧ p.creepLevel ≤ p.travelLevel) ∧
    p.creepZone ≤ 300 ∧ (1 ≤ p.ramp ∧ p.ramp ≤ 100) ∧ (1 ≤ p.stopRamp ∧ p.stopRamp ≤ 100) ∧ p.skewDeadband ≤ 50 ∧
    p.skewGain ≤ 64 ∧ (20 ≤ p.skewTrip ∧ p.skewTrip ≤ 200) ∧ (1 ≤ p.claimUnits ∧ p.claimUnits ≤ 32) ∧
    p.claimPriority ≤ 3 := by
  simp only [Profile.inRange, Bool.and_eq_true, within_iff, Nat.zero_le, true_and, and_assoc]

theorem timing_inRange_iff (t : Timing) : t.inRange = true ↔
    (20 ≤ t.refresh ∧ t.refresh ≤ 200) ∧ (2 ≤ t.changeInhibit ∧ t.changeInhibit ≤ 20) ∧
    (2 * t.refresh ≤ t.stale ∧ t.stale ≤ 1000) ∧ (50 ≤ t.intentRefresh ∧ t.intentRefresh ≤ 200) ∧
    (2 * t.intentRefresh ≤ t.intentLease ∧ t.intentLease ≤ 1000) ∧ (2 ≤ t.debounce ∧ t.debounce ≤ 50) ∧
    (50 ≤ t.discrepancy ∧ t.discrepancy ≤ 2000) ∧ (5 ≤ t.positionStep ∧ t.positionStep ≤ 50) ∧
    (500 ≤ t.pwm ∧ t.pwm ≤ 4000) ∧ t.pwm % 50 = 0 := by
  simp only [Timing.inRange, Bool.and_eq_true, within_iff, beq_iff_eq, and_assoc]

/-! ## Lists of records -/

theorem readAll_some_iff {α β : Type} {read : α → Option β} : ∀ {xs : List α} {ys : List β},
    readAll read xs = some ys ↔ xs.map read = ys.map some
  | [], ys => by
      rw [readAll, Option.some.injEq, List.map_nil, eq_comm (a := []), eq_comm (a := []), List.map_eq_nil_iff]
  | x :: xs, ys => by
      refine ⟨readAll_some, fun h => ?_⟩
      cases ys with
      | nil => cases h
      | cons y ys =>
        obtain ⟨first, rest⟩ := List.cons.inj h
        rw [readAll, first, readAll_some_iff.mpr rest]

/-! ## The function records of the own section -/

theorem readPairing_eq (bs : List Byte) : readPairing (byteAt bs 1) =
    if 128 ≤ natAt bs 1 then some (Fin.ofNat 16 (natAt bs 1 / 4), Fin.ofNat 4 (natAt bs 1)) else none := by
  have lt := (byteAt bs 1).isLt
  have present : bit (byteAt bs 1) 7 = true ↔ 128 ≤ natAt bs 1 := by
    rw [bit_iff, natAt]
    omega
  have station : stationOf (field (byteAt bs 1) 2 4) = Fin.ofNat 16 (natAt bs 1 / 4) := by
    rw [stationOf, fin_ofNat_eq_iff, Fin.val_ofNat, field, natAt]
    omega
  have function : fnOf (field (byteAt bs 1) 0 2) = Fin.ofNat 4 (natAt bs 1) := by
    rw [fnOf, fin_ofNat_eq_iff, Fin.val_ofNat, field, natAt]
    omega
  unfold readPairing
  rw [station, function]
  simp only [present]

theorem bit6_iff (bs : List Byte) : bit (byteAt bs 1) 6 = false ↔ natAt bs 1 / 64 % 2 = 0 := by
  rw [← Bool.not_eq_true, bit_iff, natAt]
  omega

/-- A function record is a setup exactly where each field of it is in range. -/
theorem readFnSetup_some_iff (bs : List Byte) (os cs : List (List Byte)) (x : FnSetup) : readFnSetup bs os cs = some x ↔
    x.kind = (if natAt bs 0 = 1 then .positioned else .endOnly) ∧ natAt bs 1 / 64 % 2 = 0 ∧
    x.pair = (if 128 ≤ natAt bs 1 then some (Fin.ofNat 16 (natAt bs 1 / 4), Fin.ofNat 4 (natAt bs 1)) else none) ∧
    readEntry (byteAt bs 2) = some (some x.openA) ∧ readEntry (byteAt bs 3) = some x.openB ∧
    readEntry (byteAt bs 4) = some (some x.closedA) ∧ readEntry (byteAt bs 5) = some x.closedB ∧
    x.c0 = be16 bs 6 ∧ x.c1 = be16 bs 8 ∧ (x.kind = .positioned → x.c0 ≤ 4095 ∧ x.c1 ≤ 4095) ∧
    x.openProfile = readProfile ((bs.drop 10).take 27) ∧ x.closeProfile = readProfile ((bs.drop 37).take 27) ∧
    x.openProfile.inRange = true ∧ x.closeProfile.inRange = true ∧
    os.map readTerm = x.openTerms.map some ∧ cs.map readTerm = x.closeTerms.map some := by
  rw [← bit6_iff, ← readPairing_eq, ← readAll_some_iff, ← readAll_some_iff]
  have checks : ∀ (op cp : Profile) (kind : FnKind), (bit (byteAt bs 1) 6 || !op.inRange || !cp.inRange ||
      (kind == .positioned && !(within 0 4095 (be16 bs 6) && within 0 4095 (be16 bs 8)))) = false ↔
      bit (byteAt bs 1) 6 = false ∧ op.inRange = true ∧ cp.inRange = true ∧
        (kind = .positioned → be16 bs 6 ≤ 4095 ∧ be16 bs 8 ≤ 4095) := by
    intro op cp kind
    simp only [Bool.or_eq_false_iff, Bool.not_eq_false', Bool.and_eq_false_imp, beq_iff_eq, Bool.and_eq_true, within_iff,
      Nat.zero_le, true_and, and_assoc]
  constructor
  · intro h
    unfold readFnSetup at h
    dsimp only at h
    split at h
    next oa ob ca cb ots cts eoa eob eca ecb eos ecs =>
      split at h
      · cases h
      next c =>
        obtain ⟨six, op, cp, span⟩ := (checks _ _ _).mp (Bool.eq_false_iff.mpr c)
        cases h
        exact ⟨rfl, six, rfl, eoa, eob, eca, ecb, rfl, rfl, span, rfl, rfl, op, cp, eos, ecs⟩
    · cases h
  · obtain ⟨kind, pair, openA, openB, closedA, closedB, c0, c1, openProfile, closeProfile, openTerms, closeTerms⟩ := x
    rintro ⟨rfl, six, rfl, eoa, eob, eca, ecb, rfl, rfl, span, rfl, rfl, op, cp, eos, ecs⟩
    dsimp only at *
    unfold readFnSetup
    dsimp only
    rw [eoa, eob, eca, ecb, eos, ecs]
    exact if_neg (Bool.eq_false_iff.mp ((checks _ _ _).mpr ⟨six, op, cp, span⟩))

end Sys2Proof.Machine
end

section
/-! The own section as the station keeps it (R7, R11). -/

namespace Sys2Proof.Machine

/-! ## Lamps -/

theorem readLamp_some_iff (l : RawLamp) (x : LampSetup) : readLamp l = some x ↔
    (l.on.map readTerm, l.flash.map readTerm) = (x.on.map some, x.flash.map some) := by
  rw [Prod.mk.injEq, ← readAll_some_iff, ← readAll_some_iff]
  unfold readLamp
  constructor
  · intro h
    split at h
    next on flash => cases h; exact ⟨on, flash⟩
    · cases h
  · rintro ⟨on, flash⟩
    rw [on, flash]

theorem readLamps_some_iff (ls : List RawLamp) (xs : List LampSetup) : readAll readLamp ls = some xs ↔
    ls.map (fun l => (l.on.map readTerm, l.flash.map readTerm)) = xs.map (fun l => (l.on.map some, l.flash.map some)) := by
  rw [readAll_some_iff]
  induction ls generalizing xs with
  | nil => cases xs <;> simp
  | cons l ls ih =>
    cases xs with
    | nil => simp
    | cons x xs =>
      rw [List.map_cons, List.map_cons, List.map_cons, List.map_cons, List.cons.injEq, List.cons.injEq, readLamp_some_iff, ih]

/-! ## Slots of a list -/

theorem map_range_getD {α : Type} (d : α) (xs : List α) : (List.range xs.length).map (xs.getD · d) = xs := by
  refine List.ext_getElem (by simp) (fun i _ h => ?_)
  simp [h]

theorem fourOf_getElem {α : Type} (d : α) (xs : List α) (f : FnId) : (fourOf d xs)[f] = xs.getD f.val d := by
  fin_cases f <;> rfl

theorem eq_fourOf_iff {α : Type} (d : α) (v : Vector α 4) (xs : List α) : v = fourOf d xs ↔ ∀ f : FnId, v[f] = xs.getD f.val d := by
  constructor
  · rintro rfl f
    exact fourOf_getElem d xs f
  · intro h
    refine Vector.ext (fun i lt => ?_)
    have := (h ⟨i, lt⟩).trans (fourOf_getElem d xs ⟨i, lt⟩).symm
    exact this

theorem eq_replicate_none_iff {α : Type} (v : Vector (Option α) 4) : v = Vector.replicate 4 none ↔ ∀ f : FnId, v[f] = none :=
  eq_fourOf_iff none v []

/-! ## The functions of a MOTION section -/

/-- What a slot of the own section holds of its record. -/
def SlotReads (r : Option RawFn) (y : Option FnSetup) : Prop :=
  match r with
  | some (.configured bs os cs) => y.isSome = true ∧ y = readFnSetup bs os cs
  | _ => y = none

theorem readFn_some_iff (r : RawFn) (y : Option FnSetup) : readFn r = some y ↔ SlotReads (some r) y := by
  cases r with
  | unconfigured => exact ⟨fun h => (Option.some.inj h).symm, fun h => congrArg some (Eq.symm h)⟩
  | configured bs os cs =>
    show (readFnSetup bs os cs).map some = some y ↔ y.isSome = true ∧ y = readFnSetup bs os cs
    cases readFnSetup bs os cs with
    | none =>
      refine ⟨fun h => (nomatch h), fun h => ?_⟩
      rw [h.2] at h
      cases h.1
    | some x =>
      rw [Option.map_some, Option.some.injEq]
      exact ⟨fun h => h ▸ ⟨rfl, rfl⟩, fun h => h.2.symm⟩

/-- Four records are read slot by slot. -/
theorem readFns_iff {rs : List RawFn} (four : rs.length = 4) (v : Vector (Option FnSetup) 4) :
    (∃ fs, readAll readFn rs = some fs ∧ v = fourOf none fs) ↔ ∀ f : FnId, SlotReads rs[f.val]? v[f] := by
  constructor
  · rintro ⟨fs, all, rfl⟩ f
    have read := readAll_some_iff.mp all
    have size : fs.length = 4 := by
      have := congrArg List.length read
      rw [List.length_map, List.length_map, four] at this
      exact this.symm
    have lt : f.val < rs.length := by rw [four]; exact f.isLt
    have lt' : f.val < fs.length := by rw [size]; exact f.isLt
    have here : (rs.map readFn)[f.val]? = (fs.map some)[f.val]? := by rw [read]
    rw [List.getElem?_map, List.getElem?_map, List.getElem?_eq_getElem lt, List.getElem?_eq_getElem lt', Option.map_some,
      Option.map_some, Option.some.injEq] at here
    rw [fourOf_getElem, List.getElem?_eq_getElem lt, List.getD_eq_getElem fs none lt']
    exact (readFn_some_iff _ _).mp here
  · intro slots
    refine ⟨v.toList, readAll_some_iff.mpr (List.ext_getElem (by simp [four]) (fun i lt _ => ?_)), ?_⟩
    · have lt4 : i < 4 := by rw [List.length_map, four] at lt; exact lt
      have here := slots ⟨i, lt4⟩
      rw [List.getElem?_eq_getElem (by rw [four]; exact lt4)] at here
      rw [List.getElem_map, List.getElem_map, (readFn_some_iff _ _).mpr here]
      simp
    · rw [eq_fourOf_iff]
      intro f
      rw [List.getD_eq_getElem v.toList none (by simp)]
      simp

/-! ## The DI map of a panel -/

theorem panelCommand_iff {es : List (Option InputId)} (size : es.length = 13) (q : PanelInputs) :
    q = panelInputs .panelCommand es ↔ es = [q.openB, q.closeB, q.stop, q.reset, q.commandKey, q.maintKey, q.underway,
      q.jogOpen, q.jogClose, q.select0, q.select1, q.select2, q.select3] := by
  have slots := map_range_getD none es
  rw [size] at slots
  constructor
  · rintro rfl
    exact slots.symm
  · intro h
    rw [h]
    rfl

theorem panelStop_iff {es : List (Option InputId)} (size : es.length = 3) (q : PanelInputs) :
    q = panelInputs .panelStop es ↔ es = [q.stop, q.reset, q.underway] ∧
      q = { PanelInputs.blank with stop := q.stop, reset := q.reset, underway := q.underway } := by
  have slots := map_range_getD none es
  rw [size] at slots
  constructor
  · rintro rfl
    exact ⟨slots.symm, rfl⟩
  · rintro ⟨h, e⟩
    rw [h]
    exact e

/-! ## The section by its role -/

theorem readAll_length {α β : Type} {read : α → Option β} {xs : List α} {ys : List β} (h : readAll read xs = some ys) :
    ys.length = xs.length := by
  have := congrArg List.length (readAll_some h)
  rwa [List.length_map, List.length_map, eq_comm] at this

/-- The setup of a section with these lamps, before what its role adds. -/
def lampsOnly (role : Role) (lamps : List LampSetup) : OwnSection := { OwnSection.blank with role := role, lamps := lamps }

theorem readOwn_lamps (s : RawSection) (o : OwnSection) : readOwn s = some o ↔ ∃ lamps, readAll readLamp s.lamps = some lamps ∧
    (match s.role with
      | .unused => none
      | .motion => (readAll readFn s.fns).bind (fun fs => if within 0 15 (natAt s.fixed 0) then
          some { lampsOnly .motion lamps with pumpStation := stationOf (natAt s.fixed 0), fns := fourOf none fs } else none)
      | .pump => if within 1 32 (natAt s.fixed 0) && within 500 10000 (be16 s.fixed 1) && within 5 600 (be16 s.fixed 3) then
          some { lampsOnly .pump lamps with
            unitsPerPump := natAt s.fixed 0, runUpMs := be16 s.fixed 1, idleStopS := be16 s.fixed 3 } else none
      | .panelCommand => (readAll readEntry s.fixed).map (fun es =>
          { lampsOnly .panelCommand lamps with panel := panelInputs .panelCommand es })
      | .panelStop => (readAll readEntry s.fixed).map (fun es =>
          { lampsOnly .panelStop lamps with panel := panelInputs .panelStop es })
      | .monitor => some (lampsOnly .monitor lamps)) = some o := by
  obtain ⟨role, fixed, fns, lamps⟩ := s
  unfold readOwn
  dsimp only
  cases readAll readLamp lamps with
  | none => simp
  | some ls =>
    cases role
    case motion => cases readAll readFn fns <;> simp [lampsOnly]
    all_goals simp [lampsOnly]

/-- The own section is kept exactly where each field of it is in range, and holds what its role says. -/
theorem readOwn_some_iff (sec : RawSection) (o : OwnSection) (records : sec.role = .motion → sec.fns.length = 4)
    (command : sec.role = .panelCommand → sec.fixed.length = 13) (stop : sec.role = .panelStop → sec.fixed.length = 3) :
    readOwn sec = some o ↔
      o.role = sec.role ∧ sec.role ≠ .unused ∧
      sec.lamps.map (fun l => (l.on.map readTerm, l.flash.map readTerm)) =
        o.lamps.map (fun l => (l.on.map some, l.flash.map some)) ∧
      (if sec.role = .motion then natAt sec.fixed 0 = o.pumpStation.val ∧ ∀ f : FnId, SlotReads sec.fns[f.val]? o.fns[f]
        else o.pumpStation = 0 ∧ ∀ f : FnId, o.fns[f] = none) ∧
      (if sec.role = .pump then o.unitsPerPump = natAt sec.fixed 0 ∧ o.runUpMs = be16 sec.fixed 1 ∧
          o.idleStopS = be16 sec.fixed 3 ∧ (1 ≤ o.unitsPerPump ∧ o.unitsPerPump ≤ 32) ∧
          (500 ≤ o.runUpMs ∧ o.runUpMs ≤ 10000) ∧ (5 ≤ o.idleStopS ∧ o.idleStopS ≤ 600)
        else o.unitsPerPump = 0 ∧ o.runUpMs = 0 ∧ o.idleStopS = 0) ∧
      (if sec.role = .panelCommand then sec.fixed.map readEntry = [some o.panel.openB, some o.panel.closeB, some o.panel.stop,
          some o.panel.reset, some o.panel.commandKey, some o.panel.maintKey, some o.panel.underway, some o.panel.jogOpen,
          some o.panel.jogClose, some o.panel.select0, some o.panel.select1, some o.panel.select2, some o.panel.select3]
        else if sec.role = .panelStop then
          sec.fixed.map readEntry = [some o.panel.stop, some o.panel.reset, some o.panel.underway] ∧
          o.panel = { PanelInputs.blank with
            stop := o.panel.stop, reset := o.panel.reset, underway := o.panel.underway }
        else o.panel = PanelInputs.blank) := by
  rw [readOwn_lamps, ← readLamps_some_iff, ← eq_replicate_none_iff]
  obtain ⟨role, fixed, fns, lamps⟩ := sec
  obtain ⟨role', pumpStation, slots, lamps', units, runUp, idle, panel⟩ := o
  cases role with
  | unused => simp
  | monitor =>
    simp only [reduceCtorEq, if_false]
    constructor
    · rintro ⟨ls, read, h⟩
      cases h
      exact ⟨rfl, Role.noConfusion, read, ⟨rfl, rfl⟩, ⟨rfl, rfl, rfl⟩, rfl⟩
    · rintro ⟨rfl, -, read, ⟨rfl, rfl⟩, ⟨rfl, rfl, rfl⟩, rfl⟩
      exact ⟨_, read, rfl⟩
  | pump =>
    simp only [reduceCtorEq, if_false, if_true]
    constructor
    · rintro ⟨ls, read, h⟩
      split at h
      next inRange =>
        simp only [Bool.and_eq_true, within_iff, and_assoc] at inRange
        cases h
        exact ⟨rfl, Role.noConfusion, read, ⟨rfl, rfl⟩, ⟨rfl, rfl, rfl, by omega⟩, rfl⟩
      · cases h
    · rintro ⟨rfl, -, read, ⟨rfl, rfl⟩, ⟨rfl, rfl, rfl, inRange⟩, rfl⟩
      refine ⟨_, read, if_pos ?_⟩
      simp only [Bool.and_eq_true, within_iff]
      omega
  | motion =>
    simp only [reduceCtorEq, if_false, if_true]
    have station : ∀ n : Nat, n = pumpStation.val ↔ n ≤ 15 ∧ pumpStation = stationOf n := by
      intro n
      have := pumpStation.isLt
      rw [stationOf, fin_ofNat_eq_iff]
      omega
    rw [station, ← readFns_iff (records rfl)]
    constructor
    · rintro ⟨ls, read, h⟩
      obtain ⟨fs, all, h⟩ := Option.bind_eq_some_iff.mp h
      split at h
      next inRange =>
        cases h
        exact ⟨rfl, Role.noConfusion, read, ⟨⟨(within_iff.mp inRange).2, rfl⟩, fs, all, rfl⟩, ⟨rfl, rfl, rfl⟩, rfl⟩
      · cases h
    · rintro ⟨rfl, -, read, ⟨⟨inRange, rfl⟩, fs, all, rfl⟩, ⟨rfl, rfl, rfl⟩, rfl⟩
      exact ⟨_, read, Option.bind_eq_some_iff.mpr ⟨fs, all, if_pos (within_iff.mpr ⟨Nat.zero_le _, inRange⟩)⟩⟩
  | panelCommand =>
    simp only [reduceCtorEq, if_false, if_true]
    rw [show ∀ q : PanelInputs, [some q.openB, some q.closeB, some q.stop, some q.reset, some q.commandKey, some q.maintKey,
      some q.underway, some q.jogOpen, some q.jogClose, some q.select0, some q.select1, some q.select2, some q.select3] =
      [q.openB, q.closeB, q.stop, q.reset, q.commandKey, q.maintKey, q.underway, q.jogOpen, q.jogClose, q.select0, q.select1,
        q.select2, q.select3].map some from fun _ => rfl, ← readAll_some_iff]
    constructor
    · rintro ⟨ls, read, h⟩
      obtain ⟨es, all, h⟩ := Option.map_eq_some_iff.mp h
      cases h
      have size := (readAll_length all).trans (command rfl)
      exact ⟨rfl, Role.noConfusion, read, ⟨rfl, rfl⟩, ⟨rfl, rfl, rfl⟩,
        all.trans (congrArg some ((panelCommand_iff size _).mp rfl))⟩
    · rintro ⟨rfl, -, read, ⟨rfl, rfl⟩, ⟨rfl, rfl, rfl⟩, all⟩
      refine ⟨_, read, Option.map_eq_some_iff.mpr ⟨_, all, ?_⟩⟩
      rw [← (panelCommand_iff rfl panel).mpr rfl]
      rfl
  | panelStop =>
    simp only [reduceCtorEq, if_false, if_true]
    rw [show ∀ q : PanelInputs, [some q.stop, some q.reset, some q.underway] = [q.stop, q.reset, q.underway].map some from
      fun _ => rfl, ← readAll_some_iff]
    constructor
    · rintro ⟨ls, read, h⟩
      obtain ⟨es, all, h⟩ := Option.map_eq_some_iff.mp h
      cases h
      have size := (readAll_length all).trans (stop rfl)
      obtain ⟨entries, rest⟩ := (panelStop_iff size _).mp rfl
      exact ⟨rfl, Role.noConfusion, read, ⟨rfl, rfl⟩, ⟨rfl, rfl, rfl⟩, all.trans (congrArg some entries), rest⟩
    · rintro ⟨rfl, -, read, ⟨rfl, rfl⟩, ⟨rfl, rfl, rfl⟩, all, rest⟩
      refine ⟨_, read, Option.map_eq_some_iff.mpr ⟨_, all, ?_⟩⟩
      rw [← (panelStop_iff rfl panel).mpr ⟨rfl, rest⟩]
      rfl

end Sys2Proof.Machine
end

section
/-! The load checks in their order (R5 to R11). -/

namespace Sys2Proof.Machine

theorem readOwn_used {s : RawSection} {o : OwnSection} (h : readOwn s = some o) : o.role ≠ .unused := by
  obtain ⟨lamps, -, h⟩ := (readOwn_lamps s o).mp h
  split at h
  · cases h
  · obtain ⟨fs, -, h⟩ := Option.bind_eq_some_iff.mp h
    split at h <;> cases h
    exact Role.noConfusion
  · split at h <;> cases h
    exact Role.noConfusion
  · obtain ⟨es, -, rfl⟩ := Option.map_eq_some_iff.mp h
    exact Role.noConfusion
  · obtain ⟨es, -, rfl⟩ := Option.map_eq_some_iff.mp h
    exact Role.noConfusion
  · cases h
    exact Role.noConfusion

/-- The profiles of every function that is kept lie in their ranges. -/
theorem readOwn_inRange {s : RawSection} {o : OwnSection} (h : readOwn s = some o) {x : FnSetup} (m : x ∈ o.configured) :
    x.openProfile.inRange = true ∧ x.closeProfile.inRange = true := by
  obtain ⟨f, -, e⟩ := List.mem_filterMap.mp m
  obtain ⟨w, -, r⟩ := readOwn_fn h e
  exact readFn_inRange r

/-! ## Calibration (R8) -/

/-- Every POSITIONED function has its span. -/
def OwnSection.Spans (o : OwnSection) : Prop := ∀ x ∈ o.configured, x.kind = .positioned → 500 ≤ apart x.c0 x.c1

theorem calibrated_iff (x : FnSetup) : calibrated x = true ↔ (x.kind = .positioned → 500 ≤ apart x.c0 x.c1) := by
  have span : Config.minSpan = 500 := rfl
  cases k : x.kind <;> simp [calibrated, k, span]

theorem spans_iff (o : OwnSection) : o.configured.all calibrated = true ↔ o.Spans := by
  simp only [List.all_eq_true, calibrated_iff, OwnSection.Spans]

/-! ## References (R9) -/

/-- What R9 asks of a term. -/
def TermRefers (own : StationId) (o : OwnSection) (briefs : Vector Brief 16) (t : Term) : Prop :=
  (t.station = own → o.role = .motion → ∀ f : FnId, t.selector.fn = some f → (o.fns[f]).isSome = true) ∧
  (∀ i : InputId, t.selector = .localInput i → t.station = own) ∧ (briefs[t.station]).role ≠ .unused ∧
  (t.station ≠ own → (briefs[t.station]).role ≠ .monitor)

/-- What R9 asks of the own section. -/
def References (own : StationId) (o : OwnSection) (briefs : Vector Brief 16) : Prop :=
  (∀ t ∈ o.terms, TermRefers own o briefs t) ∧
  (∀ (f g : FnId) (n : StationId) (x : FnSetup), o.fns[f] = some x → x.pair = some (n, g) →
    x.kind = .positioned ∧ ¬(n = own ∧ g = f) ∧ (briefs[n]).kinds[g] = some .positioned ∧
    (briefs[n]).pairs[g] = some (own, f)) ∧
  (o.role = .motion → (briefs[o.pumpStation]).role = .pump)

theorem isLocal_iff (s : Selector) (p : Prop) : (s.isLocal = true → p) ↔ ∀ i : InputId, s = .localInput i → p := by
  cases s <;> simp [Selector.isLocal]

theorem termHolds_iff (own : StationId) (o : OwnSection) (briefs : Vector Brief 16) (t : Term) :
    termHolds own o briefs t = true ↔ TermRefers own o briefs t := by
  unfold termHolds TermRefers
  rw [← isLocal_iff]
  generalize t.selector.isLocal = l
  cases t.selector.fn with
  | none =>
    simp only [Bool.and_eq_true, Bool.not_eq_true', Bool.and_eq_false_imp, beq_iff_eq, bne_eq_false_iff_eq, bne_iff_ne,
      beq_eq_false_iff_ne, reduceCtorEq, false_imp_iff, imp_true_iff, and_assoc]
  | some f =>
    simp only [Bool.and_eq_true, Bool.not_eq_true', Bool.and_eq_false_imp, beq_iff_eq, bne_eq_false_iff_eq, bne_iff_ne,
      beq_eq_false_iff_ne, Option.some.injEq, forall_eq', Option.isNone_eq_false_iff, and_imp, and_assoc]

theorem pairingHolds_iff (own : StationId) (briefs : Vector Brief 16) (f : FnId) (x : FnSetup) :
    pairingHolds own briefs f x = true ↔ ∀ (g : FnId) (n : StationId), x.pair = some (n, g) →
      x.kind = .positioned ∧ ¬(n = own ∧ g = f) ∧ (briefs[n]).kinds[g] = some .positioned ∧
      (briefs[n]).pairs[g] = some (own, f) := by
  unfold pairingHolds
  cases x.pair with
  | none => simp
  | some p =>
    obtain ⟨n, g⟩ := p
    simp only [Bool.and_eq_true, beq_iff_eq, Bool.not_eq_true', Bool.and_eq_false_imp, beq_eq_false_iff_ne, and_assoc,
      Option.some.injEq, Prod.mk.injEq, not_and]
    constructor
    · rintro h g' n' ⟨rfl, rfl⟩
      exact h
    · exact fun h => h g n ⟨rfl, rfl⟩

theorem all_slots_iff (p : FnId → Bool) : slots.all p = true ↔ ∀ f : FnId, p f = true := by
  rw [List.all_eq_true]
  exact ⟨fun h f => h f (mem_slots f), fun h f _ => h f⟩

theorem referencesHold_iff (own : StationId) (o : OwnSection) (briefs : Vector Brief 16) :
    referencesHold own o briefs = true ↔ References own o briefs := by
  have pump : (o.role != .motion || briefs[o.pumpStation].role == .pump) = true ↔
      (o.role = .motion → (briefs[o.pumpStation]).role = .pump) := by
    rw [Bool.or_eq_true, bne_iff_ne, beq_iff_eq]
    tauto
  unfold referencesHold References
  rw [Bool.and_eq_true, Bool.and_eq_true, pump, all_slots_iff, List.all_eq_true, and_assoc]
  refine and_congr (by simp only [termHolds_iff]) (and_congr (forall_congr' fun f => ?_) Iff.rfl)
  cases o.fns[f] with
  | none => simp
  | some x =>
    show pairingHolds own briefs f x = true ↔ _
    rw [pairingHolds_iff]
    constructor
    · rintro pairing g n y e
      cases e
      exact pairing g n
    · exact fun pairing g n => pairing g n x rfl

/-! ## Subscriptions (R10) -/

/-- The stations that the own section subscribes to. -/
def Subscribed (own : StationId) (o : OwnSection) (briefs : Vector Brief 16) (n : StationId) : Prop :=
  n ≠ own ∧ ((∃ t ∈ o.terms, t.station = n) ∨ (∃ x ∈ o.configured, ∃ g : FnId, x.pair = some (n, g)) ∨
    (o.role = .motion ∧ o.pumpStation = n) ∨ (o.role = .pump ∧ (briefs[n]).role = .motion))

theorem mem_subscriptions_iff (own : StationId) (o : OwnSection) (briefs : Vector Brief 16) (n : StationId) :
    n ∈ subscriptions own o briefs ↔ Subscribed own o briefs n := by
  have station : n ∈ stations := by fin_cases n <;> decide
  unfold subscriptions Subscribed
  simp only [List.mem_filter, station, true_and, Bool.and_eq_true, Bool.or_eq_true, bne_iff_ne, List.any_eq_true, beq_iff_eq,
    or_assoc]
  refine and_congr Iff.rfl (or_congr Iff.rfl (or_congr (exists_congr fun x => and_congr Iff.rfl ?_) Iff.rfl))
  cases x.pair with
  | none => simp
  | some p => simp [Prod.ext_iff]

theorem subscriptions_nodup (own : StationId) (o : OwnSection) (briefs : Vector Brief 16) :
    (subscriptions own o briefs).Nodup :=
  List.Nodup.filter _ (by decide)

/-- More than eight stations are subscribed to exactly where the subscription set has more than eight. -/
theorem tooMany_iff (own : StationId) (o : OwnSection) (briefs : Vector Brief 16) :
    (∃ ns : List StationId, ns.Nodup ∧ 8 < ns.length ∧ ∀ n ∈ ns, Subscribed own o briefs n) ↔
      Config.maxSubscription < (subscriptions own o briefs).length := by
  constructor
  · rintro ⟨ns, once, many, all⟩
    have le := (once.subperm (fun n m => (mem_subscriptions_iff own o briefs n).mpr (all n m))).length_le
    exact Nat.lt_of_lt_of_le many le
  · exact fun many => ⟨_, subscriptions_nodup own o briefs, many, fun n => (mem_subscriptions_iff own o briefs n).mp⟩

/-! ## The load -/

theorem loadImage_fingerprint (own : StationId) {h : Header} {body : List Byte} (differs : crc32 body ≠ h.fingerprint) :
    loadImage own h body = { ownRole := none, result := .error .fingerprint } :=
  if_pos differs

section
variable {own : StationId} {h : Header} {body : List Byte} (same : crc32 body = h.fingerprint)
include same

/-- A failure of the walk is the load's. -/
theorem loadImage_walk {e : LoadFault} (fails : (walkFrom own 16 0 (body.drop 13)).result = .error e) :
    loadImage own h body = { ownRole := (walkFrom own 16 0 (body.drop 13)).ownRole, result := .error e } := by
  have fails : (walk own (body.drop Config.timingBytes)).result = .error e := fails
  unfold loadImage
  rw [if_neg (fun differs => differs same)]
  dsimp only
  rw [fails]
  rfl

variable {ss : List RawSection} (walked : (walkFrom own 16 0 (body.drop 13)).result = .ok ss)
include walked

/-- The checks that follow a walk that is good. -/
theorem loadImage_walked : loadImage own h body =
    match (ss[own.val]?).bind readOwn with
    | none => { ownRole := (walkFrom own 16 0 (body.drop 13)).ownRole, result := .error .range }
    | some o =>
        if !(readTiming body).inRange then
          { ownRole := (walkFrom own 16 0 (body.drop 13)).ownRole, result := .error .range }
        else if !o.configured.all calibrated then
          { ownRole := (walkFrom own 16 0 (body.drop 13)).ownRole, result := .error .calibration }
        else if !referencesHold own o (briefsOf ss) then
          { ownRole := (walkFrom own 16 0 (body.drop 13)).ownRole, result := .error .terms }
        else if Config.maxSubscription < (subscriptions own o (briefsOf ss)).length then
          { ownRole := (walkFrom own 16 0 (body.drop 13)).ownRole, result := .error .subscription }
        else
          { ownRole := (walkFrom own 16 0 (body.drop 13)).ownRole
            result := .ok { timing := readTiming body, own := o, subscription := subscriptions own o (briefsOf ss),
                            fingerprint := h.fingerprint, briefs := briefsOf ss } } := by
  have walked : (walk own (body.drop Config.timingBytes)).result = .ok ss := walked
  unfold loadImage
  rw [if_neg (fun differs => differs same)]
  dsimp only
  rw [walked]
  rfl

theorem loadImage_range (bad : (ss[own.val]?).bind readOwn = none ∨ (readTiming body).inRange = false) :
    loadImage own h body = { ownRole := (walkFrom own 16 0 (body.drop 13)).ownRole, result := .error .range } := by
  rw [loadImage_walked same walked]
  rcases bad with unread | timing
  · rw [unread]
  · rw [timing]
    cases (ss[own.val]?).bind readOwn <;> rfl

variable {o : OwnSection} (read : (ss[own.val]?).bind readOwn = some o) (timing : (readTiming body).inRange = true)
include read timing

theorem loadImage_calibration (bad : ¬o.Spans) :
    loadImage own h body = { ownRole := (walkFrom own 16 0 (body.drop 13)).ownRole, result := .error .calibration } := by
  have fails : o.configured.all calibrated = false := Bool.eq_false_iff.mpr (fun c => bad ((spans_iff o).mp c))
  rw [loadImage_walked same walked, read, timing]
  dsimp only
  rw [fails]
  rfl

variable (spans : o.Spans)
include spans

theorem loadImage_terms (bad : ¬References own o (briefsOf ss)) :
    loadImage own h body = { ownRole := (walkFrom own 16 0 (body.drop 13)).ownRole, result := .error .terms } := by
  have fails : referencesHold own o (briefsOf ss) = false :=
    Bool.eq_false_iff.mpr (fun c => bad ((referencesHold_iff own o _).mp c))
  rw [loadImage_walked same walked, read, timing]
  dsimp only
  rw [(spans_iff o).mpr spans, fails]
  rfl

variable (references : References own o (briefsOf ss))
include references

theorem loadImage_subscription (bad : Config.maxSubscription < (subscriptions own o (briefsOf ss)).length) :
    loadImage own h body = { ownRole := (walkFrom own 16 0 (body.drop 13)).ownRole, result := .error .subscription } := by
  rw [loadImage_walked same walked, read, timing]
  dsimp only
  rw [(spans_iff o).mpr spans, (referencesHold_iff own o _).mpr references]
  exact if_pos bad

theorem loadImage_good (few : ¬Config.maxSubscription < (subscriptions own o (briefsOf ss)).length) :
    loadImage own h body =
      { ownRole := (walkFrom own 16 0 (body.drop 13)).ownRole
        result := .ok { timing := readTiming body, own := o, subscription := subscriptions own o (briefsOf ss),
                        fingerprint := h.fingerprint, briefs := briefsOf ss } } := by
  rw [loadImage_walked same walked, read, timing]
  dsimp only
  rw [(spans_iff o).mpr spans, (referencesHold_iff own o _).mpr references]
  exact if_neg few

end

end Sys2Proof.Machine
end

section
/-! The load checks in their order with their classes (R5 to R11). -/

namespace Sys2Proof.Machine

/-- One section of the walk: how it fails, and what a good one adds. -/
theorem walkFrom_section (own : StationId) (left index : Nat) {bs : List Byte} (three : 3 ≤ bs.length)
    (long : 3 ≤ be16 bs 0) (inside : be16 bs 0 ≤ bs.length) {role : Role}
    (code : natAt bs 2 = ([.unused, .motion, .pump, .panelCommand, .panelStop, .monitor] : List Role).idxOf role) :
    let content := rawBody role ((bs.take (be16 bs 0)).drop 3)
    let here := if index = own.val then some role else none
    let later := walkFrom own left (index + 1) (bs.drop (be16 bs 0))
    (∀ e : LoadFault, content = .error e →
      walkFrom own (left + 1) index bs = { result := .error e, ownRole := here }) ∧
    (∀ sec : RawSection, content = .ok sec →
      (∀ e : LoadFault, later.result = .error e →
        walkFrom own (left + 1) index bs = { result := .error e, ownRole := here.or later.ownRole }) ∧
      (∀ ss : List RawSection, later.result = .ok ss →
        walkFrom own (left + 1) index bs = { result := .ok (sec :: ss), ownRole := here.or later.ownRole })) := by
  intro content here later
  rw [walkFrom_cons own left index (role := role) (by omega) (by rw [code, roleOf_code])]
  refine ⟨fun e fails => ?_, fun sec good => ⟨fun e fails => ?_, fun ss walked => ?_⟩⟩
  · rw [show rawBody role ((bs.take (be16 bs 0)).drop 3) = .error e from fails]
  · rw [show rawBody role ((bs.take (be16 bs 0)).drop 3) = .ok sec from good]
    dsimp only
    rw [show (walkFrom own left (index + 1) (bs.drop (be16 bs 0))).result = .error e from fails]
  · rw [show rawBody role ((bs.take (be16 bs 0)).drop 3) = .ok sec from good]
    dsimp only
    rw [show (walkFrom own left (index + 1) (bs.drop (be16 bs 0))).result = .ok ss from walked]

/-- A lamp block with bytes left over after a count of zero is FORMAT. -/
theorem rawLamps_zero_left {rest : List Byte} (h : rest ≠ []) : rawLamps (0 :: rest) = .error .format :=
  rawLamps_left (n := 0) (ls := []) (Nat.zero_le 8) (fun _ m => absurd m List.not_mem_nil) rfl h

/-- The layout of a section, field by field. -/
theorem rawBody_layout (role : Role) (bs : List Byte) (sec : RawSection) : rawBody role bs = .ok sec ↔
    sec.role = role ∧ sec.fns.length = (if role = .motion then 4 else 0) ∧ sec.fixed.length = fixedBytes role ∧
    bs = (if role = .unused then [] else sec.fixed ++ sec.fns.flatMap RawFn.bytes ++
      BitVec.ofNat 8 sec.lamps.length :: sec.lamps.flatMap RawLamp.bytes) ∧
    sec.lamps.length ≤ (if role = .unused then 0 else 8) ∧ (∀ r ∈ sec.fns, r.Good) ∧ ∀ l ∈ sec.lamps, l.Good := by
  rw [rawBody_ok_iff]
  constructor
  · rintro ⟨rfl, ⟨records, fixed, few, goodF, goodL⟩, layout⟩
    exact ⟨rfl, records, fixed, layout, few, goodF, goodL⟩
  · rintro ⟨rfl, records, fixed, layout, few, goodF, goodL⟩
    exact ⟨rfl, ⟨records, fixed, few, goodF, goodL⟩, layout⟩

/-- Settles O6, check by check: each parser by the layout of what it reads, the load by its checks in turn. -/
theorem loadChecksInOrder : Obligations.LoadChecksInOrder := by
  refine ⟨fun own left index bs => ⟨by rw [walkFrom], walkFrom_short own left index, fun three long inside =>
      ⟨fun code => walkFrom_role own left index (by omega) (roleOf_none code),
        fun role code => walkFrom_section own left index three long inside code⟩⟩,
    fun k n rest => ⟨rfl, rfl, rawFn_kind rest, rawFn_short, rawFn_many, rawFn_cut, rawLamps_many rest, rawLamps_zero_left,
      rfl, rfl, rawLamp_many rest, rawLamp_cut⟩,
    ⟨rawBody_layout, ?sections, ?records, ?lamps⟩, fun b => ⟨readEntry_input b, readEntry_none b⟩, ?terms,
    fun bs => ⟨rfl, rfl⟩, profile_inRange_iff, timing_inRange_iff, readFnSetup_some_iff, readOwn_some_iff, ?load⟩
  case sections =>
    exact fun role b bs e => ⟨rfl, rawBody_short, rawBody_lamps⟩
  case records =>
    exact fun p rs rest e good => ⟨rawMotion_record good, rawMotion_lamps good⟩
  case lamps =>
    exact fun n ls rest e few good => ⟨rawLamps_error few good, rawLamps_left few good⟩
  case terms =>
    intro a b c d e t
    rw [readTerm_some_iff]
    obtain ⟨station, selector, operator, hold, safe, invert⟩ := t
    cases selector with
    | pumpState p => cases p <;> exact Iff.rfl
    | stationFlags | fnMotion | fnEnd | fnFault | fnPosition | panelFlags | pumpCapacity | localInput => exact Iff.rfl
  case load =>
    intro own h body
    refine ⟨loadImage_fingerprint own, fun same => ⟨fun e fails => ⟨walkFrom_class own _ _ _ e fails, loadImage_walk same fails⟩,
      fun ss walked => ⟨loadImage_range same walked, fun o read timing => ?_⟩⟩⟩
    obtain ⟨sec, -, kept⟩ := Option.bind_eq_some_iff.mp read
    refine ⟨readOwn_used kept, fun x => readOwn_inRange kept, loadImage_calibration same walked read timing,
      loadImage_terms same walked read timing, fun spans references many =>
        loadImage_subscription same walked read timing spans references ((tooMany_iff own o _).mp many),
      fun spans references few => ⟨_, loadImage_good same walked read timing spans references
        (fun many => few ((tooMany_iff own o _).mpr many)), rfl, rfl, rfl, rfl, subscriptions_nodup own o _,
        Nat.le_of_not_lt (fun many => few ((tooMany_iff own o _).mpr many)), mem_subscriptions_iff own o _⟩⟩

end Sys2Proof.Machine
end

section
/-! The receive path over a wave driven at one bit time (R17, R20 to R26): what the line carries at each bit time, the edges
of the start mark and of SYNC, the cells in turn, and the frame. -/

namespace Sys2Proof.Machine

/-- A list of levels on the line, each for `t` ticks. -/
def driven (t : Nat) (levels : List Bool) : Wave := levels.map (fun d => { dominant := d, ticks := t })

theorem driveWave_eq (rate : BitRate) (levels : List Bool) : driveWave rate levels = driven (bitTicks rate) levels := rfl

/-! ## Levels and edges -/

theorem dominantAt_driven {t r : Nat} (within : r < t) (levels : List Bool) (i : Nat) :
    dominantAt (driven t levels) (i * t + r) = levels.getD i false := by
  induction levels generalizing i with
  | nil => rfl
  | cons d ds ih =>
    cases i with
    | zero => simp [driven, dominantAt, within]
    | succ i =>
      have past : (i + 1) * t + r = t + (i * t + r) := by ring
      rw [List.getD_cons_succ, ← ih i, past]
      simp [driven, dominantAt]

/-- The next dominant moment is the beginning of the first dominant level, or the moment itself within that level. -/
theorem nextDominant_from {t start p : Nat} {levels : List Bool} (origin : Nat) (dominant : levels.getD p false = true)
    (ends : start < origin + (p + 1) * t)
    (before : ∀ j < p, start < origin + (j + 1) * t → levels.getD j false = false) :
    nextDominant (driven t levels) origin start = some (max (origin + p * t) start) := by
  induction levels generalizing origin p with
  | nil => cases dominant
  | cons d ds ih =>
    show (if d = true ∧ start < origin + t then _ else nextDominant (driven t ds) (origin + t) start) = _
    have shift : ∀ j : Nat, origin + (j + 1 + 1) * t = origin + t + (j + 1) * t := fun j => by ring
    cases p with
    | zero => rw [if_pos ⟨dominant, by omega⟩, Nat.zero_mul, Nat.add_zero]
    | succ p =>
      have passed : ¬(d = true ∧ start < origin + t) := fun ⟨on, early⟩ =>
        absurd ((before 0 p.succ_pos (by omega)).symm.trans on) Bool.false_ne_true
      rw [if_neg passed, ih (origin + t) dominant (by rw [← shift]; exact ends)
        (fun j less early => before (j + 1) (by omega) (by rw [shift]; exact early))]
      congr 2; ring

/-- The next recessive moment, the same way; past its end a wave is recessive. -/
theorem nextRecessive_from {t start p : Nat} {levels : List Bool} (origin : Nat) (recessive : levels.getD p false = false)
    (ends : start < origin + (p + 1) * t)
    (before : ∀ j < p, start < origin + (j + 1) * t → levels.getD j false = true) :
    nextRecessive (driven t levels) origin start = max (origin + p * t) start := by
  induction levels generalizing origin p with
  | nil =>
    show max origin start = _
    cases p with
    | zero => rw [Nat.zero_mul, Nat.add_zero]
    | succ p =>
      have late : ¬start < origin + (p + 1) * t := fun early => Bool.false_ne_true (before p p.lt_succ_self early)
      omega
  | cons d ds ih =>
    show (if d = false ∧ start < origin + t then _ else nextRecessive (driven t ds) (origin + t) start) = _
    have shift : ∀ j : Nat, origin + (j + 1 + 1) * t = origin + t + (j + 1) * t := fun j => by ring
    cases p with
    | zero => rw [if_pos ⟨recessive, by omega⟩, Nat.zero_mul, Nat.add_zero]
    | succ p =>
      have passed : ¬(d = false ∧ start < origin + t) := fun ⟨off, early⟩ =>
        absurd (off.symm.trans (before 0 p.succ_pos (by omega))) Bool.false_ne_true
      rw [if_neg passed, ih (origin + t) recessive (by rw [← shift]; exact ends)
        (fun j less early => before (j + 1) (by omega) (by rw [shift]; exact early))]
      congr 1; ring

/-- A level that ends after a moment of bit time `q` is not one before it. -/
theorem le_of_moment_lt {q r t j : Nat} (early : q * t + r < 0 + (j + 1) * t) : q ≤ j := by
  by_contra less
  have := Nat.mul_le_mul_right t (show j + 1 ≤ q by omega)
  omega

/-- A moment of bit time `q` lies before the end of that level and of every later one. -/
theorem moment_lt {q r t p : Nat} (within : r < t) (order : q ≤ p) : q * t + r < 0 + (p + 1) * t := by
  have := Nat.mul_le_mul_right t order
  rw [Nat.add_mul]
  omega

section
variable {t r q p : Nat} {levels : List Bool} (within : r < t) (order : q ≤ p)
include within order

theorem nextDominant_driven (dominant : levels.getD p false = true)
    (between : ∀ j, q ≤ j → j < p → levels.getD j false = false) :
    nextDominant (driven t levels) 0 (q * t + r) = some (max (p * t) (q * t + r)) := by
  rw [nextDominant_from 0 dominant (moment_lt within order)
    (fun j less early => between j (le_of_moment_lt early) less), Nat.zero_add]

theorem nextRecessive_driven (recessive : levels.getD p false = false)
    (between : ∀ j, q ≤ j → j < p → levels.getD j false = true) :
    nextRecessive (driven t levels) 0 (q * t + r) = max (p * t) (q * t + r) := by
  rw [nextRecessive_from 0 recessive (moment_lt within order)
    (fun j less early => between j (le_of_moment_lt early) less), Nat.zero_add]
end

/-! ## Cells (R22) -/

theorem getD_of_drop {levels rest : List Bool} {i : Nat} (h : levels.drop i = rest) (j : Nat) :
    levels.getD (i + j) false = rest.getD j false := by
  rw [← h, List.getD_eq_getElem?_getD, List.getD_eq_getElem?_getD, List.getElem?_drop]

/-- Data bit k of a cell is driven recessive for 1, most significant first (R17, R22). -/
theorem cellLevels_data (b : Byte) (rest : List Bool) {k : Nat} (h : k < 8) :
    (cellLevels b ++ rest).getD (k + 1) false = !bit b (7 - k) := by
  interval_cases k <;> rfl

/-- The data bits read so far are the byte's most significant ones. -/
theorem cellValue_driven {t i : Nat} {levels rest : List Bool} {b : Byte} (pos : 0 < t)
    (cell : levels.drop i = cellLevels b ++ rest) {k : Nat} (h : k ≤ 8) :
    cellValue (driven t levels) t (i * t) k = b.toNat / 2 ^ (8 - k) := by
  induction k with
  | zero => exact (Nat.div_eq_of_lt b.isLt).symm
  | succ k ih =>
    have place : i * t + (k + 1) * t + t / 2 = (i + (k + 1)) * t + t / 2 := by ring
    have level : dominantAt (driven t levels) (i * t + (k + 1) * t + t / 2) = !bit b (7 - k) := by
      rw [place, dominantAt_driven (by omega), getD_of_drop cell, cellLevels_data b rest h]
    rw [cellValue, level, ih (by omega), show 8 - k = 7 - k + 1 by omega, show 8 - (k + 1) = 7 - k by omega, Nat.pow_succ,
      ← Nat.div_div_eq_div_mul]
    have digit : (if (!bit b (7 - k)) = true then 0 else 1) = b.toNat / 2 ^ (7 - k) % 2 := by
      rw [← bit_toNat]; cases bit b (7 - k) <;> rfl
    rw [digit, Nat.mul_comm, Nat.div_add_mod]

/-- A cell that follows a stop bit at once is read as its byte. -/
theorem readCell_driven {t i : Nat} {levels rest : List Bool} {b : Byte} (pos : 0 < t)
    (cell : levels.drop (i + 9) = false :: (cellLevels b ++ rest)) :
    readCell (driven t levels) t (i * t) = .ok ((i + 10) * t, b) := by
  have data : levels.drop (i + 10) = cellLevels b ++ rest := by
    rw [← List.drop_drop (i := 1) (j := i + 9), cell]; rfl
  have half : t / 2 < t := by omega
  have later : (i + 10) * t = (i + 9) * t + t := by ring
  have edge : nextDominant (driven t levels) 0 (i * t + 9 * t + t / 2) = some ((i + 10) * t) := by
    rw [show i * t + 9 * t + t / 2 = (i + 9) * t + t / 2 by ring,
      nextDominant_driven half (show i + 9 ≤ i + 10 by omega) (getD_of_drop data 0)
        (fun j low high => by rw [show j = i + 9 by omega]; exact getD_of_drop cell 0),
      Nat.max_eq_left (by rw [later]; omega)]
  have startBit : dominantAt (driven t levels) ((i + 10) * t + t / 2) = true := by
    rw [dominantAt_driven half]; exact getD_of_drop data 0
  have stopBit : dominantAt (driven t levels) ((i + 10) * t + 9 * t + t / 2) = false := by
    rw [← Nat.add_mul, dominantAt_driven half]; exact getD_of_drop data 9
  unfold readCell
  rw [edge]
  dsimp only
  rw [if_neg (by rw [← Nat.add_mul]; exact Nat.not_lt.mpr (Nat.mul_le_mul_right t (by omega))), startBit, if_neg (by decide),
    stopBit, if_neg (by decide), cellValue_driven pos data (le_refl 8), Nat.sub_self, Nat.pow_zero, Nat.div_one, byte,
    BitVec.ofNat_toNat, BitVec.setWidth_eq]

/-- Cells driven back to back are read in turn, and the stop bit of the last is what the next cell follows. -/
theorem readCells_driven {t i : Nat} {levels rest : List Bool} {bytes : List Byte} (pos : 0 < t)
    (cells : levels.drop (i + 9) = false :: (bytes.flatMap cellLevels ++ rest)) :
    readCells (driven t levels) t bytes.length (i * t) = .ok ((i + 10 * bytes.length) * t, bytes) ∧
      levels.drop (i + 10 * bytes.length + 9) = false :: rest := by
  induction bytes generalizing i with
  | nil => exact ⟨rfl, cells⟩
  | cons b bs ih =>
    rw [List.flatMap_cons, List.append_assoc] at cells
    have later : levels.drop (i + 10 + 9) = false :: (bs.flatMap cellLevels ++ rest) := by
      rw [show i + 10 + 9 = i + 9 + 10 by omega, ← List.drop_drop, cells]; rfl
    obtain ⟨others, stop⟩ := ih later
    rw [List.length_cons, show i + 10 * (bs.length + 1) = i + 10 + 10 * bs.length by ring]
    refine ⟨?_, stop⟩
    rw [readCells, readCell_driven pos cells]
    dsimp only
    rw [others]

/-! ## The frame (R20, R21, R23, R24) -/

/-- The levels of the start mark, the release and SYNC in turn: 12 dominant, 2 recessive and the cell of 0x66 (section 2.2). -/
def leadLevel (j : Nat) : Bool := decide (j < 12 ∨ j = 14 ∨ j = 15 ∨ j = 18 ∨ j = 19 ∨ j = 22)

theorem frameLevels_lead (bytes : List Byte) {j : Nat} (h : j < 24) : (frameLevels bytes).getD j false = leadLevel j := by
  interval_cases j <;> rfl

section
variable {t q p : Nat} {bytes : List Byte} (pos : 0 < t) (place : q ≤ p ∧ p < 24)
include pos place

theorem nextDominant_lead (dominant : leadLevel p = true) (between : ∀ j < p, q ≤ j → leadLevel j = false) :
    nextDominant (driven t (frameLevels bytes)) 0 (q * t) = some (p * t) := by
  have order := Nat.mul_le_mul_right t place.1
  rw [← Nat.add_zero (q * t), nextDominant_driven pos place.1 (by rw [frameLevels_lead bytes place.2]; exact dominant)
    (fun j first less => by rw [frameLevels_lead bytes (by omega)]; exact between j less first), Nat.max_eq_left (by omega)]

theorem nextRecessive_lead (recessive : leadLevel p = false) (between : ∀ j < p, q ≤ j → leadLevel j = true) :
    nextRecessive (driven t (frameLevels bytes)) 0 (q * t) = p * t := by
  have order := Nat.mul_le_mul_right t place.1
  rw [← Nat.add_zero (q * t), nextRecessive_driven pos place.1 (by rw [frameLevels_lead bytes place.2]; exact recessive)
    (fun j first less => by rw [frameLevels_lead bytes (by omega)]; exact between j less first), Nat.max_eq_left (by omega)]
end

theorem frameLevels_cells (bytes : List Byte) : (frameLevels bytes).drop 23 = false :: bytes.flatMap cellLevels := rfl

theorem idByte_toNat {kind : Nat} (h : kind < 16) (n : StationId) : (idByte kind n.val).toNat = kind * 16 + n.val := by
  rw [idByte, byte, BitVec.toNat_ofNat, Nat.mod_eq_of_lt (by omega)]

theorem headerByte_toNat {edition len : Nat} (e : edition < 8) (l : len < 32) :
    (headerByte edition len).toNat = edition * 32 + len := by
  rw [headerByte, byte, BitVec.toNat_ofNat, Nat.mod_eq_of_lt (by omega)]

/-- What a receiver takes from an ID byte (R23). -/
theorem idFields (kind : Nat) (n : StationId) :
    (kind * 16 + n.val) / 16 = kind ∧ stationOf ((kind * 16 + n.val) % 16) = n := by
  refine ⟨by omega, ?_⟩
  rw [show (kind * 16 + n.val) % 16 = n.val by omega]
  exact Fin.ofNat_val_eq_self n

/-- What a receiver takes from a HEADER byte (R23). -/
theorem headerFields (edition : Nat) {len : Nat} (l : len < 32) :
    (edition * 32 + len) / 32 = edition ∧ (edition * 32 + len) % 32 = len := by
  omega

/-- From the SYNC edge on, at the bit time it is driven at: the cells of ID and HEADER, of DATA and of CRC in turn (R22 to R24). -/
theorem readFrame_driven {kind edition t : Nat} {n : StationId} {data : List Byte} (k : kind < 16) (e : edition < 8)
    (few : data.length ≤ 20) (pos : 0 < t) :
    readFrame (driven t (frameLevels (frameBytes kind n.val edition data))) t (14 * t) =
      .good { kind := kind, station := n, edition := edition, data := data }
        { start := (64 + 10 * data.length) * t, length := t } := by
  obtain ⟨head, hd⟩ : ∃ head, head = [idByte kind n.val, headerByte edition data.length] := ⟨_, rfl⟩
  have cells : (frameLevels (frameBytes kind n.val edition data)).drop (14 + 9) = false ::
      (head.flatMap cellLevels ++ (data.flatMap cellLevels ++ ((crc16Cells (head ++ data)).flatMap cellLevels ++ []))) := by
    rw [frameLevels_cells, List.append_nil, ← List.flatMap_append, ← List.flatMap_append, hd]
    rfl
  obtain ⟨heads, afterHead⟩ := readCells_driven pos cells
  obtain ⟨datas, afterData⟩ := readCells_driven pos afterHead
  obtain ⟨checks, -⟩ := readCells_driven pos afterData
  have two : head.length = 2 := by rw [hd]; rfl
  have idField : natAt head 0 = kind * 16 + n.val := by rw [hd]; exact idByte_toNat k n
  have header : natAt head 1 = edition * 32 + data.length := by rw [hd]; exact headerByte_toNat e (by omega)
  obtain ⟨kindField, stationField⟩ := idFields kind n
  obtain ⟨editionField, lengthField⟩ := headerFields edition (len := data.length) (by omega)
  have stop : dominantAt (driven t (frameLevels (frameBytes kind n.val edition data))) (14 * t + 9 * t + t / 2) = false := by
    rw [← Nat.add_mul, dominantAt_driven (by omega), frameLevels_lead _ (by omega)]; rfl
  rw [two] at heads datas checks
  unfold readFrame
  rw [stop, if_neg Bool.false_ne_true, heads]
  dsimp only
  rw [idField, header, lengthField, if_neg (show ¬Config.maxData < data.length from Nat.not_lt.mpr few), datas]
  dsimp only
  rw [show readCells _ t 2 _ = _ from checks]
  dsimp only
  rw [if_pos rfl, kindField, stationField, editionField]
  have slot : (14 + 10 * 2 + 10 * data.length + 10 * (crc16Cells (head ++ data)).length) * t + 10 * t =
      (64 + 10 * data.length) * t := by
    rw [show (crc16Cells (head ++ data)).length = 2 from rfl]; ring
  rw [slot]

/-- The edges of SYNC give the bit time at which it was driven (R21). -/
theorem readSync_driven {bt t : Nat} {bytes : List Byte} (pos : 0 < t) (low : 15 * bt ≤ 16 * t) (high : 16 * t ≤ 17 * bt) :
    readSync bt (driven t (frameLevels bytes)) (14 * t) = readFrame (driven t (frameLevels bytes)) t (14 * t) := by
  have span : 22 * t - 14 * t = 8 * t := by omega
  have measured : roundHalfUp (8 * t) 8 = t := by unfold roundHalfUp; omega
  unfold readSync
  rw [nextRecessive_lead pos (p := 16) (q := 14) (by decide) (by decide) (by decide),
    nextDominant_lead pos (p := 18) (q := 16) (by decide) (by decide) (by decide)]
  dsimp only
  rw [nextRecessive_lead pos (p := 20) (q := 18) (by decide) (by decide) (by decide),
    nextDominant_lead pos (p := 22) (q := 20) (by decide) (by decide) (by decide)]
  dsimp only
  rw [span, if_neg (by omega), measured]

/-- Within a sixteenth of the nominal bit time the start mark passes, and SYNC begins at its place (R20, R21). -/
theorem receive_driven {rate : BitRate} {t : Nat} {bytes : List Byte} (low : 15 * bitTicks rate ≤ 16 * t)
    (high : 16 * t ≤ 17 * bitTicks rate) :
    receive rate (driven t (frameLevels bytes)) = readFrame (driven t (frameLevels bytes)) t (14 * t) := by
  have bit_pos : 0 < bitTicks rate := by cases rate <;> decide
  have pos : 0 < t := by omega
  have run : nextRecessive (driven t (frameLevels bytes)) 0 0 = 12 * t := by
    rw [← nextRecessive_lead pos (bytes := bytes) (p := 12) (q := 0) (by decide) (by decide) (by decide), Nat.zero_mul]
  have first : dominantAt (driven t (frameLevels bytes)) 0 = true := by
    have start := dominantAt_driven pos (frameLevels bytes) 0
    rw [Nat.zero_mul] at start
    exact start
  have long : Config.minMarkBits ≤ 12 * t / bitTicks rate := by
    refine (Nat.le_div_iff_mul_le bit_pos).mpr ?_
    unfold Config.minMarkBits; omega
  have short : 12 * t / bitTicks rate ≤ Config.maxMarkBits := by
    refine Nat.le_of_lt_succ ((Nat.div_lt_iff_lt_mul bit_pos).mpr ?_)
    unfold Config.maxMarkBits; omega
  unfold receive
  dsimp only
  rw [first, if_neg (by decide), run, if_neg (by omega), if_neg (by omega),
    nextDominant_lead pos (p := 14) (q := 12) (by decide) (by decide) (by decide)]
  dsimp only
  rw [if_neg (by omega), readSync_driven pos low high]

/-- Settles O54: the wave is read edge by edge as the frame that was driven. -/
theorem drivenFrameIsReceived : Obligations.DrivenFrameIsReceived := by
  unfold Obligations.DrivenFrameIsReceived
  intro rate kind edition t n data k e few low high frame wave
  have pos : 0 < t := by cases rate <;> simp only [bitTicks] at low <;> omega
  have good : receive rate wave = .good frame { start := (64 + 10 * data.length) * t, length := t } :=
    (receive_driven low high).trans (readFrame_driven k e few pos)
  exact ⟨good, by rw [heardAt, good], driveWave_eq rate _⟩

end Sys2Proof.Machine
end

section
/-! Starting a send (R28 to R30): the lowest kind that waits goes in flight, alone, with its start mark. -/

namespace Sys2Proof.Machine

/-- The kind that leaves first of those that wait (R28); ANNOUNCE where no other waits. -/
def Loop.lowest (x : Loop) : FrameKind :=
  if x.trip.isWaiting then .trip else if x.intent.isWaiting then .intent else if x.status.isWaiting then .status else .announce

/-- What a start makes of the loop interface: one kind in flight with a start mark, and every other slot as it was. -/
def Loop.Starts (x : Loop) (k : FrameKind) (mark : Nat) (y : Loop) : Prop :=
  ∃ m : Send, y.send = some m ∧ m.kind = k ∧ m.markTicks = mark ∧ m.idBegun = false ∧
    (y.trip.isInFlight = (k == .trip) ∧ y.intent.isInFlight = (k == .intent) ∧
      y.status.isInFlight = (k == .status) ∧ y.announce.isInFlight = (k == .announce)) ∧
    ((∀ c, x.trip = .waiting c → k = .trip → y.trip = .inFlight c none ∧ m.data = c.encode) ∧
      (∀ c, x.intent = .waiting c → k = .intent → y.intent = .inFlight c none ∧ m.data = c.encode)) ∧
    (k ≠ .trip → y.trip = x.trip) ∧ (k ≠ .intent → y.intent = x.intent) ∧
    (k ≠ .status → y.status = x.status) ∧ (k ≠ .announce → y.announce = x.announce)

@[simp] theorem Slot.isWaiting_empty {α : Type} : (Slot.empty : Slot α).isWaiting = false := rfl
@[simp] theorem Slot.isWaiting_waiting {α : Type} (c : α) : (Slot.waiting c).isWaiting = true := rfl
@[simp] theorem Slot.isInFlight_empty {α : Type} : (Slot.empty : Slot α).isInFlight = false := rfl

/-- A slot that is not in flight waits with its content, or is empty. -/
theorem Slot.empty_or_waiting {α : Type} {x : Slot α} (quiet : x.isInFlight = false) :
    x = .empty ∨ ∃ c : α, x = .waiting c := by
  cases x with
  | empty => exact .inl rfl
  | waiting c => exact .inr ⟨c, rfl⟩
  | inFlight => cases quiet

/-- A start takes the lowest kind that waits, where none is in flight (R28, R30). -/
theorem Loop.start_starts {x : Loop} (mark : Nat) (quiet : x.trip.isInFlight = false ∧ x.intent.isInFlight = false ∧
    x.status.isInFlight = false ∧ x.announce.isInFlight = false)
    (waits : x.lowest = .announce → x.announce.isWaiting = true) :
    x.Starts x.lowest mark (x.start mark) := by
  obtain ⟨noTrip, noIntent, noStatus, noAnnounce⟩ := quiet
  unfold Loop.lowest at waits ⊢
  unfold Loop.Starts Loop.start
  rcases Slot.empty_or_waiting noTrip with trip | ⟨c, trip⟩
  · rcases Slot.empty_or_waiting noIntent with intent | ⟨c, intent⟩
    · rcases Slot.empty_or_waiting noStatus with status | ⟨c, status⟩
      · rcases Slot.empty_or_waiting noAnnounce with announce | ⟨c, announce⟩
        · simp [trip, intent, status, announce] at waits
        · simp [trip, intent, status, announce]
      · simp [trip, intent, status, noAnnounce]
    · simp [trip, intent, noStatus, noAnnounce]
  · simp [trip, noIntent, noStatus, noAnnounce]

/-- A start writes the slots and the send only. -/
theorem Loop.start_frame (mark : Nat) (x : Loop) : (x.start mark).aborts = x.aborts ∧ (x.start mark).unheard = x.unheard ∧
    (x.start mark).line = x.line ∧ (x.start mark).wait = x.wait := by
  rcases Loop.start_cases mark x with ⟨c, m, -, -, e⟩ | ⟨c, m, -, -, e⟩ | ⟨m, -, -, e⟩ | ⟨c, m, -, e⟩ | e
  all_goals rw [e]; exact ⟨rfl, rfl, rfl, rfl⟩

/-- A station that may send, has nothing on the line and whose lowest kind waits has something to send (R28). -/
theorem hasToSend_of_lowest {s : State} (may : s.maySend = true) (unsent : s.loop.send = none)
    (waits : s.loop.lowest = .announce → s.loop.announce.isWaiting = true) : s.hasToSend = true := by
  have any : s.loop.anyWaiting = true := by
    simp only [Loop.anyWaiting, Bool.or_eq_true]
    unfold Loop.lowest at waits
    split at waits
    next trip => exact .inl (.inl (.inl trip))
    split at waits
    next intent => exact .inl (.inl (.inr intent))
    split at waits
    next status => exact .inl (.inr status)
    exact .inr (waits rfl)
  rw [State.hasToSend, may, unsent, any]
  rfl

theorem mayJoin_iff (s : State) (since free : Nat) : s.mayJoin since free = true ↔
    s.hasToSend = true ∧ s.loop.line = some .busy ∧ s.loop.freeBy free = true ∧ free ≤ since ∧ since < s.bt := by
  simp [State.mayJoin, and_assoc]

/-- What lets a station be free by a moment after the edge (R30). -/
theorem freeBy_iff (x : Loop) (free : Nat) : x.freeBy free = true ↔
    x.follow = .run false ∨ (x.follow = .run true ∧ 0 < free) ∨ (x.follow = .nothing ∧ x.wait = false ∧ 0 < free) := by
  unfold Loop.freeBy
  cases x.follow with
  | frame => simp
  | run waited => cases waited <;> simp
  | nothing => simp

/-- Settles O17: the condition of each command, and what the start itself does, once for both. -/
theorem startTakesLowestKind : Obligations.StartTakesLowestKind := by
  unfold Obligations.StartTakesLowestKind
  refine ⟨fun s k may unsent lowest waits => ?starts, fun s since free held => if_neg fun joins => ?late,
    fun s held => if_neg fun ⟨_, line, wait⟩ => ?send⟩
  case starts =>
    obtain rfl : k = s.loop.lowest := lowest
    have ready := hasToSend_of_lowest may unsent waits
    intro started quiet
    refine ⟨fun line wait => ⟨_, if_pos ⟨ready, line, wait⟩, ?_⟩, fun since free line order near freed =>
      ⟨_, if_pos ((mayJoin_iff s since free).mpr ⟨ready, line, (freeBy_iff _ free).mpr freed, order, near⟩), ?_⟩⟩
    · obtain ⟨m, sent, kind, mark, begun, flight, content, kept⟩ := Loop.start_starts (12 * s.bt) quiet waits
      obtain ⟨trip, intent, status, announce⟩ := kept
      obtain ⟨aborts, unheard, -, waiting⟩ := Loop.start_frame (12 * s.bt) s.loop
      exact ⟨m, sent, kind, mark, begun, flight, content, trip, intent, status, announce, rfl, aborts, unheard, rfl, rfl,
        waiting.trans wait⟩
    · obtain ⟨m, sent, kind, mark, begun, flight, content, kept⟩ := Loop.start_starts (12 * s.bt - since) quiet waits
      obtain ⟨trip, intent, status, announce⟩ := kept
      obtain ⟨aborts, unheard, busy, -⟩ := Loop.start_frame (12 * s.bt - since) s.loop
      exact ⟨m, sent, kind, mark, begun, flight, content, trip, intent, status, announce, rfl, aborts, unheard,
        busy.trans line, rfl, rfl⟩
  case late =>
    obtain ⟨-, line, freed, -, near⟩ := (mayJoin_iff s since free).mp joins
    rw [freeBy_iff] at freed
    rcases held with idle | past | frame | ⟨waited, zero⟩ | ⟨nothing, wait | zero⟩
    · exact idle line
    · omega
    · simp [frame] at freed
    · simp [waited, zero] at freed
    · simp [nothing, wait] at freed
    · simp [nothing, zero] at freed
  case send =>
    rcases held with busy | waits
    · exact busy line
    · exact Bool.false_ne_true (wait.symm.trans waits)

end Sys2Proof.Machine
end

section
/-! What the arrivals of a STATUS and of an ANNOUNCE do to the entry of their sender in JOINING and ACTIVE (chapters 3 and 4). -/

namespace Sys2Proof.Machine

/-! ## The delivery -/

/-- In JOINING and ACTIVE an arrival is the delivery after the frame's end, where the delivery leaves the life cycle alone. -/
theorem arrival_delivered {kind : FrameKind} {deliver : Frame → State → State} {w : Wave} {g : Frame} {s : State}
    (l : s.life = .joining ∨ s.life = .active) (heard : s.hears w = some g) (k : g.kind = kind.code)
    (other : g.station ≠ s.station) (life : (deliver g (s.frameEnd w)).life = s.life) :
    s.arrival kind deliver w = deliver g (s.frameEnd w) := by
  rw [arrival_eq deliver l heard k other]
  exact countGood_eq (by rw [life]; exact l)

/-- What a notice may change, it may change beside any other trip list. -/
theorem Noticed.withUnit {s t : State} (h : Noticed s t) (u : IntentTrip) :
    Noticed { s with unit := u } { t with unit := u } := by
  have e := congrArg (fun t : State => { t with unit := u }) h.rest
  exact ⟨e, ⟨h.asked.status, h.asked.deferred⟩⟩

/-! ## ANNOUNCE (R54, R65, R66) -/

theorem refuses_iff (s : State) (n : StationId) (a : AnnounceFrame) : s.refuses n a = true ↔
    a.configFault = true ∨ a.fingerprint ≠ s.cfg.fingerprint ∨ a.role ≠ (s.cfg.briefs[n]).role := by
  simp [State.refuses, or_assoc]

theorem Entry.announced_judged (refused : Bool) (r : Role) :
    (refused = true → (Entry.announced refused r).state = .foreign ∧ (Entry.announced refused r).fpMatch = .refused) ∧
    (¬refused = true → (Entry.announced refused r).state = .known ∧ (Entry.announced refused r).fpMatch = .matched) := by
  cases refused <;> simp [Entry.announced]

/-- An ANNOUNCE writes the entry and answers an ASK, and a change notice follows where the entry's state changes. -/
theorem takeAnnounce_noticed (n : StationId) (a : AnnounceFrame) {s : State} (l : s.life = .joining ∨ s.life = .active) :
    Noticed { s with
      image := s.image.set n (Entry.announced (s.refuses n a) a.role)
      loop := { s.loop with
        announce := if a.ask = true ∧ a.configFault = false then announceRequest false s.loop.idBegun s.loop.announce
          else s.loop.announce } } (s.takeAnnounce n a) := by
  have answered : (if a.ask && !a.configFault then
      (s.onEntry n (fun _ => Entry.announced (s.refuses n a) a.role)).queueAnnounce false
        else s.onEntry n (fun _ => Entry.announced (s.refuses n a) a.role)) = { s with
      image := s.image.set n (Entry.announced (s.refuses n a) a.role)
      loop := { s.loop with
        announce := if a.ask = true ∧ a.configFault = false then announceRequest false s.loop.idBegun s.loop.announce
          else s.loop.announce } } := by
    rw [queueAnnounce_eq (s := s.onEntry n (fun _ => Entry.announced (s.refuses n a) a.role)) false l]
    cases a.ask <;> cases a.configFault <;> rfl
  have judged : ∀ (u : State) (c : Prop) [Decidable c], Noticed u (if c then u else u.changeNotice n) := by
    intro u c _
    split
    · exact .refl u
    · exact changeNotice_noticed n u
  unfold State.takeAnnounce
  dsimp only
  rw [answered]
  exact judged _ _

/-- Settles O12: the delivery of the ANNOUNCE, and what its notice may change. -/
theorem announceArrivalJudgesSender : Obligations.AnnounceArrivalJudgesSender := by
  unfold Obligations.AnnounceArrivalJudgesSender
  intro w g a s l heard kind other decoded
  have taken : State.announceDelivered g (s.frameEnd w) = (s.frameEnd w).takeAnnounce g.station a := by
    rw [State.announceDelivered, decoded]
  have noticed := takeAnnounce_noticed g.station a (s := s.frameEnd w) l
  have arrived : s.arrival .announce State.announceDelivered w = (s.frameEnd w).takeAnnounce g.station a := by
    rw [arrival_delivered (kind := .announce) (deliver := State.announceDelivered) l heard kind other
      (by rw [taken, noticed.life, frameEnd_life]), taken]
  obtain ⟨refused, accepted⟩ := Entry.announced_judged ((s.frameEnd w).refuses g.station a) a.role
  rw [refuses_iff] at refused accepted
  refine ⟨_, congrArg done arrived, _, refused, accepted, rfl, rfl, rfl, rfl, noticed.trans (.finish _)⟩

/-! ## No change, no cause (R48) -/

theorem fieldCause_self : ∀ xs copy : List Nat, fieldCause xs xs copy = false
  | [], _ => rfl
  | _ :: _, [] => rfl
  | x :: xs, c :: cs => by simp [fieldCause, fieldCause_self xs cs]

theorem positionCause_self (step : Nat) : ∀ xs copy : List Nat, positionCause step xs xs copy = false
  | [], _ => rfl
  | _ :: _, [] => rfl
  | x :: xs, c :: cs => by simp [positionCause, positionCause_self step xs cs]

theorem isCause_self (s : State) : isCause s s = false := by
  unfold isCause
  split
  next ro rn old new =>
    rw [show rn = ro from Option.some.inj (new.symm.trans old)]
    split <;> simp [fieldCause_self, positionCause_self]
  · rfl

theorem act_unchanged {op : State → State} {s : State} (h : op s = s) : s.act op = s := by
  unfold State.act
  dsimp only
  rw [h, isCause_self]
  rfl

/-- Where the guard results are those of the present state, an evaluation changes nothing (R86). -/
theorem evaluate_current {s : State} (h : s.isActive = true → s.guard = s.guardNow) : s.evaluate = s := by
  unfold State.evaluate
  split
  next a => exact act_unchanged (show { s with guard := s.guardNow } = s by rw [← h a])
  · rfl

/-! ## The age of an entry is no matter of the guards (R76 to R78) -/

section
variable {s : State} {v : Vector Entry 16} (aged : ∀ m : StationId, v[m] = { s.image[m] with age := v[m].age })
include aged

theorem entry_aged (m : StationId) :
    State.entry { s with image := v } m = { s.entry m with age := (State.entry { s with image := v } m).age } := by
  unfold State.entry
  dsimp only
  split
  · rfl
  · exact aged m

theorem termValue_aged (t : Term) : State.termValue { s with image := v } t = s.termValue t := by
  have answered : State.answerable { s with image := v } t = s.answerable t := by
    unfold State.answerable
    rw [entry_aged aged t.station]
    rfl
  unfold State.termValue
  rw [answered]

theorem pairValue_aged (f : FnId) : State.pairValue { s with image := v } f = s.pairValue f := by
  have peer : ∀ (n : StationId) (g : FnId), State.peerFn { s with image := v } n g = s.peerFn n g := by
    intro n g
    unfold State.peerFn State.isFresh
    rw [entry_aged aged n]
  have position : State.peerPosition { s with image := v } f = s.peerPosition f := by
    unfold State.peerPosition
    simp only [peer]
    rfl
  unfold State.pairValue
  rw [position]
  rfl

theorem guardNow_aged : State.guardNow { s with image := v } = s.guardNow := by
  have values : State.termValue { s with image := v } = s.termValue := funext (termValue_aged aged)
  have functions : ∀ f : FnId, State.fnGuardNow { s with image := v } f = s.fnGuardNow f := by
    intro f
    unfold State.fnGuardNow
    rw [values, pairValue_aged aged f]
    rfl
  have lamps : ∀ n : Nat, State.lampNow { s with image := v } n = s.lampNow n := by
    intro n
    unfold State.lampNow
    rw [values]
    rfl
  unfold State.guardNow
  simp only [functions, lamps]

end

/-! ## STATUS (R54, R59 to R64, R154) -/

section
variable {n : StationId} {b : Byte} {r : Record} {s : State}

theorem takeStatus_unverified (l : s.life = .joining ∨ s.life = .active)
    (pending : (s.image[n]).state = .absent ∨ (s.image[n]).state = .unverified) : s.takeStatus n b r = { s with
      image := s.image.set n { s.image[n] with state := .unverified, age := some s.timing.stale }
      loop := { s.loop with announce := announceRequest true s.loop.idBegun s.loop.announce } } := by
  have asked := queueAnnounce_eq
    (s := s.onEntry n (fun e => { e with state := .unverified, age := some s.timing.stale })) true l
  unfold State.takeStatus
  dsimp only
  rcases pending with e | e <;> rw [e] <;> exact asked

theorem takeStatus_foreign (refused : (s.image[n]).state = .foreign) : s.takeStatus n b r = s := by
  unfold State.takeStatus
  dsimp only
  rw [refused]

/-- The trip list after the check of a STATUS that shows a station byte (R154). -/
def State.tripsAfter (s : State) (n : StationId) (b : Byte) : Vector (Option StopClass) 16 :=
  if s.unit.resetWindow.isSome = true ∧ b.getLsbD 6 = false then s.unit.trips.set n none else s.unit.trips

/-- An entry that has absorbed a STATUS, whatever notice comes before the check of the trip list. -/
theorem absorbed_noticed {k : Option Record} {t : State} (other : n ≠ s.station)
    (h : Noticed (s.onEntry n (Entry.absorb s.timing.stale b k)) t) : Noticed { s with
      image := s.image.set n (Entry.absorb s.timing.stale b k s.image[n])
      unit := { s.unit with trips := s.tripsAfter n b } } (t.statusNotice n) := by
  have image : t.image = s.image.set n (Entry.absorb s.timing.stale b k s.image[n]) := by rw [h.rest]; rfl
  have unit : t.unit = s.unit := by rw [h.rest]; rfl
  have station : t.station = s.station := by rw [h.rest]; rfl
  have entry : t.image[n] = Entry.absorb s.timing.stale b k s.image[n] := by rw [image]; simp
  have checked := statusNotice_noticed (n := n) (s := t) (b := b) (by rw [station]; exact other) (by rw [entry]; rfl)
    (by rw [entry]; rfl)
  rw [unit] at checked
  exact (h.withUnit { s.unit with trips := s.tripsAfter n b }).trans checked

/-- A STATUS of a sender whose entry is whole is absorbed, notified and checked (R62 to R64). -/
theorem takeStatus_noticed (other : n ≠ s.station)
    (whole : (s.image[n]).state = .known ∨ (s.image[n]).state = .stale ∨ (s.image[n]).state = .fresh) : Noticed { s with
      image := s.image.set n (Entry.absorb s.timing.stale b (if s.cfg.subscription.contains n then some r else none) s.image[n])
      unit := { s.unit with trips := s.tripsAfter n b } } (s.takeStatus n b r) := by
  generalize kept : (if s.cfg.subscription.contains n then some r else none) = k
  have silent := absorbed_noticed (b := b) (k := k) other (.refl _)
  have changed := absorbed_noticed (b := b) (k := k) other (changeNotice_noticed n _)
  unfold State.takeStatus
  rw [kept]
  dsimp only
  rcases whole with e | e | e <;> rw [e] <;> dsimp only
  · exact changed
  · exact changed
  · split
    · exact silent
    · exact changed

theorem gateEdge_same (s : State) : State.gateEdge s s = s := by
  unfold State.gateEdge
  cases s.gateOpen <;> simp

/-- Where the check removes nothing, the notice of a STATUS arrival is an evaluation (R154). -/
theorem statusNotice_kept (other : n ≠ s.station) (byte : (s.image[n]).byte = some b)
    (same : s.tripsAfter n b = s.unit.trips) : s.statusNotice n = s.settle := by
  have kept : s.removeTrip n = s := by
    unfold State.removeTrip
    split
    next c =>
      have clears : s.unit.resetWindow.isSome = true ∧ b.getLsbD 6 = false := by
        unfold State.removable at c
        rw [entry_other other, byte] at c
        simp [bit] at c
        exact ⟨c.1.1, c.2⟩
      rw [State.tripsAfter, if_pos clears] at same
      show { s with unit := { s.unit with trips := s.unit.trips.set n none } } = s
      rw [same]
    · rfl
  show (State.gateEdge s (s.removeTrip n)).settle = s.settle
  rw [kept, gateEdge_same]

/-- A repeat of what a FRESH entry holds restarts its age timer (R63). -/
theorem takeStatus_repeat (other : n ≠ s.station) (fresh : (s.image[n]).state = .fresh)
    (byte : (s.image[n]).byte = some b)
    (record : (s.image[n]).record = if s.cfg.subscription.contains n then some r else none)
    (same : s.tripsAfter n b = s.unit.trips) : s.takeStatus n b r =
      State.settle { s with image := s.image.set n { s.image[n] with age := some s.timing.stale } } := by
  generalize kept : (if s.cfg.subscription.contains n then some r else none) = k at record
  have absorbed : s.onEntry n (Entry.absorb s.timing.stale b k) =
      s.onEntry n (fun e => { e with age := some s.timing.stale }) :=
    onEntry_congr (by rw [Entry.absorb, ← fresh, ← byte, ← record])
  have taken : s.takeStatus n b r = (s.onEntry n (Entry.absorb s.timing.stale b k)).statusNotice n := by
    unfold State.takeStatus
    rw [kept]
    dsimp only
    rw [fresh]
    exact if_pos ⟨byte, record⟩
  rw [taken, absorbed]
  exact statusNotice_kept (s := s.onEntry n (fun e => { e with age := some s.timing.stale })) other
    (by rw [State.onEntry_same]; exact byte) same

/-- Nothing follows a repeat where the guards are those of the present state and no function reacts (R63, R87). -/
theorem settle_restarted {a : Timer} (current : s.isActive = true → s.guard = s.guardNow ∧
      Calm { s with image := s.image.set n { s.image[n] with age := a } }) :
    State.settle { s with image := s.image.set n { s.image[n] with age := a } } =
      { s with image := s.image.set n { s.image[n] with age := a } } := by
  have aged : ∀ m : StationId, (s.image.set n { s.image[n] with age := a })[m] =
      { s.image[m] with age := (s.image.set n { s.image[n] with age := a })[m].age } := by
    intro m
    by_cases same : n = m
    · subst same
      simp
    · have ne : n.val ≠ m.val := fun e => same (Fin.ext e)
      simp [Vector.getElem_set_ne, ne]
  by_cases active : s.isActive = true
  · obtain ⟨guard, calm⟩ := current active
    rw [settle_calm calm]
    exact evaluate_current (fun _ => by rw [guardNow_aged aged]; exact guard)
  · exact settle_idle (Bool.eq_false_iff.mpr active)

/-- A STATUS arrival leaves the life cycle alone. -/
theorem takeStatus_life (l : s.life = .joining ∨ s.life = .active) (other : n ≠ s.station) :
    (s.takeStatus n b r).life = s.life := by
  cases e : (s.image[n]).state
  case absent => rw [takeStatus_unverified l (.inl e)]
  case unverified => rw [takeStatus_unverified l (.inr e)]
  case foreign => rw [takeStatus_foreign e]
  case known => exact (takeStatus_noticed other (.inl e)).life
  case stale => exact (takeStatus_noticed other (.inr (.inl e))).life
  case fresh => exact (takeStatus_noticed other (.inr (.inr e))).life

end

/-- Settles O11, by the state of the sender's entry. -/
theorem statusArrivalUpdatesEntry : Obligations.StatusArrivalUpdatesEntry := by
  unfold Obligations.StatusArrivalUpdatesEntry
  intro w g b r s l heard kind other decoded fits n e fresh trips
  have taken : State.statusDelivered g (s.frameEnd w) = (s.frameEnd w).takeStatus n b r := by
    rw [State.statusDelivered, decoded]
    exact if_pos fits
  have arrived : s.arrival .status State.statusDelivered w = (s.frameEnd w).takeStatus n b r := by
    rw [arrival_delivered (kind := .status) (deliver := State.statusDelivered) l heard kind other
      (by rw [taken]; exact takeStatus_life l other), taken]
  refine ⟨_, congrArg done arrived, fun pending => ?_, fun whole => ?_, fun held byte record same => ?_, fun foreign => ?_⟩
  · rw [takeStatus_unverified (s := s.frameEnd w) l pending]
    rfl
  · exact (takeStatus_noticed (s := s.frameEnd w) other whole).trans (.finish _)
  · have repeated := takeStatus_repeat (s := s.frameEnd w) other held byte record same
    intro base
    rw [repeated]
    refine ⟨(settle_settled base).trans (.finish _), fun current => ?_⟩
    exact congrArg State.finish (settle_restarted (s := s.frameEnd w) current)
  · rw [takeStatus_foreign (s := s.frameEnd w) foreign]

end Sys2Proof.Machine
end

section
/-! The contents of the four frame kinds (sections 3.1 to 3.5): each decoder answers a content exactly at the bytes which that
content is encoded to, so both directions of a round trip are one equivalence. -/

namespace Sys2Proof.Machine

/-! ## Codes -/

theorem roleOf_eq_some_iff (n : Nat) (r : Role) : roleOf n = some r ↔ r.code = n := by
  constructor
  · intro h
    unfold roleOf at h
    split at h <;> cases h <;> rfl
  · rintro rfl
    cases r <;> rfl

theorem causeOf_eq_some_iff (n : Nat) (c : ResetCause) : causeOf n = some c ↔ causeCode c = n := by
  constructor
  · intro h
    unfold causeOf at h
    split at h <;> cases h <;> rfl
  · rintro rfl
    cases c <;> rfl

theorem loadFaultOf_eq_some_iff (n : Nat) (c : LoadFault) : loadFaultOf n = some c ↔ c.code = n := by
  constructor
  · intro h
    unfold loadFaultOf at h
    split at h <;> cases h <;> rfl
  · rintro rfl
    cases c <;> rfl

theorem motionOf_eq_some_iff (n : Nat) (m : Motion) : motionOf n = some m ↔ m.code = n := by
  constructor
  · intro h
    unfold motionOf at h
    split at h <;> cases h <;> rfl
  · rintro rfl
    cases m <;> rfl

theorem endStateOf_eq_some_iff (n : Nat) (e : EndState) : endStateOf n = some e ↔ e.code = n := by
  constructor
  · intro h
    unfold endStateOf at h
    split at h <;> cases h <;> rfl
  · rintro rfl
    cases e <;> rfl

theorem faultOf_eq_some_iff (n : Nat) (c : FaultCode) : faultOf n = some c ↔ c.code = n := by
  constructor
  · intro h
    unfold faultOf at h
    split at h <;> cases h <;> rfl
  · rintro rfl
    cases c <;> rfl

theorem pumpStateOf_eq_some_iff (n : Nat) (p : PumpState) : pumpStateOf n = some p ↔ p.code = n := by
  constructor
  · intro h
    unfold pumpStateOf at h
    split at h <;> cases h <;> rfl
  · rintro rfl
    cases p <;> rfl

theorem Role.code_lt (r : Role) : r.code < 6 := by cases r <;> decide
theorem causeCode_lt (c : ResetCause) : causeCode c < 3 := by cases c <;> decide
theorem LoadFault.code_lt (c : LoadFault) : c.code < 7 := by cases c <;> decide
theorem Motion.code_lt (m : Motion) : m.code < 9 := by cases m <;> decide
theorem EndState.code_lt (e : EndState) : e.code < 4 := by cases e <;> decide
theorem FaultCode.code_lt (c : FaultCode) : c.code < 14 := by cases c <;> decide
theorem PumpState.code_lt (p : PumpState) : p.code < 4 := by cases p <;> decide

/-! ## Bytes -/

/-- A byte is that of a number below 256 exactly where it reads as that number. -/
theorem byte_eq_iff {n : Nat} (h : n < 256) (b : Byte) : byte n = b ↔ b.toNat = n := by
  rw [← BitVec.toNat_inj, byte, BitVec.toNat_ofNat, Nat.mod_eq_of_lt h]
  exact eq_comm

/-- A station and function are those of the low six bits of a byte (section 3.5). -/
theorem pairCode_iff (n : StationId) (f : FnId) (b : Byte) :
    n = stationOf (field b 2 4) ∧ f = fnOf (field b 0 2) ↔ pairCode n f = b.toNat % 64 := by
  rw [stationOf, fnOf, fin_ofNat_eq_iff, fin_ofNat_eq_iff, field, field, pairCode]
  omega

theorem pairCode_lt (n : StationId) (f : FnId) : pairCode n f < 64 := by
  unfold pairCode
  omega

/-! ## Function records (R41) -/

/-- The values of a function record (R39, R41). -/
structure FnRecord.Good (r : FnRecord) : Prop where
  priority : r.priority < 4
  blocking : blockingOk r.blocking = true
  units : r.units ≤ 32
  position : positionOk r.position = true

theorem blockingOk_lt {n : Nat} (h : blockingOk n = true) : n < 16 := by
  simp [blockingOk, Config.noBlocking] at h
  omega

theorem positionOk_lt {n : Nat} (h : positionOk n = true) : n < 1024 := by
  simp [positionOk, Config.noPosition] at h
  omega

/-- The bytes of a good record, field by field. -/
theorem FnRecord.encode_eq_iff {r : FnRecord} (g : r.Good) (b0 b1 b2 b3 : Byte) : r.encode = [b0, b1, b2, b3] ↔
    (r.motion.code = field b0 4 4 ∧ r.endState.code = field b0 2 2 ∧ r.priority = field b0 0 2) ∧
      (r.fault.code = field b1 4 4 ∧ r.blocking = field b1 0 4) ∧
      r.units = field b2 2 6 ∧ r.position = field b2 0 2 * 256 + b3.toNat := by
  have motion := r.motion.code_lt
  have endState := r.endState.code_lt
  have fault := r.fault.code_lt
  have priority := g.priority
  have blocking := blockingOk_lt g.blocking
  have units := g.units
  have position := positionOk_lt g.position
  have := b0.isLt
  have := b1.isLt
  have := b2.isLt
  have := b3.isLt
  simp only [FnRecord.encode, List.cons.injEq, and_true, field]
  rw [byte_eq_iff (by omega), byte_eq_iff (by omega), byte_eq_iff (by omega), byte_eq_iff (by omega)]
  omega

theorem readFnRecord_eq_some_iff (b0 b1 b2 b3 : Byte) (r : FnRecord) :
    readFnRecord b0 b1 b2 b3 = some r ↔ r.Good ∧ r.encode = [b0, b1, b2, b3] := by
  unfold readFnRecord
  constructor
  · intro h
    split at h
    next m e c motion endState fault =>
      rw [motionOf_eq_some_iff] at motion
      rw [endStateOf_eq_some_iff] at endState
      rw [faultOf_eq_some_iff] at fault
      dsimp only at h
      split at h
      next ok =>
        obtain rfl := Option.some.inj h
        simp only [Bool.and_eq_true, decide_eq_true_eq] at ok
        obtain ⟨⟨position, blocking⟩, units⟩ := ok
        have good : FnRecord.Good { motion := m, endState := e, priority := field b0 0 2, fault := c,
                                    blocking := field b1 0 4, units := field b2 2 6,
                                    position := field b2 0 2 * 256 + b3.toNat } :=
          ⟨Nat.mod_lt _ (by decide), blocking, units, position⟩
        exact ⟨good, (FnRecord.encode_eq_iff good b0 b1 b2 b3).mpr ⟨⟨motion, endState, rfl⟩, ⟨fault, rfl⟩, rfl, rfl⟩⟩
      · cases h
    · cases h
  · rintro ⟨good, bytes⟩
    obtain ⟨⟨motion, endState, priority⟩, ⟨fault, blocking⟩, units, position⟩ :=
      (FnRecord.encode_eq_iff good b0 b1 b2 b3).mp bytes
    rw [(motionOf_eq_some_iff _ _).mpr motion, (endStateOf_eq_some_iff _ _).mpr endState,
      (faultOf_eq_some_iff _ _).mpr fault, ← priority, ← blocking, ← units, ← position]
    dsimp only
    rw [good.position, good.blocking, decide_eq_true good.units]
    rfl

/-! ## Grants (R43) -/

/-- A grant is read of a byte exactly where it is the byte's grant. -/
theorem grantByte_eq_iff (g : StationId × FnId) (b : Byte) : byte (128 + pairCode g.1 g.2) = b ↔
    (bit b 7 && !bit b 6) = true ∧ (stationOf (field b 2 4), fnOf (field b 0 2)) = g := by
  have valid := bit_iff b 7
  have spare := bit_iff b 6
  have pair := pairCode_iff g.1 g.2 b
  have small := pairCode_lt g.1 g.2
  have := b.isLt
  rw [byte_eq_iff (by omega), Bool.and_eq_true, Bool.not_eq_true', ← Bool.not_eq_true, valid, spare, Prod.mk.injEq,
    eq_comm (a := stationOf _), eq_comm (a := fnOf _), pair]
  omega

/-- With no grant valid, every grant byte is zero. -/
theorem readGrants_zero_iff (gs : List (StationId × FnId)) (bs : List Byte) :
    readGrants 0 bs = some gs ↔ gs = [] ∧ List.replicate bs.length 0 = bs := by
  induction bs with
  | nil => exact ⟨fun h => ⟨(Option.some.inj h).symm, rfl⟩, fun h => congrArg some h.1.symm⟩
  | cons b bs ih =>
    unfold readGrants
    rw [List.length_cons, List.replicate_succ, List.cons.injEq]
    split
    next zero => rw [ih, and_iff_right zero.symm]
    next zero => exact ⟨fun h => (nomatch h), fun h => absurd h.2.1.symm zero⟩

/-- The first `n` bytes are read as the grants that they hold, and the rest is zero. -/
theorem readGrants_eq_some_iff (gs : List (StationId × FnId)) (n : Nat) : ∀ bs : List Byte, n ≤ bs.length →
    (readGrants n bs = some gs ↔ gs.length = n ∧
      gs.map (fun g => byte (128 + pairCode g.1 g.2)) ++ List.replicate (bs.length - n) 0 = bs) := by
  induction n generalizing gs with
  | zero =>
    intro bs _
    rw [readGrants_zero_iff, List.length_eq_zero_iff]
    refine and_congr_right fun none => ?_
    rw [none]
    rfl
  | succ n ih =>
    intro bs h
    cases bs with
    | nil => simp at h
    | cons b bs =>
      have rest := fun gs => ih gs bs (Nat.le_of_succ_le_succ h)
      unfold readGrants
      cases gs with
      | nil =>
        refine ⟨fun read => ?_, fun ⟨length, _⟩ => by simp at length⟩
        split at read
        · split at read <;> cases read
        · cases read
      | cons g gs =>
        rw [List.length_cons, List.length_cons, Nat.succ_sub_succ, Nat.succ_inj, List.map_cons, List.cons_append,
          List.cons.injEq, grantByte_eq_iff, and_left_comm, ← rest]
        split
        next valid =>
          cases readGrants n bs <;> simp [valid]
        next valid => simp [valid]

theorem grantBytes_eq_iff (gs : List (StationId × FnId)) {n : Nat} (few : n ≤ 8) (g0 g1 g2 g3 g4 g5 g6 g7 : Byte) :
    readGrants n [g0, g1, g2, g3, g4, g5, g6, g7] = some gs ↔
      gs.length = n ∧ grantBytes gs = [g0, g1, g2, g3, g4, g5, g6, g7] := by
  rw [readGrants_eq_some_iff gs n [g0, g1, g2, g3, g4, g5, g6, g7] few]
  refine and_congr_right fun length => ?_
  rw [grantBytes, length]
  rfl

/-! ## The payload of a STATUS (R39 to R44) -/

theorem Record.wf_motion_iff (fns : Vector FnRecord 4) : (Record.motion fns).wf = true ↔ ∀ f : FnId, (fns[f]).Good := by
  have one : ∀ r : FnRecord, (decide (r.priority < 4) && blockingOk r.blocking && decide (r.units ≤ 32) &&
      positionOk r.position) = true ↔ r.Good := by
    intro r
    simp only [Bool.and_eq_true, decide_eq_true_eq]
    exact ⟨fun ⟨⟨⟨p, b⟩, u⟩, x⟩ => ⟨p, b, u, x⟩, fun g => ⟨⟨⟨g.priority, g.blocking⟩, g.units⟩, g.position⟩⟩
  unfold Record.wf
  simp only [one, List.all_eq_true]
  exact ⟨fun h f => h f (by fin_cases f <;> decide), fun h f _ => h f⟩

theorem four_eq (fns : Vector FnRecord 4) : #v[fns[0], fns[1], fns[2], fns[3]] = fns :=
  Vector.ext fun i h => match i, h with
    | 0, _ => rfl
    | 1, _ => rfl
    | 2, _ => rfl
    | 3, _ => rfl

/-- The byte of two pump states (R43). -/
theorem pumpByte_eq_iff (a b : PumpState) (p : Byte) : byte (a.code * 4 + b.code) = p ↔
    a.code = field p 2 2 ∧ b.code = field p 0 2 ∧ field p 4 4 = 0 := by
  have := a.code_lt
  have := b.code_lt
  have := p.isLt
  rw [byte_eq_iff (by omega), field, field, field]
  omega

/-- The flags byte of a panel (R44). -/
theorem panelFlagsByte_eq_iff (u c m : Bool) (b : Byte) : panelFlagsByte u c m = b ↔
    u = bit b 7 ∧ c = bit b 6 ∧ m = bit b 5 ∧ field b 0 5 = 0 := by
  have := b.isLt
  have := Bool.toNat_lt u
  have := Bool.toNat_lt c
  have := Bool.toNat_lt m
  rw [panelFlagsByte, flagAt_eq, flagAt_eq, flagAt_eq, byte_eq_iff (by omega), eq_bit_iff,
    eq_bit_iff, eq_bit_iff, field]
  omega

theorem pairByte_eq_iff (n : StationId) (f : FnId) (b : Byte) : byte (pairCode n f) = b ↔
    (n = stationOf (field b 2 4) ∧ f = fnOf (field b 0 2)) ∧ field b 6 2 = 0 := by
  have := pairCode_lt n f
  have := b.isLt
  rw [byte_eq_iff (by omega), pairCode_iff, field]
  omega

theorem exists_of_length_eight {bs : List Byte} (h : bs.length = 8) :
    ∃ g0 g1 g2 g3 g4 g5 g6 g7 : Byte, bs = [g0, g1, g2, g3, g4, g5, g6, g7] :=
  match bs, h with
  | [g0, g1, g2, g3, g4, g5, g6, g7], _ => ⟨g0, g1, g2, g3, g4, g5, g6, g7, rfl⟩

/-- Four function records of four bytes each. -/
theorem readRecord_motion (fns : Vector FnRecord 4) (good : ∀ f : FnId, (fns[f]).Good) :
    readRecord (Record.motion fns).encode = some (.motion fns) := by
  have record : ∀ r : FnRecord, r.Good → ∃ b0 b1 b2 b3 : Byte, r.encode = [b0, b1, b2, b3] ∧
      readFnRecord b0 b1 b2 b3 = some r := fun r g =>
    ⟨_, _, _, _, rfl, (readFnRecord_eq_some_iff _ _ _ _ r).mpr ⟨g, rfl⟩⟩
  obtain ⟨a0, a1, a2, a3, a, ra⟩ := record fns[0] (good 0)
  obtain ⟨b0, b1, b2, b3, b, rb⟩ := record fns[1] (good 1)
  obtain ⟨c0, c1, c2, c3, c, rc⟩ := record fns[2] (good 2)
  obtain ⟨d0, d1, d2, d3, d, rd⟩ := record fns[3] (good 3)
  rw [Record.encode, a, b, c, d]
  simp only [List.cons_append, List.nil_append, readRecord, ra, rb, rc, rd, four_eq]

theorem readRecord_pump {a b : PumpState} {capacity : Nat} {grants : List (StationId × FnId)} (units : capacity ≤ 64)
    (few : grants.length ≤ 8) : readRecord (Record.pump a b capacity grants).encode = some (.pump a b capacity grants) := by
  obtain ⟨g0, g1, g2, g3, g4, g5, g6, g7, bytes⟩ := exists_of_length_eight (grantBytes_length few)
  obtain ⟨first, second, zero⟩ := (pumpByte_eq_iff a b _).mp rfl
  have size : (byte capacity).toNat = capacity := (byte_eq_iff (by omega) _).mp rfl
  have count : (byte grants.length).toNat = grants.length := (byte_eq_iff (by omega) _).mp rfl
  have read := (grantBytes_eq_iff grants few g0 g1 g2 g3 g4 g5 g6 g7).mpr ⟨rfl, bytes⟩
  rw [Record.encode, bytes, readRecord, ← first, ← second, (pumpStateOf_eq_some_iff _ _).mpr rfl,
    (pumpStateOf_eq_some_iff _ _).mpr rfl, count, read]
  dsimp only
  rw [if_pos ⟨zero, by omega, few⟩, size]

theorem readRecord_panel (u c m : Bool) (n : StationId) (f : FnId) :
    readRecord (Record.panel u c m n f).encode = some (.panel u c m n f) := by
  obtain ⟨under, command, maint, flags⟩ := (panelFlagsByte_eq_iff u c m _).mp rfl
  obtain ⟨⟨station, function⟩, selection⟩ := (pairByte_eq_iff n f _).mp rfl
  rw [Record.encode, readRecord, if_pos ⟨flags, selection⟩, ← under, ← command, ← maint, ← station, ← function]

/-- A payload is read as a record exactly where the record is well-formed and has these bytes. -/
theorem readRecord_eq_some_iff (bs : List Byte) (r : Record) : readRecord bs = some r ↔ r.wf = true ∧ r.encode = bs := by
  constructor
  · intro h
    unfold readRecord at h
    split at h
    case h_1 a0 a1 a2 a3 b0 b1 b2 b3 c0 c1 c2 c3 d0 d1 d2 d3 =>
      split at h
      next f0 f1 f2 f3 r0 r1 r2 r3 =>
        obtain rfl := Option.some.inj h
        rw [readFnRecord_eq_some_iff] at r0 r1 r2 r3
        refine ⟨(Record.wf_motion_iff _).mpr (fun f => ?_), ?_⟩
        · fin_cases f
          · exact r0.1
          · exact r1.1
          · exact r2.1
          · exact r3.1
        · show f0.encode ++ f1.encode ++ f2.encode ++ f3.encode = _
          rw [r0.2, r1.2, r2.2, r3.2]
          rfl
      · cases h
    case h_2 p cap n g0 g1 g2 g3 g4 g5 g6 g7 =>
      split at h
      next a b gs first second read =>
        split at h
        next ok =>
          obtain rfl := Option.some.inj h
          obtain ⟨zero, units, few⟩ := ok
          rw [pumpStateOf_eq_some_iff] at first second
          obtain ⟨length, bytes⟩ := (grantBytes_eq_iff gs few g0 g1 g2 g3 g4 g5 g6 g7).mp read
          refine ⟨by simp [Record.wf, units, length, few], ?_⟩
          have count : byte gs.length = n := (byte_eq_iff (by omega) n).mpr length.symm
          have size : byte cap.toNat = cap := (byte_eq_iff cap.isLt cap).mpr rfl
          rw [Record.encode, bytes, count, size, (pumpByte_eq_iff a b p).mpr ⟨first, second, zero⟩]
        · cases h
      · cases h
    case h_3 fl sel =>
      split at h
      next ok =>
        obtain rfl := Option.some.inj h
        refine ⟨rfl, ?_⟩
        rw [Record.encode, (panelFlagsByte_eq_iff _ _ _ fl).mpr ⟨rfl, rfl, rfl, ok.1⟩,
          (pairByte_eq_iff _ _ sel).mpr ⟨⟨rfl, rfl⟩, ok.2⟩]
      · cases h
    case h_4 => cases h
  · rintro ⟨wf, rfl⟩
    cases r with
    | motion fns => exact readRecord_motion fns ((Record.wf_motion_iff fns).mp wf)
    | pump a b capacity grants =>
      have bounds : capacity ≤ 64 ∧ grants.length ≤ 8 := by simpa [Record.wf] using wf
      exact readRecord_pump bounds.1 bounds.2
    | panel u c m n f => exact readRecord_panel u c m n f

theorem causeOf_isSome_iff (n : Nat) : (causeOf (n % 4)).isSome = true ↔ n % 4 ≠ 3 := by
  have : n % 4 = 0 ∨ n % 4 = 1 ∨ n % 4 = 2 ∨ n % 4 = 3 := by omega
  rcases this with e | e | e | e <;> rw [e] <;> decide

/-- A STATUS is read exactly of its bytes, where ACTIVE is set and the reset cause is one that is produced (R39, R40). -/
theorem decodeStatus_eq_some_iff (data : List Byte) (b : Byte) (r : Record) : decodeStatus data = some (b, r) ↔
    (bit b 7 = true ∧ b.toNat % 4 ≠ 3 ∧ r.wf = true) ∧ encodeStatus b r = data := by
  cases data with
  | nil => simp [decodeStatus, encodeStatus]
  | cons c rest =>
    have produced : (causeOf (field c 0 2)).isSome = true ↔ c.toNat % 4 ≠ 3 := by
      rw [field, pow_zero, Nat.div_one]
      exact causeOf_isSome_iff c.toNat
    rw [decodeStatus, encodeStatus, List.cons.injEq]
    constructor
    · intro h
      split at h
      next ok =>
        obtain ⟨x, read, same⟩ := Option.map_eq_some_iff.mp h
        cases same
        rw [Bool.and_eq_true, produced] at ok
        rw [readRecord_eq_some_iff] at read
        exact ⟨⟨ok.1, ok.2, read.1⟩, rfl, read.2⟩
      · cases h
    · rintro ⟨⟨active, cause, wf⟩, rfl, bytes⟩
      rw [if_pos (by rw [active, produced.mpr cause]; rfl), (readRecord_eq_some_iff rest r).mpr ⟨wf, bytes⟩]
      rfl

/-! ## TRIP (R45) -/

/-- The byte of a class and reason. -/
theorem tripByte_eq_iff (t : TripReason) (b : Byte) : byte (t.cls.code * 128 + t.code) = b ↔
    field b 2 5 = 0 ∧ field b 0 2 = t.code ∧ (t.cls == .cStop) = bit b 7 := by
  have cls : t.cls.code = (t.cls == .cStop).toNat := by cases t <;> rfl
  have : t.code < 3 := by cases t <;> simp [TripReason.code]
  have := Bool.toNat_lt (t.cls == .cStop)
  have := b.isLt
  rw [cls, byte_eq_iff (by omega), eq_bit_iff, field, field]
  omega

/-- The byte of an originating function. -/
theorem originByte_eq_iff (t : TripReason) (b : Byte) : byte t.origin = b ↔ field b 3 5 = 0 ∧ field b 0 3 = t.origin := by
  have : t.origin < 8 := by
    cases t <;> simp only [TripReason.origin] <;> omega
  have := b.isLt
  rw [byte_eq_iff (by omega), field, field]
  omega

/-- A TRIP is read exactly of its two bytes. -/
theorem decodeTrip_eq_some_iff (data : List Byte) (t : TripReason) : decodeTrip data = some t ↔ t.encode = data := by
  constructor
  · intro h
    unfold decodeTrip at h
    split at h
    next b0 b1 =>
      split at h
      · cases h
      next spare =>
        rw [not_or, Decidable.not_not, Decidable.not_not] at spare
        have bytes : ∀ r : TripReason, field b0 0 2 = r.code → bit b0 7 = (r.cls == .cStop) → field b1 0 3 = r.origin →
            r.encode = [b0, b1] := fun r code cls origin => by
          rw [TripReason.encode, (tripByte_eq_iff r b0).mpr ⟨spare.1, code, cls.symm⟩,
            (originByte_eq_iff r b1).mpr ⟨spare.2, origin⟩]
        split at h
        next code cls origin => cases h; exact bytes _ code cls origin
        next code cls =>
          split at h
          next few => cases h; exact bytes _ code cls (Nat.mod_eq_of_lt few).symm
          · cases h
        next code cls origin => cases h; exact bytes _ code cls origin
        · cases h
    · cases h
  · rintro rfl
    cases t with
    | stopLoopOpen => decide
    | functionFault f => revert f; decide
    | fieldSupplyLow => decide

/-! ## INTENT (R46) -/

/-- The byte of an intent kind with its UNDERWAY flag. -/
theorem intentByte_eq_iff (k : IntentKind) (u : Bool) (b : Byte) : byte (flagAt u 7 + k.code) = b ↔
    field b 3 4 = 0 ∧ field b 0 3 = k.code ∧ u = bit b 7 := by
  have : k.code < 6 := by cases k <;> simp [IntentKind.code]
  have := b.isLt
  have := Bool.toNat_lt u
  rw [flagAt_eq, byte_eq_iff (by omega), eq_bit_iff, field, field]
  omega

/-- The target byte of SINGLE: no spare bit, the station and function, and the direction. -/
theorem targetByte_eq_iff (n : StationId) (f : FnId) (d : Dir) (b : Byte) : byte (IntentKind.single n f d).target = b ↔
    bit b 6 = false ∧ (n = stationOf (field b 2 4) ∧ f = fnOf (field b 0 2)) ∧
      d = if bit b 7 then .toClose else .toOpen := by
  have target : (IntentKind.single n f d).target = (d == .toClose).toNat * 128 + pairCode n f := by
    cases d <;> simp [IntentKind.target]
  have side : (d = if bit b 7 then .toClose else .toOpen) ↔ (d == .toClose) = bit b 7 := by
    cases d <;> cases bit b 7 <;> decide
  have := pairCode_lt n f
  have := b.isLt
  have := Bool.toNat_lt (d == .toClose)
  have spare := bit_iff b 6
  rw [side, target, byte_eq_iff (by omega), eq_bit_iff, ← Bool.not_eq_true, spare, pairCode_iff]
  omega

/-- An INTENT is read exactly of its two bytes. -/
theorem decodeIntent_eq_some_iff (data : List Byte) (i : IntentFrame) : decodeIntent data = some i ↔ i.encode = data := by
  constructor
  · intro h
    unfold decodeIntent at h
    split at h
    next b0 b1 =>
      split at h
      · cases h
      next spare =>
        rw [not_or, Decidable.not_not, Bool.not_eq_true] at spare
        obtain ⟨zero, even⟩ := spare
        have first : ∀ k : IntentKind, field b0 0 3 = k.code → byte (flagAt (bit b0 7) 7 + k.code) = b0 := fun k code =>
          (intentByte_eq_iff k _ b0).mpr ⟨zero, code, rfl⟩
        have plain : ∀ k : IntentKind, field b0 0 3 = k.code → k.target = 0 →
            (if b1 = 0 then some ({ kind := k, underway := bit b0 7 } : IntentFrame) else none) = some i →
              i.encode = [b0, b1] := by
          intro k code target read
          split at read
          next none =>
            cases read
            rw [IntentFrame.encode, first k code, target, none]
            rfl
          · cases read
        dsimp only at h
        split at h
        next code => exact plain .release code rfl h
        next code => exact plain .toOpen code rfl h
        next code => exact plain .toClose code rfl h
        next code => exact plain .stop code rfl h
        next code => exact plain .reset code rfl h
        next code =>
          cases h
          rw [IntentFrame.encode, first (.single _ _ _) code, (targetByte_eq_iff _ _ _ b1).mpr ⟨even, ⟨rfl, rfl⟩, rfl⟩]
        · cases h
    · cases h
  · rintro rfl
    obtain ⟨k, u⟩ := i
    cases k with
    | single n f d =>
      obtain ⟨zero, code, underway⟩ := (intentByte_eq_iff (.single n f d) u _).mp rfl
      obtain ⟨even, ⟨station, function⟩, direction⟩ := (targetByte_eq_iff n f d _).mp rfl
      rw [IntentFrame.encode, decodeIntent, if_neg (by rw [zero, even]; decide), code, ← underway, ← station, ← function,
        ← direction]
      rfl
    | release | toOpen | toClose | stop | reset => cases u <;> decide

/-! ## ANNOUNCE (R47) -/

theorem toNat_append_byte {w : Nat} (x : BitVec w) (b : Byte) : (x ++ b).toNat = x.toNat * 256 + b.toNat := by
  rw [BitVec.toNat_append, ← Nat.shiftLeft_add_eq_or_of_lt b.isLt, Nat.shiftLeft_eq]

/-- A fingerprint is the four bytes that spell it, most significant first (R47). -/
theorem be32_eq_iff (x : BitVec 32) (f0 f1 f2 f3 : Byte) : bytesOf32 x = [f0, f1, f2, f3] ↔ be32 [f0, f1, f2, f3] 0 = x := by
  have joined : (be32 [f0, f1, f2, f3] 0).toNat =
      ((f0.toNat * 256 + f1.toNat) * 256 + f2.toNat) * 256 + f3.toNat := by
    show (f0 ++ f1 ++ f2 ++ f3).toNat = _
    rw [toNat_append_byte, toNat_append_byte, toNat_append_byte]
  have := x.isLt
  have := f0.isLt
  have := f1.isLt
  have := f2.isLt
  have := f3.isLt
  rw [bytesOf32, ← BitVec.toNat_inj, joined]
  simp only [List.cons.injEq, and_true, ← BitVec.toNat_inj, BitVec.extractLsb'_toNat, Nat.shiftRight_eq_div_pow]
  omega

theorem announceFlags_eq_iff (ask fault : Bool) (c : LoadFault) (b : Byte) :
    byte (flagAt ask 7 + flagAt fault 6 + c.code) = b ↔
      ask = bit b 7 ∧ fault = bit b 6 ∧ c.code = field b 0 3 ∧ field b 3 3 = 0 := by
  have := c.code_lt
  have := b.isLt
  have := Bool.toNat_lt ask
  have := Bool.toNat_lt fault
  rw [flagAt_eq, flagAt_eq, byte_eq_iff (by omega), eq_bit_iff, eq_bit_iff, field, field]
  omega

theorem causeByte_eq_iff (c : ResetCause) (b : Byte) : byte (causeCode c) = b ↔
    causeCode c = field b 0 2 ∧ field b 2 6 = 0 := by
  have := causeCode_lt c
  have := b.isLt
  rw [byte_eq_iff (by omega), field, field]
  omega

/-- An ANNOUNCE is read exactly of its seven bytes. -/
theorem decodeAnnounce_eq_some_iff (data : List Byte) (a : AnnounceFrame) :
    decodeAnnounce data = some a ↔ a.encode = data := by
  constructor
  · intro h
    unfold decodeAnnounce at h
    split at h
    next r f0 f1 f2 f3 c fl =>
      split at h
      next role cause cls ofRole ofCause ofCls =>
        split at h
        next ok =>
          obtain rfl := Option.some.inj h
          rw [roleOf_eq_some_iff] at ofRole
          rw [causeOf_eq_some_iff] at ofCause
          rw [loadFaultOf_eq_some_iff] at ofCls
          have small := role.code_lt
          rw [AnnounceFrame.encode, (byte_eq_iff (by omega) r).mpr ofRole.symm, (be32_eq_iff _ f0 f1 f2 f3).mpr rfl,
            (causeByte_eq_iff cause c).mpr ⟨ofCause, ok.1⟩,
            (announceFlags_eq_iff _ _ cls fl).mpr ⟨rfl, rfl, ofCls, ok.2⟩]
          rfl
        · cases h
      · cases h
    · cases h
  · rintro rfl
    have small := a.role.code_lt
    have role : (byte a.role.code).toNat = a.role.code := (byte_eq_iff (by omega) _).mp rfl
    obtain ⟨cause, causeZero⟩ := (causeByte_eq_iff a.cause _).mp rfl
    obtain ⟨ask, fault, cls, flagsZero⟩ := (announceFlags_eq_iff a.ask a.configFault a.cls _).mp rfl
    have fingerprint := (be32_eq_iff a.fingerprint _ _ _ _).mp rfl
    rw [AnnounceFrame.encode, bytesOf32, List.cons_append, List.cons_append, List.cons_append, List.cons_append, List.nil_append,
      decodeAnnounce, role, ← cause, ← cls, (roleOf_eq_some_iff _ _).mpr rfl, (causeOf_eq_some_iff _ _).mpr rfl,
      (loadFaultOf_eq_some_iff _ _).mpr rfl]
    dsimp only
    rw [if_pos ⟨causeZero, flagsZero⟩, ← ask, ← fault, fingerprint]

/-! ## The obligation -/

/-- Settles O53: each decoder answers a content exactly at its bytes. -/
theorem frameContentsRoundTrip : Obligations.FrameContentsRoundTrip := by
  unfold Obligations.FrameContentsRoundTrip
  refine ⟨fun b r active cause wf => ?_, fun data b r read => ?_, fun t => ?_, fun data t read => ?_, fun i => ?_,
    fun data i read => ?_, fun a => ?_, fun data a read => ?_⟩
  · exact (decodeStatus_eq_some_iff _ b r).mpr ⟨⟨active, cause, wf⟩, rfl⟩
  · exact ((decodeStatus_eq_some_iff data b r).mp read).2
  · exact (decodeTrip_eq_some_iff _ t).mpr rfl
  · exact (decodeTrip_eq_some_iff data t).mp read
  · exact (decodeIntent_eq_some_iff _ i).mpr rfl
  · exact (decodeIntent_eq_some_iff data i).mp read
  · exact (decodeAnnounce_eq_some_iff _ a).mpr rfl
  · exact (decodeAnnounce_eq_some_iff data a).mp read

end Sys2Proof.Machine
end

section
/-! The causes for a STATUS (R48, R49): the published values, one by one; what a change of one of them requests; and the relation
between two states that lie around operations of which the publisher has examined each. -/

namespace Sys2Proof.Machine

/-! ## The published values -/

/-- The values of a STATUS that are compared one by one: the station byte, a field of the record, a position (R48). -/
inductive Published where
  | byte
  | field (k : Nat)
  | position (k : Nat)

/-- What a station shows at a published value, if its role publishes. -/
def State.shown (s : State) : Published → Option Nat
  | .byte => s.ownRecord.map (fun _ => s.stationByte.toNat)
  | .field k => s.ownRecord.bind (fun r => r.fields[k]?)
  | .position k => s.ownRecord.bind (fun r => r.positions[k]?)

/-- The last-sent copy. -/
def State.copy (s : State) : Option (Byte × Record) := s.pub.lastSent.bind decodeStatus

/-- A value differs from the last-sent copy so that a change to it is a cause; without a copy every value does (R48). -/
def Strays (copy : Option (Byte × Record)) (step : Nat) : Published → Nat → Prop
  | .byte, v => ∀ cb rc, copy = some (cb, rc) → v ≠ cb.toNat
  | .field k, v => ∀ cb rc, copy = some (cb, rc) → ∃ x, rc.fields[k]? = some x ∧ v ≠ x
  | .position k, v => ∀ cb rc, copy = some (cb, rc) → ∃ x, rc.positions[k]? = some x ∧ v ≠ x ∧
      (v = 1023 ∨ x = 1023 ∨ step ≤ apart v x)

theorem shown_published {s : State} {i : Published} {v : Nat} (h : s.shown i = some v) : ∃ r, s.ownRecord = some r := by
  cases i with
  | byte => exact (Option.map_eq_some_iff.mp h).imp fun _ e => e.1
  | field k => exact (Option.bind_eq_some_iff.mp h).imp fun _ e => e.1
  | position k => exact (Option.bind_eq_some_iff.mp h).imp fun _ e => e.1

/-! ## A change that strays is a cause -/

theorem fieldCause_of_getElem? {o v x : Nat} : ∀ {k : Nat} {old new copy : List Nat}, old[k]? = some o → new[k]? = some v →
    copy[k]? = some x → v ≠ o → v ≠ x → fieldCause old new copy = true
  | 0, _ :: _, _ :: _, _ :: _, ho, hv, hx, now, strays => by
      cases ho; cases hv; cases hx
      simp [fieldCause, now, strays]
  | k + 1, _ :: _, _ :: _, _ :: _, ho, hv, hx, now, strays => by
      rw [fieldCause, fieldCause_of_getElem? (k := k) ho hv hx now strays, Bool.or_true]

theorem positionCause_of_getElem? {step o v x : Nat} (now : v ≠ o) (strays : v ≠ x)
    (far : v = 1023 ∨ x = 1023 ∨ step ≤ apart v x) : ∀ {k : Nat} {old new copy : List Nat}, old[k]? = some o →
    new[k]? = some v → copy[k]? = some x → positionCause step old new copy = true
  | 0, _ :: _, _ :: _, _ :: _, ho, hv, hx => by
      cases ho; cases hv; cases hx
      have far : v = 1023 ∨ x = 1023 ∨ step ≤ apart v x := far
      simp [positionCause, Config.noPosition, now, strays, far, or_assoc]
  | k + 1, _ :: _, _ :: _, _ :: _, ho, hv, hx => by
      rw [positionCause, positionCause_of_getElem? now strays far (k := k) ho hv hx, Bool.or_true]

/-- A published value that has changed and strays from the copy is a cause (R48). -/
theorem isCause_of_shown {s t : State} {i : Published} {o v : Nat} (old : s.shown i = some o) (new : t.shown i = some v)
    (now : v ≠ o) (strays : Strays t.copy t.timing.positionStep i v) : isCause s t = true := by
  obtain ⟨ro, so⟩ := shown_published old
  obtain ⟨rn, tn⟩ := shown_published new
  unfold isCause
  rw [so, tn]
  dsimp only
  split
  next none =>
    rw [Bool.or_eq_true, bne_iff_ne, bne_iff_ne, ← not_and_or]
    rintro ⟨byte, record⟩
    have same : t.shown i = s.shown i := by
      unfold State.shown
      rw [byte, so, tn, record]
    rw [old, new] at same
    exact now (Option.some.inj same)
  next cb rc copy =>
    cases i with
    | byte =>
      have stray : v ≠ cb.toNat := strays cb rc copy
      simp only [State.shown, so, tn, Option.map_some, Option.some.injEq] at old new
      subst old new
      have moved : t.stationByte ≠ s.stationByte := fun e => now (congrArg _ e)
      have away : t.stationByte ≠ cb := fun e => stray (congrArg _ e)
      simp [moved, away]
    | field k =>
      obtain ⟨x, kept, stray⟩ := strays cb rc copy
      rw [State.shown, so] at old
      rw [State.shown, tn] at new
      rw [fieldCause_of_getElem? old new kept now stray, Bool.or_true, Bool.true_or]
    | position k =>
      obtain ⟨x, kept, stray, far⟩ := strays cb rc copy
      rw [State.shown, so] at old
      rw [State.shown, tn] at new
      rw [positionCause_of_getElem? now stray far old new kept, Bool.or_true]

/-! ## What a cause requests -/

/-- A STATUS is queued or under way, or its cause is deferred while the inhibit is in force (R49). -/
def Requested (s : State) : Prop := if s.pub.inhibit then s.pub.deferred = true else s.loop.status ≠ .empty

theorem statusRequest_ne_empty (x : Slot Unit) : statusRequest x ≠ .empty := by
  cases x <;> simp [statusRequest]

/-- An ACTIVE station whose role publishes requests a STATUS at a cause (R38, R48, R49). -/
theorem statusCause_requested {s : State} (active : s.isActive = true) {r : Record} (h : s.ownRecord = some r) :
    Requested s.statusCause := by
  have may : s.mayQueue .status = true := by
    unfold State.ownRecord at h
    unfold State.mayQueue State.isPanel
    rw [active]
    cases e : s.role with
    | motion | pump | panelCommand | panelStop => rfl
    | unused | monitor =>
      rw [e] at h
      nomatch h
  unfold State.statusCause
  rw [if_pos may]
  split
  next inhibit => exact (if_pos (show s.pub.inhibit = true from inhibit)).mpr rfl
  next inhibit => exact (if_neg (show ¬s.pub.inhibit = true from inhibit)).mpr (statusRequest_ne_empty _)

/-! ## The frame of an operation that the publisher examines -/

/-- What an operation leaves to the publisher: the life cycle, the configuration, the publisher itself and the STATUS slot stay,
and a grant list of at most 8 stays one. -/
structure Aside (s t : State) : Prop where
  life : t.life = s.life
  setup : t.setup = s.setup
  pub : t.pub = s.pub
  status : t.loop.status = s.loop.status
  few : s.flow.grants.length ≤ 8 → t.flow.grants.length ≤ 8

/-- Most operations leave the grant list itself. -/
theorem Aside.kept {s t : State} (h : (t.life, t.setup, t.pub, t.loop.status, t.flow.grants) =
    (s.life, s.setup, s.pub, s.loop.status, s.flow.grants)) : Aside s t := by
  simp only [Prod.mk.injEq] at h
  obtain ⟨life, setup, pub, status, grants⟩ := h
  exact ⟨life, setup, pub, status, fun few => by rw [grants]; exact few⟩

/-- Two states around operations that the publisher has examined, each: every change of a published value that strays from the
last-sent copy has been requested. -/
structure Examined (s t : State) : Prop where
  life : t.life = s.life
  setup : t.setup = s.setup
  lastSent : t.pub.lastSent = s.pub.lastSent
  inhibit : t.pub.inhibit = s.pub.inhibit
  deferred : s.pub.deferred = true → t.pub.deferred = true
  status : s.loop.status ≠ .empty → t.loop.status ≠ .empty
  few : s.flow.grants.length ≤ 8 → t.flow.grants.length ≤ 8
  asks : s.isActive = true → s.flow.grants.length ≤ 8 → ∀ {i : Published} {o v : Nat}, s.shown i = some o →
    t.shown i = some v → v ≠ o → Strays s.copy s.timing.positionStep i v → Requested t

/-- How many fields and positions the record of a role has, with a grant list of at most 8 (R41 to R44). -/
def Role.sizes : Role → Option (Nat × Nat)
  | .motion => some (24, 4)
  | .pump => some (12, 0)
  | .panelCommand | .panelStop => some (2, 0)
  | .unused | .monitor => none

theorem ownRecord_sizes {s : State} (few : s.flow.grants.length ≤ 8) :
    s.ownRecord.map (fun r => (r.fields.length, r.positions.length)) = s.role.sizes := by
  unfold State.ownRecord
  cases s.role with
  | pump => simp [Record.fields, Record.positions, Role.sizes, grantBytes_length few]
  | unused | motion | panelCommand | panelStop | monitor => rfl

/-- Whether a station shows a value is a matter of its role. -/
theorem shown_isSome {s : State} (few : s.flow.grants.length ≤ 8) (i : Published) : (s.shown i).isSome =
    s.role.sizes.any (fun p => match i with
      | .byte => true
      | .field k => decide (k < p.1)
      | .position k => decide (k < p.2)) := by
  have count : ∀ (l : List Nat) (k : Nat), (l[k]?).isSome = decide (k < l.length) := by
    intro l k
    rw [Bool.eq_iff_iff]
    simp
  rw [← ownRecord_sizes few]
  unfold State.shown
  cases s.ownRecord with
  | none => cases i <;> rfl
  | some r =>
    cases i with
    | byte => rfl
    | field k => exact count _ k
    | position k => exact count _ k

namespace Examined

theorem isActive {s t : State} (h : Examined s t) : t.isActive = s.isActive := by
  unfold State.isActive
  rw [h.life]

theorem copy {s t : State} (h : Examined s t) : t.copy = s.copy := by
  unfold State.copy
  rw [h.lastSent]

theorem timing {s t : State} (h : Examined s t) : t.timing = s.timing := by
  unfold State.timing State.cfg
  rw [h.setup]

/-- What is requested stays so. -/
theorem requested {s t : State} (h : Examined s t) (r : Requested s) : Requested t := by
  unfold Requested at r ⊢
  rw [h.inhibit]
  split at r
  next c => rw [if_pos c]; exact h.deferred r
  next c => rw [if_neg c]; exact h.status r

theorem trans {s t u : State} (h : Examined s t) (k : Examined t u) : Examined s u where
  life := k.life.trans h.life
  setup := k.setup.trans h.setup
  lastSent := k.lastSent.trans h.lastSent
  inhibit := k.inhibit.trans h.inhibit
  deferred d := k.deferred (h.deferred d)
  status d := k.status (h.status d)
  few f := k.few (h.few f)
  asks active few i o v old new now strays := by
    have shows : (t.shown i).isSome = true := by
      have role : t.role = s.role := by
        unfold State.role State.cfg
        rw [h.setup]
      rw [shown_isSome (h.few few), role, ← shown_isSome few, old]
      rfl
    obtain ⟨m, between⟩ := Option.isSome_iff_exists.mp shows
    by_cases same : v = m
    · subst same
      exact k.requested (h.asks active few old between now strays)
    · exact k.asks (h.isActive.trans active) (h.few few) between new same (by rw [h.copy, h.timing]; exact strays)

/-- An operation that no published value shows. -/
theorem silent {s t : State} (h : Aside s t) (byte : t.stationByte = s.stationByte)
    (record : t.ownRecord = s.ownRecord) : Examined s t where
  life := h.life
  setup := h.setup
  lastSent := by rw [h.pub]
  inhibit := by rw [h.pub]
  deferred d := by rw [h.pub]; exact d
  status d := by rw [h.status]; exact d
  few := h.few
  asks _ _ i o v old new now _ := by
    have same : t.shown i = s.shown i := by
      unfold State.shown
      rw [byte, record]
    rw [old, new] at same
    exact absurd (Option.some.inj same) now

theorem refl (s : State) : Examined s s := silent (.kept rfl) rfl rfl

/-- An operation that the publisher examines at once (R48). -/
theorem act {op : State → State} {s : State} (h : Aside s (op s)) : Examined s (s.act op) := by
  have asked := act_asked op s
  have rest := act_eq op s
  have published : ∀ i, (s.act op).shown i = (op s).shown i := by
    intro i
    rw [rest]
    rfl
  have still : Requested (op s).statusCause → isCause s (op s) = true → Requested (s.act op) := fun r c => by
    unfold State.act
    dsimp only
    rw [if_pos c]
    exact r
  refine ⟨by rw [act_life, h.life], by rw [act_setup, h.setup], by rw [rest, ← h.pub], by rw [rest, ← h.pub],
    fun d => asked.deferred (by rw [h.pub]; exact d), fun d => ?_, fun f => by rw [act_flow]; exact h.few f, ?_⟩
  · rcases asked.status with e | e <;> rw [e]
    · rw [h.status]
      exact d
    · exact statusRequest_ne_empty _
  · intro active few i o v old new now strays
    rw [published] at new
    have copy : (op s).copy = s.copy := by
      unfold State.copy
      rw [h.pub]
    have timing : (op s).timing = s.timing := by
      unfold State.timing State.cfg
      rw [h.setup]
    obtain ⟨r, own⟩ := shown_published new
    refine still (statusCause_requested ?_ own) (isCause_of_shown old new now (by rw [copy, timing]; exact strays))
    unfold State.isActive at active ⊢
    rw [h.life]
    exact active

end Examined

end Sys2Proof.Machine
end

section
/-! The operations that the events share, each seen by the publisher: whatever published value one of them changes, it changes
under an examination (R48, R58). -/

namespace Sys2Proof.Machine

/-! ## Changes that no STATUS shows -/

/-- The own record reads of an input its accepted level, and of a function its state, target and fault, its end state and its
position. -/
theorem ownRecord_of_slots {s t : State} (setup : t.setup = s.setup) (flow : t.flow = s.flow) (panel : t.panel = s.panel)
    (guard : t.guard = s.guard) (inputs : ∀ i : InputId, (t.field.di[i]).accepted = (s.field.di[i]).accepted)
    (fns : ∀ f : FnId, (t.fns[f]).motion = (s.fns[f]).motion ∧ (t.fns[f]).target = (s.fns[f]).target ∧
      (t.fns[f]).fault = (s.fns[f]).fault)
    (field : ∀ f : FnId, (t.field.fns[f]).endState = (s.field.fns[f]).endState ∧
      (t.field.fns[f]).position = (s.field.fns[f]).position) : t.ownRecord = s.ownRecord := by
  have cfg : t.cfg = s.cfg := by rw [State.cfg, setup, State.cfg]
  have records : ∀ f : FnId, t.fnRecord f = s.fnRecord f := by
    intro f
    obtain ⟨motion, target, fault⟩ := fns f
    obtain ⟨endState, position⟩ := field f
    unfold State.fnRecord State.profile State.fnSetup
    dsimp only
    rw [motion, target, fault, endState, position, guard, cfg]
  have levels : t.entryActive = s.entryActive := by
    funext e
    cases e with
    | none => rfl
    | some i =>
      unfold State.entryActive State.accepted
      dsimp only
      rw [inputs]
  have flags : t.panelRecord = s.panelRecord := by
    unfold State.panelRecord
    rw [panel, levels, cfg]
  unfold State.ownRecord State.role
  rw [cfg, flow, flags, records, records, records, records]

/-! ## A grant list stays within its size (R156, R166) -/

theorem revoke_length (queue : List Claim) (capacity : Nat) : ∀ (n : Nat) (gs : List (StationId × FnId)),
    (revoke queue capacity n gs).length ≤ gs.length
  | 0, _ => Nat.le_refl _
  | n + 1, gs => by
      unfold revoke
      split
      · exact Nat.le_refl _
      · split
        · exact Nat.le_refl _
        · exact (revoke_length queue capacity n _).trans List.length_erase_le

theorem grantWalk_length (capacity : Nat) : ∀ (cs : List Claim) (gs : List (StationId × FnId)) (used : Nat),
    gs.length ≤ 8 → (grantWalk capacity cs gs used).1.length ≤ 8
  | [], _, _, few => few
  | c :: cs, gs, used, few => by
      unfold grantWalk
      split
      · exact grantWalk_length capacity cs gs used few
      · split
        · exact few
        next room =>
          split
          · refine grantWalk_length capacity cs _ _ ?_
            unfold Config.maxGrants at room
            simp only [List.length_append, List.length_singleton]
            omega
          · exact few

theorem startPump_grants (s : State) (x : Flow) : (s.startPump x).grants = x.grants := by
  unfold State.startPump Flow.setPump
  split
  · rfl
  · split
    · rfl
    · split <;> rfl

theorem followIdle_grants (n : Nat) (x : Flow) : (x.followIdle n).grants = x.grants := by
  unfold Flow.followIdle
  split <;> rfl

theorem computed_few {s : State} (few : s.flow.grants.length ≤ 8) : s.computed.grants.length ≤ 8 := by
  have revoked : ∀ (queue : List Claim) (capacity n : Nat),
      (revoke queue capacity n (s.flow.align s.shownClaims).grants).length ≤ 8 := fun _ _ _ =>
    (revoke_length _ _ _ _).trans ((List.length_filter_le _ _).trans few)
  unfold State.computed
  dsimp only
  rw [followIdle_grants]
  split
  · exact revoked _ _ _
  · split
    · rw [startPump_grants]
      exact grantWalk_length _ _ _ _ (revoked _ _ _)
    · exact grantWalk_length _ _ _ _ (revoked _ _ _)

namespace Examined

/-- A change of a function controller that leaves its state, target and fault. -/
theorem onFn {f : FnId} {g : Fn → Fn} (s : State) (motion : ∀ x, (g x).motion = x.motion)
    (target : ∀ x, (g x).target = x.target) (fault : ∀ x, (g x).fault = x.fault) :
    Examined s (s.onFn f g) := by
  refine silent (.kept rfl) rfl (ownRecord_of_slots rfl rfl rfl rfl (fun _ => rfl) (fun h => ?_) (fun _ => ⟨rfl, rfl⟩))
  by_cases same : f = h
  · subst same
    rw [State.onFn_same]
    exact ⟨motion _, target _, fault _⟩
  · rw [State.onFn_other s g same]
    exact ⟨rfl, rfl, rfl⟩

/-- A change of a function's field inputs that leaves its end state and position. -/
theorem onFnField {f : FnId} {g : FnField → FnField} (s : State)
    (endState : ∀ x, (g x).endState = x.endState)
    (position : ∀ x, (g x).position = x.position) : Examined s (s.onFnField f g) := by
  refine silent (.kept rfl) rfl (ownRecord_of_slots rfl rfl rfl rfl (fun _ => rfl) (fun _ => ⟨rfl, rfl, rfl⟩) (fun h => ?_))
  by_cases same : f = h
  · subst same
    rw [State.onFnField_same]
    exact ⟨endState _, position _⟩
  · rw [State.onFnField_other s g same]
    exact ⟨rfl, rfl⟩

/-- One branch or the other. -/
theorem ite {s t u : State} {c : Prop} [Decidable c] (a : c → Examined s t) (b : ¬c → Examined s u) :
    Examined s (if c then t else u) := by
  split
  next h => exact a h
  next h => exact b h

theorem eachFn {op : FnId → State → State} (h : ∀ f s, Examined s (op f s)) (s : State) : Examined s (s.eachFn op) :=
  (((h 0 s).trans (h 1 _)).trans (h 2 _)).trans (h 3 _)

theorem foldl {α : Type} {op : α → State → State} (h : ∀ a s, Examined s (op a s)) (as : List α) :
    ∀ s : State, Examined s (as.foldl (fun t a => op a t) s) := by
  induction as with
  | nil => exact refl
  | cons a as ih => exact fun s => (h a s).trans (ih _)

/-! ## One function moves -/

theorem endStopping (f : FnId) (s : State) : Examined s (s.endStopping f) := act (.kept rfl)

theorem enterStopping (f : FnId) (c : FaultCode) (s : State) : Examined s (s.enterStopping f c) := by
  have first : Examined s (s.act (State.onFn f (fun x => { x.quiet with motion := .stopping, fault := c }))) :=
    act (.kept rfl)
  exact ite (fun _ => first.trans (endStopping f _)) (fun _ => first)

theorem toRest (f : FnId) (s : State) : Examined s (s.act (State.toIdle .rest f)) := act (.kept rfl)

theorem immediateStop (f : FnId) (s : State) : Examined s (s.immediateStop f) := by
  unfold State.immediateStop
  dsimp only
  generalize (if (s.fns[f]).fault.latched then (s.fns[f]).fault else FaultCode.stopped) = code
  have first : Examined s (s.act (fun t => (t.toIdle .rest f).onFn f (fun y => { y with fault := code }))) := act (.kept rfl)
  have held : ∀ t : State, Examined t (t.act (State.onFn f (fun y => { y with motion := .heldFault }))) :=
    fun _ => act (.kept rfl)
  exact ite (fun _ => ite (fun _ => first.trans (held _)) (fun _ => first))
    (fun _ => ite (fun _ => toRest f s) (fun _ => refl s))

theorem halt (f : FnId) (s : State) : Examined s (s.halt f) := by
  unfold State.halt
  split
  · exact toRest f s
  · exact enterStopping f _ s
  · exact enterStopping f _ s
  · exact enterStopping f _ s
  · exact refl s

theorem leaveRest (f : FnId) (d : Dir) (s : State) : Examined s (s.leaveRest f d) := act (.kept rfl)

theorem enterPressurise (f : FnId) (s : State) : Examined s (s.enterPressurise f) := by
  unfold State.enterPressurise
  exact act (.kept rfl)

theorem enterTravel (f : FnId) (s : State) : Examined s (s.enterTravel f) := act (.kept rfl)

theorem endSeat (f : FnId) (s : State) : Examined s (s.endSeat f) :=
  ite (fun _ => enterStopping f _ s) (fun _ => toRest f s)

theorem enterSeat (f : FnId) (s : State) : Examined s (s.enterSeat f) := by
  have first : Examined s (s.act (State.onFn f (fun x => { x.quiet with
      motion := .seat, seat := some (s.profile f).seatTime }))) := act (.kept rfl)
  exact ite (fun _ => first.trans (endSeat f _)) (fun _ => first)

theorem releaseAt (f : FnId) (s : State) : Examined s (s.releaseAt f) :=
  ite (fun _ => ite (fun _ => onFn s (fun _ => rfl) (fun _ => rfl) (fun _ => rfl))
    (fun _ => ite (fun _ => onFn s (fun _ => rfl) (fun _ => rfl) (fun _ => rfl)) (fun _ => refl s))) (fun _ => refl s)

theorem pumpNoticeAt (f : FnId) (s : State) : Examined s (s.pumpNoticeAt f) := by
  have lost : Examined s (if s.holdsGrant f then s else s.enterStopping f .grantLost) :=
    ite (fun _ => refl s) (fun _ => enterStopping f _ s)
  unfold State.pumpNoticeAt
  split
  · exact ite (fun _ => enterPressurise f s) (fun _ => refl s)
  · exact lost
  · exact lost
  · exact lost
  · exact refl s

/-! ## Evaluations -/

theorem evaluate (s : State) : Examined s s.evaluate := ite (fun _ => act (.kept rfl)) (fun _ => refl s)

theorem permitStop {f : FnId} {d : Dir} {s t : State} (e : s.permitStop f d = some t) : Examined s t := by
  unfold State.permitStop at e
  dsimp only at e
  split at e
  · cases e
  · cases e; exact enterStopping f _ s

theorem demandStop {f : FnId} {d : Dir} {s t : State} (e : s.demandStop f d = some t) : Examined s t := by
  unfold State.demandStop at e
  split at e
  · cases e
  · split at e
    · cases e; exact enterSeat f s
    · cases e; exact enterStopping f _ s

theorem stopFor {f : FnId} {d : Dir} {s t : State} (e : s.stopFor f d = some t) : Examined s t := by
  unfold State.stopFor at e
  split at e <;> rcases Option.or_eq_some_iff.mp e with e | ⟨_, e⟩
  · exact permitStop e
  · exact demandStop e
  · exact demandStop e
  · exact permitStop e

theorem react {f : FnId} {s t : State} (e : s.react f = some t) : Examined s t := by
  unfold State.react at e
  split at e
  · split at e
    · cases e; exact leaveRest f _ s
    · split at e
      · cases e; exact leaveRest f _ s
      · cases e
  · split at e
    · cases e
    · cases e; exact toRest f s
  · exact stopFor e
  · exact stopFor e
  · exact stopFor e
  · cases e

theorem sweep (fs : List FnId) : ∀ s : State, Examined s (State.sweep fs s).1 := by
  induction fs with
  | nil => exact refl
  | cons f fs ih =>
    intro s
    unfold State.sweep
    split
    · exact ih s
    next e => exact ((react e).trans (evaluate _)).trans (ih _)

theorem settleRounds (n : Nat) : ∀ s : State, Examined s (State.settleRounds n s) := by
  induction n with
  | zero => exact refl
  | succ n ih =>
    intro s
    have swept := sweep s.choice.functions s
    unfold State.settleRounds
    split
    next e => rw [e] at swept; exact swept.trans (ih _)
    next e => rw [e] at swept; exact swept

theorem settle (s : State) : Examined s s.settle :=
  ite (fun _ => (evaluate s).trans (settleRounds _ _)) (fun _ => refl s)

theorem stopNow (s : State) : Examined s s.stopNow := by
  have still : ∀ t : State, Examined t { t with drive := Vector.replicate 4 Drive.off } :=
    fun _ => silent (.kept rfl) rfl rfl
  exact (eachFn immediateStop s).trans (still _)

/-! ## The flow arbiter -/

theorem arbitrate (s : State) : Examined s s.arbitrate :=
  ite (fun _ => act ⟨rfl, rfl, rfl, rfl, computed_few⟩) (fun _ => refl s)

theorem pumpEnters (p : PumpId) (m : PumpState) (s : State) : Examined s (s.pumpEnters p m) :=
  act ⟨rfl, rfl, rfl, rfl, by cases p <;> exact id⟩

theorem pumpGateStop (p : PumpId) (s : State) : Examined s (s.pumpGateStop p) :=
  ite (fun _ => pumpEnters p _ s) (fun _ => refl s)

theorem gateEdge (old s : State) : Examined s (State.gateEdge old s) :=
  ite (fun _ => ite (fun _ => ((pumpGateStop .a s).trans (pumpGateStop .b _)).trans (arbitrate _))
    (fun _ => ite (fun _ => arbitrate s) (fun _ => refl s))) (fun _ => refl s)

theorem pumpReset (p : PumpId) (s : State) : Examined s (s.pumpReset p) :=
  ite (fun _ => pumpEnters p _ s) (fun _ => refl s)

theorem idleStop (p : PumpId) (s : State) : Examined s (s.idleStop p) :=
  ite (fun _ => pumpEnters p _ s) (fun _ => refl s)

theorem pumpInputAt (i : InputId) (p : PumpId) (s : State) : Examined s (s.pumpInputAt i p) :=
  ite (fun _ => pumpEnters p _ s) (fun _ => refl s)

theorem pumpInput (i : InputId) (s : State) : Examined s (s.pumpInput i) := by
  have both := (pumpInputAt i .a s).trans (pumpInputAt i .b _)
  exact ite (fun _ => ite (fun _ => both.trans (arbitrate _)) (fun _ => both)) (fun _ => refl s)

/-! ## Notices of the image -/

theorem releaseNotice (n : StationId) (s : State) : Examined s (s.releaseNotice n) :=
  ite (fun _ => eachFn releaseAt s) (fun _ => refl s)

theorem pumpNotice (n : StationId) (s : State) : Examined s (s.pumpNotice n) :=
  ite (fun _ => foldl pumpNoticeAt _ s) (fun _ => refl s)

theorem claimNotice (n : StationId) (s : State) : Examined s (s.claimNotice n) :=
  ite (fun _ => arbitrate s) (fun _ => refl s)

theorem changeNotice (n : StationId) (s : State) : Examined s (s.changeNotice n) := by
  have first : Examined s (if (s.releaseNotice n).choice.guardFirst then (s.releaseNotice n).settle else s.releaseNotice n) :=
    ite (fun _ => (releaseNotice n s).trans (settle _)) (fun _ => releaseNotice n s)
  exact ((first.trans (pumpNotice n _)).trans (claimNotice n _)).trans (settle _)

/-! ## Trips and faults -/

theorem trips (v : Vector (Option StopClass) 16) (s : State) : Examined s (s.onUnit (fun u => { u with trips := v })) :=
  silent (.kept rfl) rfl rfl

theorem tripGained (old : State) (c : Option StopClass) (s : State) : Examined s (State.tripGained old c s) := by
  unfold State.tripGained
  split
  · exact refl s
  · exact (stopNow s).trans (gateEdge old _)
  · exact eachFn halt s

theorem enterTrip (n : StationId) (c : StopClass) (s : State) : Examined s (s.enterTrip n c) :=
  (trips _ s).trans (tripGained s _ _)

theorem queueTrip (r : TripReason) (s : State) : Examined s (s.queueTrip r) :=
  ite (fun _ => silent (.kept rfl) rfl rfl) (fun _ => refl s)

theorem requeueTrip (s : State) : Examined s s.requeueTrip := by
  unfold State.requeueTrip
  split
  · exact queueTrip _ s
  · exact refl s

theorem raiseCause (s : State) : Examined s s.raiseCause := by
  have asserted : Examined s (s.act (State.onUnit (fun u => { u with tripAsserted := true }))) := act (.kept rfl)
  refine ite (fun _ => ?_) (fun _ => refl s)
  split
  · exact refl s
  · exact (asserted.trans (enterTrip _ _ _)).trans (queueTrip _ _)

theorem removeTrip (n : StationId) (s : State) : Examined s (s.removeTrip n) :=
  ite (fun _ => trips _ s) (fun _ => refl s)

theorem removeTrips (ns : List StationId) (s : State) : Examined s (s.removeTrips ns) :=
  (foldl removeTrip ns s).trans (gateEdge s _)

theorem statusNotice (n : StationId) (s : State) : Examined s (s.statusNotice n) := (removeTrips [n] s).trans (settle _)

theorem stationStop (old s : State) : Examined s (State.stationStop old s) :=
  ite (fun _ => (((stopNow s).trans (gateEdge old _)).trans (raiseCause _)).trans (settle _)) (fun _ => refl s)

theorem takeLatched (f : FnId) (c : FaultCode) (s : State) : Examined s (s.takeLatched f c) := by
  have shown : Examined s (s.act (State.onFn f (fun x => { x with fault := shownFault (s.fns[f]).fault c }))) :=
    act (.kept rfl)
  have held : ∀ t : State, Examined t (t.act (State.toIdle .heldFault f)) := fun _ => act (.kept rfl)
  have risen : ∀ t : State, Examined s t → Examined s (if c.raisesTrip = true then t.raiseCause else t) := fun t h =>
    ite (fun _ => h.trans (raiseCause t)) (fun _ => h)
  unfold State.takeLatched
  dsimp only
  apply risen
  split
  · exact ite (fun _ => shown.trans (held _)) (fun _ => shown)
  · exact shown.trans (held _)
  · exact shown.trans (enterStopping f _ _)
  · exact shown.trans (enterStopping f _ _)
  · exact shown.trans (enterStopping f _ _)
  · exact shown

/-! ## Positions, ends and pressure -/

/-- A new position (R100, R101). -/
theorem position (f : FnId) (p : Nat) (s : State) :
    Examined s (s.act (State.onFnField f (fun y => { y with position := p }))) := act (.kept rfl)

theorem supervise (f : FnId) (s : State) : Examined s (s.supervise f) := by
  refine ite (fun _ => ?_) (fun _ => refl s)
  split
  · exact refl s
  · exact ite (fun _ => takeLatched f _ s) (fun _ => act (.kept rfl))

theorem convert (f : FnId) (x : FnSetup) (raw : Reading) (s : State) : Examined s (s.convert f x raw) := by
  have read : Examined s (s.onFnField f (fun y => { y with lastRaw := some (unclamped x raw) })) :=
    onFnField s (fun _ => rfl) (fun _ => rfl)
  exact ite (fun _ => read) (fun _ => ite (fun _ => (read.trans (position f _ _)).trans (takeLatched f _ _))
    (fun _ => ite (fun _ => read) (fun _ => (read.trans (position f _ _)).trans (supervise f _))))

theorem driveStages (f : FnId) (s : State) : Examined s (s.driveStages f) := by
  have tripped : Examined s (if s.skewTrips f then s.takeLatched f .skew else s) :=
    ite (fun _ => takeLatched f _ s) (fun _ => refl s)
  have driven : ∀ (t : State) (g : Drive → Drive), Examined t (t.onDrive f g) := fun _ _ => silent (.kept rfl) rfl rfl
  exact ite (fun _ => ite (fun _ => (tripped.trans (driven _ _)).trans (endStopping f _))
    (fun _ => tripped.trans (driven _ _))) (fun _ => tripped)

theorem refreshEnd (f : FnId) (s : State) : Examined s (s.refreshEnd f) := ite (fun _ => refl s) (fun _ => act (.kept rfl))

theorem endInput (i : InputId) (f : FnId) (d : Dir) (s : State) : Examined s (s.endInput i f d) := by
  unfold State.endInput
  split
  · exact refl s
  · split
    · exact refl s
    · exact ite (fun _ => onFnField s (fun _ => by cases d <;> rfl) (fun _ => by cases d <;> rfl)) (fun _ => refl s)

theorem endInputs (i : InputId) (f : FnId) (s : State) : Examined s (s.endInputs i f) :=
  ((endInput i f .toOpen s).trans (endInput i f .toClose _)).trans (refreshEnd f _)

theorem takePressure (p : Nat) (f : FnId) (s : State) : Examined s (s.takePressure p f) :=
  ite (fun _ => enterTravel f s) (fun _ => refl s)

/-! ## RESET arrivals and intents -/

theorem retake (f : FnId) (s : State) : Examined s (s.retake f) := by
  have taken : Examined s (if s.outOfBand f then
      (s.act (State.onFnField f (fun y => { y with position := Config.noPosition }))).takeLatched f .transducer else s) :=
    ite (fun _ => (position f _ s).trans (takeLatched f _ _)) (fun _ => refl s)
  exact ite (fun _ => taken.trans (takeLatched f _ _)) (fun _ => taken)

theorem clearFault (f : FnId) (s : State) : Examined s (s.clearFault f) := by
  have cleared : ∀ (g : FnField → FnField) (k : Fn → Fn), Examined s (s.act (fun t => (t.onFnField f g).onFn f k)) :=
    fun _ _ => act (.kept rfl)
  exact ite (fun _ => (cleared _ _).trans (retake f _)) (fun _ => refl s)

theorem resetFlags (s : State) : Examined s s.resetFlags := by
  have hold : Examined s (s.act (State.onUnit (fun u => { u with restartHold := false }))) := act (.kept rfl)
  have asserted : ∀ t : State, Examined t (t.act (State.onUnit (fun u => { u with tripAsserted := false }))) :=
    fun _ => act (.kept rfl)
  exact ite (fun _ => ite (fun _ => hold.trans (asserted _)) (fun _ => hold)) (fun _ => refl s)

theorem resetArrival (s : State) : Examined s s.resetArrival := by
  have window : ∀ (t : State) (w : Timer), Examined t (t.onUnit (fun u => { u with resetWindow := w })) :=
    fun _ _ => silent (.kept rfl) rfl rfl
  have opened := ((((eachFn clearFault s).trans (pumpReset .a _)).trans (pumpReset .b _)).trans (resetFlags _)).trans
    (window _ (some s.timing.intentLease))
  unfold State.resetArrival
  extract_lets s1 s2 s3 s4
  have computed : Examined s s4 := ite (fun _ => opened.trans (arbitrate _)) (fun _ => opened)
  exact (computed.trans (removeTrips stations _)).trans (settle _)

theorem writeIntent (n : StationId) (e : Option IntentEntry) (s : State) : Examined s (s.writeIntent n e) :=
  silent (.kept rfl) rfl rfl

theorem takeIntent (n : StationId) (i : IntentFrame) (s : State) : Examined s (s.takeIntent n i) := by
  have written : ∀ e, Examined s (s.writeIntent n e).settle := fun e => (writeIntent n e s).trans (settle _)
  unfold State.takeIntent
  dsimp only
  split
  · exact refl s
  · refine ite (fun _ => ?_) (fun _ => refl s)
    split
    · exact written _
    · exact resetArrival s
    · exact written _

/-! ## Deliveries -/

theorem onEntry (n : StationId) (g : Entry → Entry) (s : State) : Examined s (s.onEntry n g) := silent (.kept rfl) rfl rfl

theorem queueAnnounce (ask : Bool) (s : State) : Examined s (s.queueAnnounce ask) :=
  ite (fun _ => silent (.kept rfl) rfl rfl) (fun _ => refl s)

theorem takeStatus (n : StationId) (b : Byte) (r : Record) (s : State) : Examined s (s.takeStatus n b r) := by
  have unverified : ∀ g, Examined s ((s.onEntry n g).queueAnnounce true) := fun g =>
    (onEntry n g s).trans (queueAnnounce true _)
  have absorbed : ∀ g, Examined s ((s.onEntry n g).statusNotice n) := fun g => (onEntry n g s).trans (statusNotice n _)
  have changed : ∀ g, Examined s (((s.onEntry n g).changeNotice n).statusNotice n) := fun g =>
    ((onEntry n g s).trans (changeNotice n _)).trans (statusNotice n _)
  unfold State.takeStatus
  dsimp only
  split
  · exact unverified _
  · exact unverified _
  · exact changed _
  · exact changed _
  · exact ite (fun _ => absorbed _) (fun _ => changed _)
  · exact refl s

theorem statusDelivered (g : Frame) (s : State) : Examined s (s.statusDelivered g) := by
  unfold State.statusDelivered
  split
  · exact ite (fun _ => takeStatus _ _ _ s) (fun _ => refl s)
  · exact refl s

theorem takeAnnounce (n : StationId) (a : AnnounceFrame) (s : State) : Examined s (s.takeAnnounce n a) := by
  have judged := onEntry n (fun _ => Entry.announced (s.refuses n a) a.role) s
  have answered : Examined s (if a.ask && !a.configFault then
      (s.onEntry n (fun _ => Entry.announced (s.refuses n a) a.role)).queueAnnounce false
        else s.onEntry n (fun _ => Entry.announced (s.refuses n a) a.role)) :=
    ite (fun _ => judged.trans (queueAnnounce false _)) (fun _ => judged)
  exact ite (fun _ => answered) (fun _ => answered.trans (changeNotice n _))

theorem announceDelivered (g : Frame) (s : State) : Examined s (s.announceDelivered g) := by
  unfold State.announceDelivered
  split
  · exact takeAnnounce _ _ s
  · exact refl s

theorem intentDelivered (g : Frame) (s : State) : Examined s (s.intentDelivered g) := by
  unfold State.intentDelivered
  split
  · exact takeIntent _ _ s
  · exact refl s

theorem tripDelivered (g : Frame) (s : State) : Examined s (s.tripDelivered g) := by
  unfold State.tripDelivered
  split
  · exact (enterTrip _ _ s).trans (settle _)
  · exact refl s

/-! ## Accepted changes -/

theorem queueIntent (i : IntentKind) (s : State) : Examined s (s.queueIntent i) :=
  ite (fun _ => silent (.kept rfl) rfl rfl) (fun _ => refl s)

theorem formHeld (s : State) : Examined s s.formHeld := by
  have held : ∀ k, Examined s (s.onPanel (fun x => { x with held := k })) := fun _ => silent (.kept rfl) rfl rfl
  exact ite (fun _ => refl s) (fun _ => (held _).trans (queueIntent _ _))

theorem pressReset (i : InputId) (s : State) : Examined s (s.pressReset i) :=
  ite (fun _ => queueIntent _ s) (fun _ => refl s)

theorem panelInput (i : InputId) (s : State) : Examined s (s.panelInput i) := by
  have rearmed : Examined s (s.rearmed i) := silent (.kept rfl) rfl rfl
  have selected : ∀ t : State, Examined t t.select := fun _ => act (.kept rfl)
  exact ite (fun _ => ((rearmed.trans (selected _)).trans (pressReset i _)).trans (formHeld _)) (fun _ => refl s)

theorem acceptedChange (i : InputId) (s : State) : Examined s (s.acceptedChange i) := by
  have accepted : Examined s (s.acceptLevel i) := act (.kept rfl)
  exact (((accepted.trans (eachFn (endInputs i) _)).trans (pumpInput i _)).trans (panelInput i _)).trans (settle _)

end Examined
end Sys2Proof.Machine
end

section
/-! Every command but the completion of a send, as the publisher sees it (R48, R49). -/

namespace Sys2Proof.Machine

/-- Two states that publish the same values. -/
structure Unseen (s t : State) : Prop where
  byte : t.stationByte = s.stationByte
  record : t.ownRecord = s.ownRecord

theorem Unseen.trans {s t u : State} (h : Unseen s t) (k : Unseen t u) : Unseen s u :=
  ⟨k.byte.trans h.byte, k.record.trans h.record⟩

theorem Unseen.shown {s t : State} (h : Unseen s t) (i : Published) : t.shown i = s.shown i := by
  unfold State.shown
  rw [h.byte, h.record]

/-- What a command leaves of a station that stays in ACTIVE: the publisher has examined it, or no published value has changed. -/
def Told (s t : State) : Prop := s.isActive = true → t.isActive = true → Examined s t ∨ Unseen s t

namespace Told

variable {s t : State}

theorem examined (h : Examined s t) : Leads (Told s) (done t) := .done (fun _ _ => .inl h)

theorem unseen (h : Unseen s t) : Leads (Told s) (done t) := .done (fun _ _ => .inr h)

theorem idle : Leads (Told s) (done s) := unseen ⟨rfl, rfl⟩

/-- A command that arises in another state of the life cycle. -/
theorem away {l : Life} (h : s.life = l) (other : l ≠ .active) : Leads (Told s) (done t) :=
  .done (fun active _ => absurd (h.symm.trans ((isActive_iff s).mp active)) other)

/-- A command that leaves ACTIVE. -/
theorem leaves {l : Life} (h : t.life = l) (other : l ≠ .active) : Leads (Told s) (done t) :=
  .done (fun _ active => absurd (h.symm.trans ((isActive_iff t).mp active)) other)

/-- A change of the loop interface shows in LONE only (R40). -/
theorem onLoop {g : Loop → Loop} (lone : (g s.loop).lone = s.loop.lone) : Unseen s (s.onLoop g) := by
  refine ⟨?_, rfl⟩
  unfold State.stationByte
  rw [State.onLoop_loop, lone]
  rfl

theorem finish (h : Told s t) : Told s t.finish := fun a b =>
  (h a b).imp (fun e => e.trans (.silent (.kept rfl) rfl rfl)) (fun e => e.trans ⟨rfl, rfl⟩)

/-! ## The life cycle and the line (chapters 1 and 2) -/

variable (s)

theorem leaveReset (n : StationId) (b : BrPin) : Leads (Told s) (execLeaveReset n b s) :=
  .ite (fun l => away l nofun) (fun _ => idle)

theorem headerReadComplete (bytes : List Byte) : Leads (Told s) (execHeaderReadComplete bytes s) :=
  .ite (fun l => .ite (fun _ => away l.1 nofun) (fun _ => away l.1 nofun)) (fun _ => idle)

theorem imageReadComplete (bytes : List Byte) (lines : FieldLines) : Leads (Told s) (execImageReadComplete bytes lines s) := by
  unfold execImageReadComplete
  split
  next l _ =>
    dsimp only
    split
    · exact away l nofun
    · exact away l nofun
  · exact idle

theorem configFaultAnnounceTimer : Leads (Told s) (execConfigFaultAnnounceTimer s) :=
  .ite (fun l => away l.1 nofun) (fun _ => idle)

theorem joinWindowExpiry : Leads (Told s) (execJoinWindowExpiry s) := .ite (fun l => away l.1 nofun) (fun _ => idle)

theorem withdrawnIdleTimeout : Leads (Told s) (execWithdrawnIdleTimeout s) := .ite (fun l => away l.1 nofun) (fun _ => idle)

theorem lineBusy : Leads (Told s) (execLineBusy s) := .ite (fun _ => unseen (onLoop rfl)) (fun _ => idle)

theorem lineIdle (n : Nat) : Leads (Told s) (execLineIdle n s) :=
  .ite (fun _ => .ite (fun l => away l.1 nofun) (fun _ => unseen (onLoop rfl))) (fun _ => idle)

theorem stuckEnd (n : Nat) : Leads (Told s) (execStuckEnd n s) := .ite (fun _ => unseen (onLoop rfl)) (fun _ => idle)

theorem frameDropped (w : Wave) : Leads (Told s) (execFrameDropped w s) := by
  unfold execFrameDropped
  split
  · exact .ite (fun _ => unseen (onLoop rfl)) (fun _ => idle)
  · exact idle

theorem frameEnd_examined (w : Wave) : Examined s (s.frameEnd w) := .silent (.kept rfl) rfl rfl

/-- A good frame that is delivered counts in WITHDRAWN only (R16). -/
theorem counted (h : Examined s t) : Leads (Told s) (done t.countGood) := by
  refine .done (fun active _ => .inl ?_)
  rw [countGood_eq (.inr (h.life.trans ((isActive_iff s).mp active)))]
  exact h

theorem undeliveredGoodFrame (w : Wave) : Leads (Told s) (execUndeliveredGoodFrame w s) := by
  unfold execUndeliveredGoodFrame
  split
  · exact .ite (fun _ => counted s (frameEnd_examined s w)) (fun _ => idle)
  · exact idle

theorem arrival (kind : FrameKind) {deliver : Frame → State → State} (w : Wave)
    (delivered : ∀ g u, Examined u (deliver g u)) : Leads (Told s) (done (s.arrival kind deliver w)) := by
  unfold State.arrival
  split
  · exact idle
  · split
    · split
      · exact counted s ((frameEnd_examined s w).trans (delivered _ _))
      · exact examined (frameEnd_examined s w)
    · exact idle

/-! ## Own sends (chapter 2) -/

theorem start_lone (mark : Nat) (x : Loop) : (x.start mark).lone = x.lone := by
  rcases Loop.start_cases mark x with ⟨c, m, -, -, e⟩ | ⟨c, m, -, -, e⟩ | ⟨m, -, -, e⟩ | ⟨c, m, -, e⟩ | e
  all_goals rw [e]

theorem sendStart : Leads (Told s) (execSendStart s) :=
  .ite (fun _ => unseen (onLoop (start_lone _ s.loop))) (fun _ => idle)

theorem lateStart (since free : Nat) : Leads (Told s) (execLateStart since free s) :=
  .ite (fun _ => unseen (onLoop (start_lone _ s.loop))) (fun _ => idle)

theorem idCellStart : Leads (Told s) (execIdCellStart s) := by
  unfold execIdCellStart
  split
  · exact .ite (fun _ => .ite (fun _ => unseen ⟨rfl, rfl⟩) (fun _ => unseen (onLoop rfl))) (fun _ => idle)
  · exact idle

theorem statusLost_unseen : Unseen s s.statusLost := by
  cases h : s.loop.send with
  | none =>
    unfold State.statusLost
    rw [h]
    exact ⟨rfl, rfl⟩
  | some m =>
    rw [statusLost_eq h]
    exact ⟨rfl, rfl⟩

theorem arbitrationLoss (j : Fin 8) : Leads (Told s) (execArbitrationLoss j s) := by
  unfold execArbitrationLoss
  split
  · exact .ite (fun _ => unseen ((statusLost_unseen s).trans (onLoop rfl))) (fun _ => idle)
  · exact idle

/-- An abort changes no published value, or withdraws the station (R33, R35). -/
theorem abort {u : State} (h : Unseen s u) : Leads (Told s) (done u.abort) := by
  rcases abort_cases u with e | ⟨-, e⟩
  · rw [e]
    exact unseen ((h.trans (statusLost_unseen u)).trans (onLoop rfl))
  · obtain ⟨fns, withdrawn⟩ := enterWithdrawn_eq u.aborted
    rw [e, withdrawn]
    exact leaves (l := .withdrawn) rfl nofun

theorem lineStuck (n : Nat) : Leads (Told s) (execLineStuck n s) :=
  .ite (fun _ => .ite (fun _ => abort s (onLoop rfl)) (fun _ => unseen (onLoop rfl))) (fun _ => idle)

theorem sendAbort (c : AbortCause) : Leads (Told s) (execSendAbort c s) := by
  unfold execSendAbort
  split
  · exact idle
  · cases c with
    | bitError => exact .ite (fun _ => abort s ⟨rfl, rfl⟩) (fun _ => idle)
    | selfDrop r => exact .ite (fun _ => abort s (onLoop rfl)) (fun _ => idle)
    | stuck => exact abort s (onLoop rfl)

theorem sendWaitEnd (n : Nat) : Leads (Told s) (execSendWaitEnd n s) := .ite (fun _ => unseen (onLoop rfl)) (fun _ => idle)

/-! ## The publisher, the image and the flash timer (chapters 3 to 5) -/

theorem changeInhibitExpiry : Leads (Told s) (execChangeInhibitExpiry s) :=
  .ite (fun _ => .ite (fun _ => unseen ⟨rfl, rfl⟩) (fun _ => unseen ⟨rfl, rfl⟩)) (fun _ => idle)

theorem refreshExpiry : Leads (Told s) (execRefreshExpiry s) := by
  have caused : ∀ u : State, Unseen u u.statusCause := fun u => by
    rw [statusCause_eq]
    exact ⟨rfl, rfl⟩
  have off : Unseen s (s.onPub (fun p => { p with refresh := none })) := ⟨rfl, rfl⟩
  exact .ite (fun _ => unseen (off.trans (caused _))) (fun _ => idle)

theorem tripRepeatExpiry : Leads (Told s) (execTripRepeatExpiry s) := by
  have ended : Examined s (s.onUnit (fun u => { u with tripRepeat := none })) := .silent (.kept rfl) rfl rfl
  exact .ite (fun _ => .ite (fun _ => examined (ended.trans (.requeueTrip _))) (fun _ => examined ended)) (fun _ => idle)

theorem ageExpiry (n : StationId) : Leads (Told s) (execAgeExpiry n s) := by
  unfold execAgeExpiry
  refine .ite (fun _ => ?_) (fun _ => idle)
  split
  · exact examined ((Examined.onEntry n _ s).trans (.changeNotice n _))
  · exact examined (.onEntry n _ s)
  · exact idle

/-! ## Field inputs (chapter 6) -/

/-- A change of the field inputs that no published value shows. -/
theorem onField {g : FieldInputs → FieldInputs} (u : State) (byte : (u.onField g).stationByte = u.stationByte)
    (record : (u.onField g).ownRecord = u.ownRecord) : Examined u (u.onField g) := .silent (.kept rfl) byte record

theorem actField (g : FieldInputs → FieldInputs) (u : State) : Examined u (u.act (State.onField g)) := .act (.kept rfl)

theorem inputLevelChange (i : InputId) (high : Bool) : Leads (Told s) (execInputLevelChange i high s) := by
  have lined : Examined s (s.onField (fun x => { x with lines := lineInput x.lines i high })) := onField s rfl rfl
  have followed : ∀ u : State, Examined u (u.followInput i) := by
    intro u
    refine onField u rfl
      (ownRecord_of_slots rfl rfl rfl rfl (fun j => ?_) (fun _ => ⟨rfl, rfl, rfl⟩) (fun _ => ⟨rfl, rfl⟩))
    by_cases same : i = j
    · subst same
      simp
    · have ne : i.val ≠ j.val := fun e => same (Fin.ext e)
      simp [Vector.getElem_set_ne, ne]
  exact .ite (fun _ => examined (lined.trans (followed _))) (fun _ => examined lined)

theorem debounceExpiry (i : InputId) : Leads (Told s) (execDebounceExpiry i s) :=
  .ite (fun _ => examined (.acceptedChange i s)) (fun _ => idle)

theorem discrepancyExpiry (f : FnId) (e : Dir) : Leads (Told s) (execDiscrepancyExpiry f e s) := by
  have pair : ∀ p, Examined s (s.onFnField f (FnField.setEnd e p)) := fun p =>
    .onFnField s (fun _ => by cases e <;> rfl) (fun _ => by cases e <;> rfl)
  exact .ite (fun _ => examined ((((pair _).trans (.refreshEnd f _)).trans (.takeLatched f _ _)).trans (.settle _)))
    (fun _ => idle)

theorem stopLoopOpening : Leads (Told s) (execStopLoopOpening s) := by
  have opened : Examined s (s.onField (fun x => { x with lines := { x.lines with stopLoopClosed := false } })) :=
    onField s rfl rfl
  have accepted : ∀ u : State, Examined u (u.act (State.onField (fun x => { x with
      stopLoopClosed := false, closing := none }))) := actField _
  exact .ite (fun _ => .ite (fun _ => examined ((opened.trans (accepted _)).trans (.stationStop s _)))
    (fun _ => examined (opened.trans (onField _ rfl rfl)))) (fun _ => examined opened)

theorem stopLoopReadsClosed : Leads (Told s) (execStopLoopReadsClosed s) := by
  have closed : Examined s (s.onField (fun x => { x with lines := { x.lines with stopLoopClosed := true } })) :=
    onField s rfl rfl
  exact .ite (fun _ => examined (closed.trans (onField _ rfl rfl))) (fun _ => examined closed)

theorem stopLoopClosingExpiry : Leads (Told s) (execStopLoopClosingExpiry s) := by
  have accepted : Examined s (s.act (State.onField (fun x => { x with stopLoopClosed := true, closing := none }))) := actField _ s
  exact .ite (fun _ => examined ((accepted.trans (.gateEdge s _)).trans (.settle _))) (fun _ => idle)

theorem supplyBand (b : SupplyBand) : Examined s (s.supplyBand b) := onField s rfl rfl

theorem supplyFallsBelow19V : Leads (Told s) (execSupplyFallsBelow19V s) := by
  have crossed := supplyBand s .below19
  exact .ite (fun _ => .ite (fun _ => examined (crossed.trans (onField _ rfl rfl)))
    (fun _ => examined (crossed.trans (onField _ rfl rfl)))) (fun _ => examined crossed)

theorem supplyBackAt19V : Leads (Told s) (execSupplyBackAt19V s) := by
  have crossed := supplyBand s .from19to20
  exact .ite (fun _ => .ite (fun _ => examined (crossed.trans (onField _ rfl rfl))) (fun _ => examined crossed)) (fun _ => idle)

theorem supplyRisesTo20V : Leads (Told s) (execSupplyRisesTo20V s) := by
  have crossed := supplyBand s .from20
  exact .ite (fun _ => .ite (fun _ => examined (crossed.trans (onField _ rfl rfl)))
    (fun _ => examined (crossed.trans (onField _ rfl rfl)))) (fun _ => examined crossed)

theorem supplyFallsBelow20V : Leads (Told s) (execSupplyFallsBelow20V s) := by
  have crossed := supplyBand s .from19to20
  exact .ite (fun _ => .ite (fun _ => examined (crossed.trans (onField _ rfl rfl))) (fun _ => examined crossed)) (fun _ => idle)

theorem lowTimerExpiry : Leads (Told s) (execLowTimerExpiry s) := by
  have low : Examined s (s.act (State.onField (fun x => { x with supplyOk := false, lowTimer := none }))) := actField _ s
  exact .ite (fun _ => examined (low.trans (.stationStop s _))) (fun _ => idle)

theorem recoveryTimerExpiry : Leads (Told s) (execRecoveryTimerExpiry s) := by
  have ok : Examined s (s.act (State.onField (fun x => { x with supplyOk := true, recovery := none }))) := actField _ s
  exact .ite (fun _ => examined ((ok.trans (.gateEdge s _)).trans (.settle _))) (fun _ => idle)

/-! ## Function motion and valve drive (chapters 7 and 8) -/

theorem controlPeriod (f : FnId) (raw : Reading) : Leads (Told s) (execControlPeriod f raw s) := by
  have read : Examined s (s.onField (fun y => { y with lines := lineReading y.lines f raw })) := onField s rfl rfl
  unfold execControlPeriod
  split
  · exact .ite (fun _ => examined ((((read.trans (.convert f _ raw _)).trans (.settle _)).trans (.driveStages f _)).trans
      (.settle _))) (fun _ => idle)
  · exact idle

theorem pressureConversion (raw : Reading) : Leads (Told s) (execPressureConversion raw s) := by
  have read : Examined s (s.onField (fun x => { x with pressure := some (bar raw) })) := onField s rfl rfl
  exact .ite (fun _ => examined ((read.trans (.eachFn (Examined.takePressure _) _)).trans (.settle _))) (fun _ => idle)

/-- The expiry of a motion timer takes a latched fault (R115, R116, R119). -/
theorem faultExpiry (f : FnId) (code : FaultCode) (c : Prop) [Decidable c] :
    Leads (Told s) (if c then done (s.takeLatched f code).settle else done s) :=
  .ite (fun _ => examined ((Examined.takeLatched f code s).trans (.settle _))) (fun _ => idle)

theorem seatTimerExpiry (f : FnId) : Leads (Told s) (execSeatTimerExpiry f s) :=
  .ite (fun _ => examined ((Examined.endSeat f s).trans (.settle _))) (fun _ => idle)

theorem pullInExpiry (f : FnId) : Leads (Told s) (execPullInExpiry f s) := .ite (fun _ => unseen ⟨rfl, rfl⟩) (fun _ => idle)

theorem pulseTimeExpiry (g : Generator) : Leads (Told s) (execPulseTimeExpiry g s) := by
  cases g with
  | proportional f => exact unseen ⟨rfl, rfl⟩
  | solenoid f => exact unseen ⟨rfl, rfl⟩

/-! ## Panels, intents and pumps (chapters 9 and 10) -/

theorem intentRefreshExpiry : Leads (Told s) (execIntentRefreshExpiry s) := by
  have stopped : Examined s (s.onPanel (fun p => { p with refresh := none, refreshKind := none })) := .silent (.kept rfl) rfl rfl
  unfold execIntentRefreshExpiry
  refine .ite (fun _ => ?_) (fun _ => idle)
  dsimp only
  split
  · exact .ite (fun _ => examined (stopped.trans (.queueIntent _ _))) (fun _ => examined stopped)
  · exact examined stopped

theorem intentLeaseExpiry (n : StationId) : Leads (Told s) (execIntentLeaseExpiry n s) :=
  .ite (fun _ => examined ((Examined.writeIntent n none s).trans (.settle _))) (fun _ => idle)

theorem runUpExpiry (p : PumpId) : Leads (Told s) (execRunUpExpiry p s) :=
  .ite (fun _ => examined (((Examined.pumpEnters p _ s).trans (.arbitrate _)).trans (.settle _))) (fun _ => idle)

theorem idleTimerExpiry : Leads (Told s) (execIdleTimerExpiry s) := by
  have stopped : Examined s (s.onFlow (fun x => { x with idle := none })) := .silent (.kept rfl) rfl rfl
  exact .ite (fun _ => examined ((((stopped.trans (.idleStop .a _)).trans (.idleStop .b _)).trans (.arbitrate _)).trans
    (.settle _))) (fun _ => idle)

/-! ## Every command -/

/-- Each command but the completion of a send. -/
theorem exec (c : Instr) (other : ∀ h, c ≠ .sendComplete h) : Leads (Told s) (Machine.exec c s) := by
  cases c with
  | resetCondition r => exact leaves (l := .reset) rfl nofun
  | leaveReset n b => exact leaveReset s n b
  | headerReadComplete b => exact headerReadComplete s b
  | imageReadComplete b l => exact imageReadComplete s b l
  | configFaultAnnounceTimer => exact configFaultAnnounceTimer s
  | joinWindowExpiry => exact joinWindowExpiry s
  | withdrawnIdleTimeout => exact withdrawnIdleTimeout s
  | lineBusy => exact lineBusy s
  | lineIdle n => exact lineIdle s n
  | lineStuck n => exact lineStuck s n
  | stuckEnd n => exact stuckEnd s n
  | frameDropped w => exact frameDropped s w
  | undeliveredGoodFrame w => exact undeliveredGoodFrame s w
  | statusArrival w => exact arrival s _ w Examined.statusDelivered
  | announceArrival w => exact arrival s _ w Examined.announceDelivered
  | intentArrival w => exact arrival s _ w Examined.intentDelivered
  | tripArrival w => exact arrival s _ w Examined.tripDelivered
  | sendStart => exact sendStart s
  | lateStart a b => exact lateStart s a b
  | idCellStart => exact idCellStart s
  | arbitrationLoss j => exact arbitrationLoss s j
  | sendAbort a => exact sendAbort s a
  | sendComplete h => exact absurd rfl (other h)
  | sendWaitEnd n => exact sendWaitEnd s n
  | changeInhibitExpiry => exact changeInhibitExpiry s
  | refreshExpiry => exact refreshExpiry s
  | tripRepeatExpiry => exact tripRepeatExpiry s
  | ageExpiry n => exact ageExpiry s n
  | flashTimerExpiry => exact unseen ⟨rfl, rfl⟩
  | inputLevelChange i b => exact inputLevelChange s i b
  | debounceExpiry i => exact debounceExpiry s i
  | discrepancyExpiry f e => exact discrepancyExpiry s f e
  | controlPeriod f r => exact controlPeriod s f r
  | pressureConversion r => exact pressureConversion s r
  | stopLoopOpening => exact stopLoopOpening s
  | stopLoopReadsClosed => exact stopLoopReadsClosed s
  | stopLoopClosingExpiry => exact stopLoopClosingExpiry s
  | supplyFallsBelow19V => exact supplyFallsBelow19V s
  | supplyBackAt19V => exact supplyBackAt19V s
  | supplyRisesTo20V => exact supplyRisesTo20V s
  | supplyFallsBelow20V => exact supplyFallsBelow20V s
  | lowTimerExpiry => exact lowTimerExpiry s
  | recoveryTimerExpiry => exact recoveryTimerExpiry s
  | grantWaitExpiry f => exact faultExpiry s f _ _
  | pressuriseTimeout f => exact faultExpiry s f _ _
  | strokeTimeout f => exact faultExpiry s f _ _
  | stallWindowExpiry f => exact faultExpiry s f _ _
  | seatTimerExpiry f => exact seatTimerExpiry s f
  | pullInExpiry f => exact pullInExpiry s f
  | intentRefreshExpiry => exact intentRefreshExpiry s
  | intentLeaseExpiry n => exact intentLeaseExpiry s n
  | resetWindowExpiry => exact unseen ⟨rfl, rfl⟩
  | runUpExpiry p => exact runUpExpiry s p
  | idleTimerExpiry => exact idleTimerExpiry s
  | pulseTimeExpiry g => exact pulseTimeExpiry s g

end Told

/-- Settles O52: what has changed and strays from the copy was examined under the command. -/
theorem changesRequestStatus : Obligations.ChangesRequestStatus := by
  unfold Obligations.ChangesRequestStatus
  intro c s t ro rn e other active stays so tn few copy byteChanged fieldChanged moved changed
  have shows : ∃ i o v, s.shown i = some o ∧ t.shown i = some v ∧ v ≠ o ∧ Strays s.copy s.timing.positionStep i v := by
    simp only [State.shown, so, tn]
    rcases changed with ⟨now, away⟩ | ⟨k, o, v, old, new, now, away⟩ | ⟨k, o, v, old, new, now, away⟩
    · exact ⟨.byte, _, _, rfl, rfl, fun same => now (BitVec.eq_of_toNat_eq same),
        fun cb rc held same => away cb rc held (BitVec.eq_of_toNat_eq same)⟩
    · exact ⟨.field k, o, v, old, new, now, away⟩
    · exact ⟨.position k, o, v, old, new, now, away⟩
  obtain ⟨i, o, v, old, new, now, strays⟩ := shows
  have told := (Told.exec s c other).next (fun u => Told.finish) e
  rcases told active stays with seen | unseen
  · have requested := seen.asks active few old new now strays
    unfold Requested at requested
    rw [seen.inhibit] at requested
    exact requested
  · rw [unseen.shown, old] at new
    exact absurd (Option.some.inj new).symm now

end Sys2Proof.Machine
end

section
/-! The laws of the peer image under every command (R57 to R59, R61, R65, R67): AGE_EXPIRY and the arrivals of a STATUS and of an
ANNOUNCE write an entry, and every other command leaves all that the laws read, but for a reset and the start-up, before which
nothing is held. -/

namespace Sys2Proof.Machine

/-! ## One entry -/

/-- The laws of an entry by itself, whatever the station is in. -/
structure Entry.Lawful (subscribed : Bool) (e : Entry) : Prop where
  fpMatch : e.fpMatch = (match e.state with
    | .absent => .notChecked
    | .unverified => .notChecked
    | .foreign => .refused
    | _ => .matched)
  byte : e.byte.isSome = (e.state == .fresh)
  record : e.record.isSome = (e.state == .fresh && subscribed)
  age : e.age.isSome = (e.state == .fresh || e.state == .unverified)
  role : e.role.isSome = (e.state != .absent && e.state != .unverified)

theorem entryLaw_iff (s : State) (n : StationId) : EntryLaw s n ↔
    (s.running = false ∨ n = s.station → s.image[n] = Entry.atReset) ∧
      (s.image[n]).Lawful (s.cfg.subscription.contains n) :=
  ⟨fun h => ⟨h.none, ⟨h.fpMatch, h.byte, h.record, h.age, h.role⟩⟩,
    fun h => ⟨h.1, h.2.fpMatch, h.2.byte, h.2.record, h.2.age, h.2.role⟩⟩

namespace Entry.Lawful

variable {sub : Bool} {e : Entry}

theorem atReset : Entry.atReset.Lawful sub := ⟨rfl, rfl, rfl, rfl, rfl⟩

theorem announced (refused : Bool) (r : Role) : (Entry.announced refused r).Lawful sub := by
  cases refused <;> exact ⟨rfl, rfl, rfl, rfl, rfl⟩

/-- A STATUS makes an entry without a role UNVERIFIED, and its age timer runs (R61). -/
theorem unverified (h : e.Lawful sub) (pending : e.state = .absent ∨ e.state = .unverified) (a : Nat) :
    ({ e with state := .unverified, age := some a } : Entry).Lawful sub := by
  obtain ⟨fpMatch, byte, record, -, role⟩ := h
  rcases pending with p | p <;> rw [p] at fpMatch byte record role <;> exact ⟨fpMatch, byte, record, rfl, role⟩

/-- An entry with a role of the same image absorbs a STATUS, with its record where the sender is subscribed (R59, R62). -/
theorem absorb (h : e.Lawful sub) (whole : e.state = .known ∨ e.state = .stale ∨ e.state = .fresh) (a : Nat) (b : Byte)
    (r : Record) : (Entry.absorb a b (if sub then some r else none) e).Lawful sub := by
  obtain ⟨fpMatch, -, -, -, role⟩ := h
  have kept : (if sub then some r else none).isSome = sub := by cases sub <;> rfl
  rcases whole with w | w | w <;> rw [w] at fpMatch role <;> exact ⟨fpMatch, rfl, kept, rfl, role⟩

/-- A FRESH entry loses its content at the stale limit (R67). -/
theorem stale (h : e.Lawful sub) (fresh : e.state = .fresh) :
    ({ e with state := .stale, age := none, byte := none, record := none } : Entry).Lawful sub := by
  obtain ⟨fpMatch, -, -, -, role⟩ := h
  rw [fresh] at fpMatch role
  exact ⟨fpMatch, rfl, rfl, rfl, role⟩

/-- An UNVERIFIED entry returns to ABSENT at the stale limit (R67). -/
theorem absent (h : e.Lawful sub) (pending : e.state = .unverified) :
    ({ e with state := .absent, age := none } : Entry).Lawful sub := by
  obtain ⟨fpMatch, byte, record, -, role⟩ := h
  rw [pending] at fpMatch byte record role
  exact ⟨fpMatch, byte, record, rfl, role⟩

end Entry.Lawful

/-! ## What the laws read -/

/-- All that the laws of the image read of a station. -/
def State.imaged (s : State) : Vector Entry 16 × Bool × StationId × List StationId :=
  (s.image, s.running, s.station, s.cfg.subscription)

theorem ImageLaws.congr {s t : State} (h : ImageLaws s) (e : t.imaged = s.imaged) : ImageLaws t := by
  simp only [State.imaged, Prod.mk.injEq] at e
  obtain ⟨image, running, station, subscription⟩ := e
  intro n
  rw [entryLaw_iff, image, running, station, subscription]
  exact (entryLaw_iff s n).mp (h n)

/-- A station that holds nothing of its peers keeps the laws. -/
theorem imageLaws_of_reset {t : State} (h : ∀ n : StationId, t.image[n] = Entry.atReset) : ImageLaws t := fun n =>
  (entryLaw_iff t n).mpr ⟨fun _ => h n, by rw [h n]; exact .atReset⟩

/-- Before a good load nothing is held (R57). -/
theorem ImageLaws.unloaded {s : State} (h : ImageLaws s) (r : s.running = false) (n : StationId) :
    s.image[n] = Entry.atReset := (h n).none (.inl r)

/-- A running station writes a lawful entry of a peer. -/
theorem ImageLaws.onEntry {s : State} (h : ImageLaws s) {n : StationId} (g : Entry → Entry) (run : s.running = true)
    (other : n ≠ s.station) (lawful : (g s.image[n]).Lawful (s.cfg.subscription.contains n)) : ImageLaws (s.onEntry n g) := by
  intro m
  rw [entryLaw_iff]
  by_cases same : n = m
  · subst same
    rw [State.onEntry_same]
    refine ⟨fun c => ?_, lawful⟩
    rcases c with c | c
    · rw [State.onEntry_running, run] at c
      cases c
    · exact absurd c other
  · rw [State.onEntry_other s g same]
    exact (entryLaw_iff s m).mp (h m)

/-- The events of every other block leave what the laws read. -/
theorem imageLaws_kept : KeptTrips ImageLaws where
  cause h := h.congr (by rw [statusCause_eq]; rfl)
  guard _ h := h.congr rfl
  fn _ _ _ h := h.congr rfl
  drive _ _ _ h := h.congr rfl
  still h := h.congr rfl
  fnField _ _ h := h.congr rfl
  flow _ h := h.congr rfl
  trips _ h := h.congr rfl
  asserted _ h := h.congr rfl
  queue r h := h.congr (by unfold State.queueTrip; split <;> rfl)

end Sys2Proof.Machine
end

section
/-! The laws of the peer image, command by command. -/

namespace Sys2Proof.Machine

variable {s : State}

/-! ## Blocks that hold no entry -/

theorem ImageLaws.reacted {t : State} (h : ImageLaws s) (r : Reacted s t) : ImageLaws t := h.congr (by rw [r.rest]; rfl)

theorem ImageLaws.tripped {t : State} (h : ImageLaws s) (r : Tripped s t) : ImageLaws t := h.congr (by rw [r.rest]; rfl)

theorem imageLaws_queueAnnounce (ask : Bool) (h : ImageLaws s) : ImageLaws (s.queueAnnounce ask) :=
  h.congr (by unfold State.queueAnnounce; split <;> rfl)

theorem imageLaws_queueIntent (i : IntentKind) (h : ImageLaws s) : ImageLaws (s.queueIntent i) :=
  h.congr (by unfold State.queueIntent; split <;> rfl)

theorem imageLaws_statusLost (h : ImageLaws s) : ImageLaws s.statusLost := by
  unfold State.statusLost
  split
  · split
    · exact h.congr rfl
    · exact h
  · exact h

/-- The station runs in JOINING and in WITHDRAWN alike, so that a passage between them leaves the laws (R13, R15, R16). -/
theorem imageLaws_enterJoining (h : ImageLaws s) (run : s.running = true) : ImageLaws s.enterJoining :=
  h.congr (by rw [enterJoining_eq, State.imaged, State.imaged, run]; rfl)

theorem imageLaws_enterWithdrawn (h : ImageLaws s) (run : s.running = true) : ImageLaws s.enterWithdrawn := by
  obtain ⟨fns, e⟩ := enterWithdrawn_eq s
  exact h.congr (by rw [e, State.imaged, State.imaged, run]; rfl)

theorem imageLaws_abort (h : ImageLaws s) : ImageLaws s.abort := by
  have lost : ImageLaws (s.statusLost.onLoop (fun x => { x.giveBack with aborts := min (x.aborts + 1) Config.abortLimit })) :=
    (imageLaws_statusLost h).congr rfl
  unfold State.abort
  dsimp only
  split
  next c => exact imageLaws_enterWithdrawn lost (running_of c.2)
  · exact lost

theorem imageLaws_countGood (h : ImageLaws s) : ImageLaws s.countGood := by
  unfold State.countGood
  split
  next l =>
    split
    · exact h.congr rfl
    · exact imageLaws_enterJoining h (by simp [State.running, l])
  · exact h

/-! ## Start-up and life cycle (chapter 1) -/

theorem imageLaws_resetCondition (c : ResetCause) : Leads ImageLaws (execResetCondition c s) := .done (imageLaws_reset.congr rfl)

theorem imageLaws_leaveReset (st : StationId) (br : BrPin) (h : ImageLaws s) : Leads ImageLaws (execLeaveReset st br s) :=
  .ite (fun l => .done (imageLaws_of_reset (h.unloaded (by simp [State.running, l])))) (fun _ => .done h)

theorem imageLaws_headerReadComplete (bytes : List Byte) (h : ImageLaws s) : Leads ImageLaws (execHeaderReadComplete bytes s) :=
  .ite (fun l => .ite (fun _ => .done (h.congr rfl))
      (fun _ => .done (imageLaws_of_reset (h.unloaded (by simp [State.running, l.1])))))
    (fun _ => .done h)

theorem goodLoad_image (c : Setup) (lines : FieldLines) (s : State) : (s.goodLoad c lines).image = s.image := by
  have read : ((s.loadedWith c).firsts lines).image = s.image := by
    rw [(firsts_inert lines (s := s.loadedWith c) rfl).image, firstInputs_field]
    rfl
  rw [goodLoad_eq]
  generalize (s.loadedWith c).firsts lines = u at read ⊢
  rw [enterJoining_eq]
  exact read

/-- A load holds nothing of the peers, whether it is good or not (R11, R57). -/
theorem imageLaws_imageReadComplete (bytes : List Byte) (lines : FieldLines) (h : ImageLaws s) :
    Leads ImageLaws (execImageReadComplete bytes lines s) := by
  unfold execImageReadComplete
  split
  next l _ =>
    have unloaded := h.unloaded (by simp [State.running, l])
    dsimp only
    split
    · refine .done (imageLaws_of_reset (fun n => ?_))
      rw [goodLoad_image]
      exact unloaded n
    · exact .done (imageLaws_of_reset unloaded)
  · exact .done h

theorem imageLaws_configFaultAnnounceTimer (h : ImageLaws s) : Leads ImageLaws (execConfigFaultAnnounceTimer s) :=
  .ite (fun _ => .done (imageLaws_queueAnnounce _ (h.congr rfl))) (fun _ => .done h)

theorem imageLaws_joinWindowExpiry (h : ImageLaws s) : Leads ImageLaws (execJoinWindowExpiry s) := by
  refine .ite (fun l => .done ?_) (fun _ => .done h)
  have run := running_of (.inl l.1)
  have activated : ImageLaws s.activated := h.congr (by rw [State.imaged, State.imaged, run]; rfl)
  exact activated.tripped (enterActive_tripped s)

theorem imageLaws_withdrawnIdleTimeout (h : ImageLaws s) : Leads ImageLaws (execWithdrawnIdleTimeout s) :=
  .ite (fun l => .done (imageLaws_enterJoining h (by simp [State.running, l.1]))) (fun _ => .done h)

/-! ## The line and own sends (chapter 2) -/

theorem imageLaws_lineBusy (h : ImageLaws s) : Leads ImageLaws (execLineBusy s) :=
  .ite (fun _ => .done (h.congr rfl)) (fun _ => .done h)

theorem imageLaws_lineIdle (n : Nat) (h : ImageLaws s) : Leads ImageLaws (execLineIdle n s) :=
  .ite (fun _ => .ite (fun _ => .done (imageLaws_queueAnnounce _ (h.congr rfl))) (fun _ => .done (h.congr rfl)))
    (fun _ => .done h)

theorem imageLaws_lineStuck (n : Nat) (h : ImageLaws s) : Leads ImageLaws (execLineStuck n s) :=
  .ite (fun _ => .ite (fun _ => .done (imageLaws_abort (h.congr rfl))) (fun _ => .done (h.congr rfl))) (fun _ => .done h)

theorem imageLaws_stuckEnd (n : Nat) (h : ImageLaws s) : Leads ImageLaws (execStuckEnd n s) :=
  .ite (fun _ => .done (h.congr rfl)) (fun _ => .done h)

theorem imageLaws_frameDropped (w : Wave) (h : ImageLaws s) : Leads ImageLaws (execFrameDropped w s) := by
  unfold execFrameDropped
  split
  · exact .ite (fun _ => .done (h.congr rfl)) (fun _ => .done h)
  · exact .done h

theorem imageLaws_undeliveredGoodFrame (w : Wave) (h : ImageLaws s) : Leads ImageLaws (execUndeliveredGoodFrame w s) := by
  unfold execUndeliveredGoodFrame
  split
  · exact .ite (fun _ => .done (imageLaws_countGood (h.congr rfl))) (fun _ => .done h)
  · exact .done h

theorem imageLaws_sendStart (h : ImageLaws s) : Leads ImageLaws (execSendStart s) :=
  .ite (fun _ => .done (h.congr rfl)) (fun _ => .done h)

theorem imageLaws_lateStart (since free : Nat) (h : ImageLaws s) : Leads ImageLaws (execLateStart since free s) :=
  .ite (fun _ => .done (h.congr rfl)) (fun _ => .done h)

theorem imageLaws_idCellStart (h : ImageLaws s) : Leads ImageLaws (execIdCellStart s) := by
  unfold execIdCellStart
  split
  · exact .ite (fun _ => .ite (fun _ => .done (h.congr rfl)) (fun _ => .done (h.congr rfl))) (fun _ => .done h)
  · exact .done h

theorem imageLaws_arbitrationLoss (j : Fin 8) (h : ImageLaws s) : Leads ImageLaws (execArbitrationLoss j s) := by
  unfold execArbitrationLoss
  split
  · exact .ite (fun _ => .done ((imageLaws_statusLost h).congr rfl)) (fun _ => .done h)
  · exact .done h

theorem imageLaws_sendAbort (c : AbortCause) (h : ImageLaws s) : Leads ImageLaws (execSendAbort c s) := by
  unfold execSendAbort
  split
  · exact .done h
  · cases c with
    | bitError => exact .ite (fun _ => .done (imageLaws_abort h)) (fun _ => .done h)
    | selfDrop r => exact .ite (fun _ => .done (imageLaws_abort (h.congr rfl))) (fun _ => .done h)
    | stuck => exact .done (imageLaws_abort (h.congr rfl))

theorem imageLaws_sendComplete (heard : Bool) (h : ImageLaws s) : Leads ImageLaws (execSendComplete heard s) := by
  unfold execSendComplete
  split
  next m e =>
    refine .ite (fun c => .done ?_) (fun _ => .done h)
    obtain ⟨-, x, told⟩ := sendComplete_reacted heard e c.1 c.2
    refine ImageLaws.reacted ?_ told
    exact h.congr rfl
  · exact .done h

theorem imageLaws_sendWaitEnd (n : Nat) (h : ImageLaws s) : Leads ImageLaws (execSendWaitEnd n s) :=
  .ite (fun _ => .done (h.congr rfl)) (fun _ => .done h)

/-! ## The publisher, and the timers that touch one block (chapters 3, 5, 8 and 9) -/

theorem imageLaws_changeInhibitExpiry (h : ImageLaws s) : Leads ImageLaws (execChangeInhibitExpiry s) :=
  .ite (fun _ => .ite (fun _ => .done (h.congr rfl)) (fun _ => .done (h.congr rfl))) (fun _ => .done h)

theorem imageLaws_refreshExpiry (h : ImageLaws s) : Leads ImageLaws (execRefreshExpiry s) :=
  .ite (fun _ => .done (imageLaws_kept.cause (h.congr rfl))) (fun _ => .done h)

theorem imageLaws_tripRepeatExpiry (h : ImageLaws s) : Leads ImageLaws (execTripRepeatExpiry s) := by
  have stopped : ImageLaws (s.onUnit (fun u => { u with tripRepeat := none })) := h.congr rfl
  exact .ite (fun _ => .ite (fun _ => .done (imageLaws_kept.requeueTrip stopped)) (fun _ => .done stopped)) (fun _ => .done h)

theorem imageLaws_pulseTimeExpiry (g : Generator) (h : ImageLaws s) : Leads ImageLaws (execPulseTimeExpiry g s) := by
  cases g with
  | proportional f => exact .done (h.congr rfl)
  | solenoid f => exact .done (h.congr rfl)

theorem imageLaws_intentRefreshExpiry (h : ImageLaws s) : Leads ImageLaws (execIntentRefreshExpiry s) := by
  have stopped : ImageLaws (s.onPanel (fun p => { p with refresh := none, refreshKind := none })) := h.congr rfl
  unfold execIntentRefreshExpiry
  refine .ite (fun _ => ?_) (fun _ => .done h)
  dsimp only
  split
  · exact .ite (fun _ => .done (imageLaws_queueIntent _ stopped)) (fun _ => .done stopped)
  · exact .done stopped

theorem imageLaws_intentLeaseExpiry (n : StationId) (h : ImageLaws s) : Leads ImageLaws (execIntentLeaseExpiry n s) :=
  .ite (fun _ => .done (imageLaws_kept.settle (h.congr rfl))) (fun _ => .done h)

/-! ## Field inputs (chapter 6) -/

theorem imageLaws_inputLevelChange (i : InputId) (high : Bool) (h : ImageLaws s) :
    Leads ImageLaws (execInputLevelChange i high s) :=
  .ite (fun _ => .done (h.congr rfl)) (fun _ => .done (h.congr rfl))

theorem imageLaws_panelInput (i : InputId) (h : ImageLaws s) : ImageLaws (s.panelInput i) := by
  have selected : ImageLaws (s.rearmed i).select := imageLaws_kept.act (h.congr rfl)
  have pressed : ImageLaws ((s.rearmed i).select.pressReset i) := by
    unfold State.pressReset
    split
    · exact imageLaws_queueIntent _ selected
    · exact selected
  unfold State.panelInput
  split
  · unfold State.formHeld
    dsimp only
    split
    · exact pressed
    · exact imageLaws_queueIntent _ (pressed.congr rfl)
  · exact h

theorem imageLaws_debounceExpiry (i : InputId) (h : ImageLaws s) : Leads ImageLaws (execDebounceExpiry i s) := by
  have k := imageLaws_kept
  refine .ite (fun _ => .done (k.settle (imageLaws_panelInput i (k.pumpInput i ?_)))) (fun _ => .done h)
  exact Kept.eachFn (fun f _ => k.endInputs i f) (k.act (h.congr rfl))

theorem imageLaws_discrepancyExpiry (f : FnId) (e : Dir) (h : ImageLaws s) : Leads ImageLaws (execDiscrepancyExpiry f e s) := by
  have k := imageLaws_kept
  exact .ite (fun _ => .done (k.settle (k.takeLatched f _ (k.refreshEnd f (k.fnField f _ h))))) (fun _ => .done h)

theorem imageLaws_stopLoopOpening (h : ImageLaws s) : Leads ImageLaws (execStopLoopOpening s) :=
  .ite (fun _ => .ite (fun _ => .done (imageLaws_kept.stationStop s (imageLaws_kept.act (h.congr rfl))))
    (fun _ => .done (h.congr rfl))) (fun _ => .done (h.congr rfl))

theorem imageLaws_stopLoopReadsClosed (h : ImageLaws s) : Leads ImageLaws (execStopLoopReadsClosed s) :=
  .ite (fun _ => .done (h.congr rfl)) (fun _ => .done (h.congr rfl))

/-- A closing of the stop loop, and a recovery of the supply, may open the gate (R103, R106). -/
theorem imageLaws_gateOpening (g : FieldInputs → FieldInputs) (h : ImageLaws s) :
    ImageLaws (State.gateEdge s (s.act (State.onField g))).settle :=
  imageLaws_kept.settle (imageLaws_kept.gateEdge s (imageLaws_kept.act (h.congr rfl)))

theorem imageLaws_stopLoopClosingExpiry (h : ImageLaws s) : Leads ImageLaws (execStopLoopClosingExpiry s) :=
  .ite (fun _ => .done (imageLaws_gateOpening _ h)) (fun _ => .done h)

theorem imageLaws_supplyFallsBelow19V (h : ImageLaws s) : Leads ImageLaws (execSupplyFallsBelow19V s) :=
  .ite (fun _ => .ite (fun _ => .done (h.congr rfl)) (fun _ => .done (h.congr rfl))) (fun _ => .done (h.congr rfl))

theorem imageLaws_supplyBackAt19V (h : ImageLaws s) : Leads ImageLaws (execSupplyBackAt19V s) :=
  .ite (fun _ => .ite (fun _ => .done (h.congr rfl)) (fun _ => .done (h.congr rfl))) (fun _ => .done h)

theorem imageLaws_supplyRisesTo20V (h : ImageLaws s) : Leads ImageLaws (execSupplyRisesTo20V s) :=
  .ite (fun _ => .ite (fun _ => .done (h.congr rfl)) (fun _ => .done (h.congr rfl))) (fun _ => .done (h.congr rfl))

theorem imageLaws_supplyFallsBelow20V (h : ImageLaws s) : Leads ImageLaws (execSupplyFallsBelow20V s) :=
  .ite (fun _ => .ite (fun _ => .done (h.congr rfl)) (fun _ => .done (h.congr rfl))) (fun _ => .done h)

theorem imageLaws_lowTimerExpiry (h : ImageLaws s) : Leads ImageLaws (execLowTimerExpiry s) :=
  .ite (fun _ => .done (imageLaws_kept.stationStop s (imageLaws_kept.act (h.congr rfl)))) (fun _ => .done h)

theorem imageLaws_recoveryTimerExpiry (h : ImageLaws s) : Leads ImageLaws (execRecoveryTimerExpiry s) :=
  .ite (fun _ => .done (imageLaws_gateOpening _ h)) (fun _ => .done h)

/-! ## Functions, drives and pumps (chapters 7, 8 and 10) -/

theorem imageLaws_controlPeriod (f : FnId) (raw : Reading) (h : ImageLaws s) : Leads ImageLaws (execControlPeriod f raw s) := by
  have k := imageLaws_kept
  unfold execControlPeriod
  split
  · exact .ite (fun _ => .done (k.settle (k.driveStages f (fun _ h => h.congr rfl) (k.settle (k.convert f _ raw (h.congr rfl))))))
      (fun _ => .done h)
  · exact .done h

theorem imageLaws_pressureConversion (raw : Reading) (h : ImageLaws s) : Leads ImageLaws (execPressureConversion raw s) :=
  .ite (fun _ => .done (imageLaws_kept.settle (Kept.eachFn (fun f _ => imageLaws_kept.takePressure _ f) (h.congr rfl))))
    (fun _ => .done h)

/-- The four motion timeouts take a latched fault alike (R115, R116, R119). -/
theorem imageLaws_motionTimeout (f : FnId) (code : FaultCode) (c : Prop) [Decidable c] (h : ImageLaws s) :
    Leads ImageLaws (if c then done (s.takeLatched f code).settle else done s) :=
  .ite (fun _ => .done (imageLaws_kept.settle (imageLaws_kept.takeLatched f code h))) (fun _ => .done h)

theorem imageLaws_seatTimerExpiry (f : FnId) (h : ImageLaws s) : Leads ImageLaws (execSeatTimerExpiry f s) :=
  .ite (fun _ => .done (imageLaws_kept.settle (imageLaws_kept.endSeat f h))) (fun _ => .done h)

theorem imageLaws_pullInExpiry (f : FnId) (h : ImageLaws s) : Leads ImageLaws (execPullInExpiry f s) :=
  .ite (fun _ => .done (h.congr rfl)) (fun _ => .done h)

theorem imageLaws_runUpExpiry (p : PumpId) (h : ImageLaws s) : Leads ImageLaws (execRunUpExpiry p s) := by
  have k := imageLaws_kept
  exact .ite (fun _ => .done (k.settle (k.arbitrate (k.pumpEnters p _ h)))) (fun _ => .done h)

theorem imageLaws_idleTimerExpiry (h : ImageLaws s) : Leads ImageLaws (execIdleTimerExpiry s) := by
  have k := imageLaws_kept
  exact .ite (fun _ => .done (k.settle (k.arbitrate (k.idleStop .b (k.idleStop .a (k.flow _ h)))))) (fun _ => .done h)

/-! ## Arrivals (chapters 4 and 9) -/

/-- An arrival keeps the laws where its delivery to a running station by a peer does (R25). -/
theorem imageLaws_arrival (kind : FrameKind) {deliver : Frame → State → State} (w : Wave) (h : ImageLaws s)
    (delivered : ∀ (f : Frame) {t : State}, t.running = true → f.station ≠ t.station → ImageLaws t → ImageLaws (deliver f t)) :
    ImageLaws (s.arrival kind deliver w) := by
  have ended : ImageLaws (s.frameEnd w) := h.congr rfl
  unfold State.arrival
  split
  · exact h
  next f _ =>
    split
    next c =>
      split
      next run => exact imageLaws_countGood (delivered f run c.2 ended)
      · exact ended
    · exact h

/-- A STATUS makes a peer's entry UNVERIFIED, or is absorbed by it, or leaves it (R59 to R64). -/
theorem imageLaws_takeStatus {n : StationId} (b : Byte) (r : Record) (run : s.running = true) (other : n ≠ s.station)
    (h : ImageLaws s) : ImageLaws (s.takeStatus n b r) := by
  have lawful := ((entryLaw_iff s n).mp (h n)).2
  have unverified : (s.image[n]).state = .absent ∨ (s.image[n]).state = .unverified → ImageLaws ((s.onEntry n (fun e =>
      { e with state := .unverified, age := some s.timing.stale })).queueAnnounce true) := fun pending =>
    imageLaws_queueAnnounce true (h.onEntry _ run other (lawful.unverified pending _))
  have absorbed : (s.image[n]).state = .known ∨ (s.image[n]).state = .stale ∨ (s.image[n]).state = .fresh →
      ImageLaws (s.onEntry n (Entry.absorb s.timing.stale b (if s.cfg.subscription.contains n then some r else none))) :=
    fun whole => h.onEntry _ run other (lawful.absorb whole _ b r)
  have noticed : ∀ {t : State}, ImageLaws t → ImageLaws ((t.changeNotice n).statusNotice n) := fun ht =>
    imageLaws_kept.statusNotice n (imageLaws_kept.changeNotice n ht)
  unfold State.takeStatus
  extract_lets e kept
  split
  next c => exact unverified (.inl c)
  next c => exact unverified (.inr c)
  next c => exact noticed (absorbed (.inl c))
  next c => exact noticed (absorbed (.inr (.inl c)))
  next c =>
    split
    · exact imageLaws_kept.statusNotice n (absorbed (.inr (.inr c)))
    · exact noticed (absorbed (.inr (.inr c)))
  next => exact h

theorem imageLaws_statusDelivered (f : Frame) (run : s.running = true) (other : f.station ≠ s.station) (h : ImageLaws s) :
    ImageLaws (s.statusDelivered f) := by
  unfold State.statusDelivered
  split
  · split
    · exact imageLaws_takeStatus _ _ run other h
    · exact h
  · exact h

theorem imageLaws_announceDelivered (f : Frame) (run : s.running = true) (other : f.station ≠ s.station) (h : ImageLaws s) :
    ImageLaws (s.announceDelivered f) := by
  unfold State.announceDelivered
  split
  next a _ =>
    have written := h.onEntry (fun _ => Entry.announced (s.refuses f.station a) a.role) run other (.announced _ _)
    unfold State.takeAnnounce
    extract_lets e s1 s2
    have answered : ImageLaws s2 := by
      unfold s2
      split
      · exact imageLaws_queueAnnounce false written
      · exact written
    split
    · exact answered
    · exact imageLaws_kept.changeNotice _ answered
  · exact h

/-- An INTENT is judged by its sender's entry and leaves it (R147, R150). -/
theorem imageLaws_intentDelivered (f : Frame) (h : ImageLaws s) : ImageLaws (s.intentDelivered f) := by
  have written : ∀ e : Option IntentEntry, ImageLaws (s.writeIntent f.station e).settle := fun _ =>
    imageLaws_kept.settle (h.congr rfl)
  unfold State.intentDelivered
  split
  · unfold State.takeIntent
    dsimp only
    split
    · exact h
    · split
      · split
        · exact written _
        · exact h.reacted (resetArrival_reacted s)
        · exact written _
      · exact h
  · exact h

theorem imageLaws_tripDelivered (f : Frame) (h : ImageLaws s) : ImageLaws (s.tripDelivered f) := by
  unfold State.tripDelivered
  split
  · exact imageLaws_kept.settle (imageLaws_kept.enterTrip _ _ h)
  · exact h

/-- The age of a peer's entry expires; the slot at the own number has none (R67). -/
theorem imageLaws_ageExpiry (n : StationId) (h : ImageLaws s) : Leads ImageLaws (execAgeExpiry n s) := by
  obtain ⟨none, lawful⟩ := (entryLaw_iff s n).mp (h n)
  unfold execAgeExpiry
  refine .ite (fun c => ?_) (fun _ => .done h)
  have other : n ≠ s.station := by
    intro own
    rw [none (.inr own)] at c
    cases c.2
  split
  next fresh => exact .done (imageLaws_kept.changeNotice n (h.onEntry _ c.1 other (lawful.stale fresh)))
  next pending => exact .done (h.onEntry _ c.1 other (lawful.absent pending))
  next => exact .done h

/-! ## Every command -/

/-- Each command keeps the laws of the peer image. -/
theorem imageLaws_exec (c : Instr) (h : ImageLaws s) : Leads ImageLaws (exec c s) := by
  cases c with
  | resetCondition r => exact imageLaws_resetCondition r
  | leaveReset n b => exact imageLaws_leaveReset n b h
  | headerReadComplete b => exact imageLaws_headerReadComplete b h
  | imageReadComplete b l => exact imageLaws_imageReadComplete b l h
  | configFaultAnnounceTimer => exact imageLaws_configFaultAnnounceTimer h
  | joinWindowExpiry => exact imageLaws_joinWindowExpiry h
  | withdrawnIdleTimeout => exact imageLaws_withdrawnIdleTimeout h
  | lineBusy => exact imageLaws_lineBusy h
  | lineIdle n => exact imageLaws_lineIdle n h
  | lineStuck n => exact imageLaws_lineStuck n h
  | stuckEnd n => exact imageLaws_stuckEnd n h
  | frameDropped w => exact imageLaws_frameDropped w h
  | undeliveredGoodFrame w => exact imageLaws_undeliveredGoodFrame w h
  | statusArrival w => exact .done (imageLaws_arrival _ w h (fun f _ run other => imageLaws_statusDelivered f run other))
  | announceArrival w => exact .done (imageLaws_arrival _ w h (fun f _ run other => imageLaws_announceDelivered f run other))
  | intentArrival w => exact .done (imageLaws_arrival _ w h (fun f _ _ _ => imageLaws_intentDelivered f))
  | tripArrival w => exact .done (imageLaws_arrival _ w h (fun f _ _ _ => imageLaws_tripDelivered f))
  | sendStart => exact imageLaws_sendStart h
  | lateStart a b => exact imageLaws_lateStart a b h
  | idCellStart => exact imageLaws_idCellStart h
  | arbitrationLoss j => exact imageLaws_arbitrationLoss j h
  | sendAbort a => exact imageLaws_sendAbort a h
  | sendComplete b => exact imageLaws_sendComplete b h
  | sendWaitEnd n => exact imageLaws_sendWaitEnd n h
  | changeInhibitExpiry => exact imageLaws_changeInhibitExpiry h
  | refreshExpiry => exact imageLaws_refreshExpiry h
  | tripRepeatExpiry => exact imageLaws_tripRepeatExpiry h
  | ageExpiry n => exact imageLaws_ageExpiry n h
  | flashTimerExpiry => exact .done (h.congr rfl)
  | inputLevelChange i b => exact imageLaws_inputLevelChange i b h
  | debounceExpiry i => exact imageLaws_debounceExpiry i h
  | discrepancyExpiry f e => exact imageLaws_discrepancyExpiry f e h
  | controlPeriod f r => exact imageLaws_controlPeriod f r h
  | pressureConversion r => exact imageLaws_pressureConversion r h
  | stopLoopOpening => exact imageLaws_stopLoopOpening h
  | stopLoopReadsClosed => exact imageLaws_stopLoopReadsClosed h
  | stopLoopClosingExpiry => exact imageLaws_stopLoopClosingExpiry h
  | supplyFallsBelow19V => exact imageLaws_supplyFallsBelow19V h
  | supplyBackAt19V => exact imageLaws_supplyBackAt19V h
  | supplyRisesTo20V => exact imageLaws_supplyRisesTo20V h
  | supplyFallsBelow20V => exact imageLaws_supplyFallsBelow20V h
  | lowTimerExpiry => exact imageLaws_lowTimerExpiry h
  | recoveryTimerExpiry => exact imageLaws_recoveryTimerExpiry h
  | grantWaitExpiry f => exact imageLaws_motionTimeout f .noFlow _ h
  | pressuriseTimeout f => exact imageLaws_motionTimeout f .noPressure _ h
  | strokeTimeout f => exact imageLaws_motionTimeout f .strokeTimeout _ h
  | stallWindowExpiry f => exact imageLaws_motionTimeout f .stall _ h
  | seatTimerExpiry f => exact imageLaws_seatTimerExpiry f h
  | pullInExpiry f => exact imageLaws_pullInExpiry f h
  | intentRefreshExpiry => exact imageLaws_intentRefreshExpiry h
  | intentLeaseExpiry n => exact imageLaws_intentLeaseExpiry n h
  | resetWindowExpiry => exact .done (h.congr rfl)
  | runUpExpiry p => exact imageLaws_runUpExpiry p h
  | idleTimerExpiry => exact imageLaws_idleTimerExpiry h
  | pulseTimeExpiry g => exact imageLaws_pulseTimeExpiry g h

/-- Settles O45, by the laws under every command. -/
theorem imageLawsKept : Obligations.ImageLawsKept := by
  unfold Obligations.ImageLawsKept
  intro s t h e
  exact step_keeps (fun _ _ h => h.congr rfl) (fun _ h => h.congr rfl) (fun c _ h => imageLaws_exec c h) h e

/-- An age expiry at a FRESH entry (R67, R69). -/
theorem ageExpiry_fresh {n : StationId} (run : s.running = true) (aging : (s.image[n]).age.isSome = true)
    (fresh : (s.image[n]).state = .fresh) : exec (.ageExpiry n) s = done (State.changeNotice n { s with
      image := s.image.set n { s.image[n] with state := .stale, age := none, byte := none, record := none } }) := by
  show execAgeExpiry n s = _
  unfold execAgeExpiry
  rw [if_pos ⟨run, aging⟩, fresh]
  rfl

/-- An age expiry at an UNVERIFIED entry (R67). -/
theorem ageExpiry_unverified {n : StationId} (run : s.running = true) (aging : (s.image[n]).age.isSome = true)
    (pending : (s.image[n]).state = .unverified) : exec (.ageExpiry n) s = .next (State.finish { s with
      image := s.image.set n { s.image[n] with state := .absent, age := none } }) := by
  show execAgeExpiry n s = _
  unfold execAgeExpiry
  rw [if_pos ⟨run, aging⟩, pending]
  rfl

/-- Settles O23: a change notice follows the entry that became STALE, and none the entry that became ABSENT. -/
theorem ageExpiryStales : Obligations.AgeExpiryStales := by
  unfold Obligations.AgeExpiryStales
  intro n s run aging stale
  exact ⟨fun fresh => ⟨_, ageExpiry_fresh run aging fresh, (changeNotice_noticed n _).trans (.finish _)⟩,
    ageExpiry_unverified run aging⟩

end Sys2Proof.Machine
end

section
/-! A guard evaluation in a state that it has left (R82 to R86): no term reads a guard result, not even of the own record, so that
an evaluation over its own results changes nothing. -/

namespace Sys2Proof.Machine

/-! ## Records without their blocking terms (R41) -/

/-- A function record but for the blocking term, which no selector reads (R76). -/
def FnRecord.unblocked (r : FnRecord) : FnRecord := { r with blocking := 0 }

/-- A record but for the blocking terms. -/
def Record.unblocked : Record → Record
  | .motion fns => .motion #v[fns[0].unblocked, fns[1].unblocked, fns[2].unblocked, fns[3].unblocked]
  | r => r

/-- An entry but for the blocking terms. -/
def Entry.unblocked (e : Entry) : Entry := { e with record := e.record.map Record.unblocked }

/-- The position of a function that an entry shows while it is FRESH. -/
def Entry.position (e : Entry) (f : FnId) : Option Nat :=
  if e.state = .fresh then
    match e.record with
    | some (.motion fns) => some (fns[f]).position
    | _ => none
  else none

theorem unblocked_slot (v : Vector FnRecord 4) (f : FnId) :
    (#v[v[0].unblocked, v[1].unblocked, v[2].unblocked, v[3].unblocked])[f] = (v[f]).unblocked := by
  match f with
  | 0 => rfl
  | 1 => rfl
  | 2 => rfl
  | 3 => rfl

theorem reads_unblocked (s : State) (e : Entry) (sel : Selector) : s.reads e.unblocked sel = s.reads e sel := by
  obtain ⟨state, role, fpMatch, age, byte, record⟩ := e
  cases record with
  | none => rfl
  | some r =>
    cases r with
    | motion v =>
      show s.reads { state := state, role := role, fpMatch := fpMatch, age := age, byte := byte
                     record := some (.motion _) } sel = _
      cases sel with
      | fnMotion f => exact (congrArg (fun x : FnRecord => some (TermReading.code x.motion.code)) (unblocked_slot v f) :)
      | fnEnd f => exact (congrArg (fun x : FnRecord => some (TermReading.code x.endState.code)) (unblocked_slot v f) :)
      | fnFault f => exact (congrArg (fun x : FnRecord => some (TermReading.code x.fault.code)) (unblocked_slot v f) :)
      | fnPosition f => exact (congrArg (fun x : FnRecord => some (TermReading.number x.position)) (unblocked_slot v f) :)
      | pumpState p => cases p <;> rfl
      | stationFlags | panelFlags | pumpCapacity | localInput => rfl
    | pump a b c gs => rfl
    | panel u c m n f => rfl

theorem Entry.position_unblocked (e : Entry) (f : FnId) : e.unblocked.position f = e.position f := by
  obtain ⟨state, role, fpMatch, age, byte, record⟩ := e
  cases record with
  | none => rfl
  | some r =>
    cases r with
    | motion v =>
      exact (congrArg (fun x : FnRecord => if state = .fresh then some x.position else none) (unblocked_slot v f) :)
    | pump a b c gs => rfl
    | panel u c m n f => rfl

theorem peerFn_position (s : State) (n : StationId) (f : FnId) :
    (s.peerFn n f).map FnRecord.position = (s.entry n).position f := by
  unfold State.peerFn State.isFresh Entry.position
  simp only [beq_iff_eq]
  split
  · cases (s.entry n).record with
    | none => rfl
    | some r => cases r <;> rfl
  · rfl

theorem peerPosition_eq (s : State) (f : FnId) : s.peerPosition f =
    ((s.fnSetup f).bind FnSetup.pair).bind (fun p =>
      ((s.entry p.1).position p.2).filter (fun q => q ≠ Config.noPosition)) := by
  unfold State.peerPosition
  split
  next none => rw [none]; rfl
  next n g pair =>
    rw [pair, Option.bind_some, ← peerFn_position]
    cases s.peerFn n g with
    | none => rfl
    | some r =>
      dsimp only [Option.map_some, Option.filter]
      by_cases c : r.position = Config.noPosition <;> simp [c]

/-- The own entry by what it mirrors (R58). -/
def Entry.own (l : Life) (role : Role) (b : Byte) (r : Option Record) : Entry :=
  match l with
  | .joining => { state := .known, role := some role, fpMatch := .matched, age := none, byte := some b, record := r }
  | .withdrawn => { state := .known, role := some role, fpMatch := .matched, age := none, byte := some b, record := r }
  | .active => { state := .fresh, role := some role, fpMatch := .matched, age := none, byte := some b, record := r }
  | _ => Entry.atReset

theorem ownEntry_eq (s : State) : s.ownEntry = Entry.own s.life s.role s.stationByte s.ownRecord := by
  unfold State.ownEntry
  cases s.life <;> rfl

theorem Entry.own_unblocked (l : Life) (role : Role) (b : Byte) (r : Option Record) :
    (Entry.own l role b r).unblocked = Entry.own l role b (r.map Record.unblocked) := by cases l <;> rfl

/-! ## Guard results and terms (R76 to R78, R84) -/

section
variable (s : State) (g : GuardEngine)

/-- The own record shows no guard result but the blocking terms (R41, R58). -/
theorem ownRecord_guard : (State.ownRecord { s with guard := g }).map Record.unblocked = s.ownRecord.map Record.unblocked := by
  unfold State.ownRecord
  rw [show State.role { s with guard := g } = s.role from rfl]
  cases s.role <;> rfl

theorem entry_guard (n : StationId) : (State.entry { s with guard := g } n).unblocked = (s.entry n).unblocked := by
  unfold State.entry
  dsimp only
  split
  · rw [ownEntry_eq, ownEntry_eq, Entry.own_unblocked, Entry.own_unblocked, ownRecord_guard]
    rfl
  · rfl

theorem termValue_guard (t : Term) : State.termValue { s with guard := g } t = s.termValue t := by
  have same := entry_guard s g t.station
  have state : (State.entry { s with guard := g } t.station).state = (s.entry t.station).state := (congrArg Entry.state same :)
  have role : (State.entry { s with guard := g } t.station).role = (s.entry t.station).role := (congrArg Entry.role same :)
  have reads : State.reads { s with guard := g } (State.entry { s with guard := g } t.station) t.selector =
      s.reads (s.entry t.station) t.selector := by
    rw [← reads_unblocked s (s.entry t.station), ← same]
    exact (reads_unblocked { s with guard := g } _ _).symm
  unfold State.termValue State.answerable
  dsimp only
  rw [state, role, reads]

theorem pairValue_guard (f : FnId) : State.pairValue { s with guard := g } f = s.pairValue f := by
  have position : State.peerPosition { s with guard := g } f = s.peerPosition f := by
    rw [peerPosition_eq, peerPosition_eq]
    congr 1
    funext p
    rw [← Entry.position_unblocked, entry_guard, Entry.position_unblocked]
  unfold State.pairValue
  rw [position]
  rfl

theorem lampNow_guard (n : Nat) : State.lampNow { s with guard := g } n = s.lampNow n := by
  unfold State.lampNow
  rw [show State.termValue { s with guard := g } = s.termValue from funext (termValue_guard s g)]
  rfl

end

/-- The mode of a configured function is the one that the evaluation has just found (R82). -/
theorem modeNow_twice {s : State} {f : FnId} {x : FnSetup} (c : s.fnSetup f = some x) :
    State.modeNow { s with guard := s.guardNow } f = s.modeNow f := by
  have held : (s.guardNow.fns[f]).mode = s.modeNow f := by
    have slot : s.guardNow.fns[f] = s.fnGuardNow f := by
      unfold State.guardNow
      match f with
      | 0 => rfl
      | 1 => rfl
      | 2 => rfl
      | 3 => rfl
    rw [slot, State.fnGuardNow, c]
  show (if (s.fns[f]).motion.atRest then (if s.singled f then Mode.single else .normal) else (s.guardNow.fns[f]).mode) = _
  rw [held]
  unfold State.modeNow
  split <;> rfl

theorem guardNow_congr {s t : State} (functions : ∀ f : FnId, t.fnGuardNow f = s.fnGuardNow f)
    (lamps : ∀ n : Nat, t.lampNow n = s.lampNow n) (flash : t.guard.flash = s.guard.flash) : t.guardNow = s.guardNow := by
  unfold State.guardNow
  simp only [functions, lamps, flash]

/-- An evaluation over its own results finds them again (R86). -/
theorem guardNow_twice (s : State) : State.guardNow { s with guard := s.guardNow } = s.guardNow := by
  have functions : ∀ f : FnId, State.fnGuardNow { s with guard := s.guardNow } f = s.fnGuardNow f := by
    intro f
    unfold State.fnGuardNow
    rw [show State.fnSetup { s with guard := s.guardNow } f = s.fnSetup f from rfl]
    split
    · rfl
    next x c =>
      rw [modeNow_twice c, pairValue_guard, show State.termValue { s with guard := s.guardNow } = s.termValue from
        funext (termValue_guard s s.guardNow)]
      rfl
  exact guardNow_congr functions (lampNow_guard s s.guardNow) rfl

end Sys2Proof.Machine
end

section
/-! What an evaluation and a notice leave of a station but for its pending set, its line and its publisher: these are no matter of
the guards and of the functions (R48, R86, R87), so that a frame queued beside an event changes no reaction to it. -/

namespace Sys2Proof.Machine

/-! ## A station without its frames -/

/-- A station but for its loop interface, of which the functions read LONE only, and its publisher. -/
def State.bare (s : State) : State :=
  { s with loop := { Loop.atReset with lone := s.loop.lone }, pub := Publisher.atReset }

/-- Two stations that differ in their loop interface and their publisher at most, but not in LONE. -/
def Alike (s t : State) : Prop := t.bare = s.bare

/-- What reads no more of a station than it has without its frames is the same for both. -/
theorem Alike.same {s t : State} (h : Alike s t) {α : Type} (view : State → α) (reads : ∀ u : State, view u.bare = view u) :
    view t = view s := by
  rw [← reads t, ← reads s, show t.bare = s.bare from h]

theorem Alike.guardNow {s t : State} (h : Alike s t) : t.guardNow = s.guardNow := h.same State.guardNow (fun _ => rfl)

theorem Alike.isActive {s t : State} (h : Alike s t) : t.isActive = s.isActive := h.same State.isActive (fun _ => rfl)

/-- A station in which functions and drives have moved, and no more but for its frames. -/
def Shifted (s t : State) : Prop := t.bare = { s.bare with fns := t.fns, drive := t.drive }

theorem Shifted.refl (s : State) : Shifted s s := rfl

theorem Shifted.trans {s t u : State} (h : Shifted s t) (k : Shifted t u) : Shifted s u := by
  unfold Shifted at h k ⊢
  rw [k, h]

theorem Moved.shifted {f : FnId} {s t : State} (h : Moved f s t) : Shifted s t := by
  have e := h.rest
  generalize t.fns = a, t.drive = b, t.loop.status = x, t.pub.deferred = y at e
  subst e
  rfl

theorem pumpNotice_shifted (n : StationId) (s : State) : Shifted s (s.pumpNotice n) := by
  unfold State.pumpNotice
  split
  · exact Kept.foldl (P := Shifted s) (fun f _ h => h.trans (pumpNoticeAt_moved f _).shifted) _ (.refl s)
  · exact .refl s

namespace Shifted

variable {s t : State} (h : Shifted s t)
include h

theorem image : t.image = s.image := (congrArg State.image h :)
theorem setup : t.setup = s.setup := (congrArg State.setup h :)
theorem station : t.station = s.station := (congrArg State.station h :)
theorem life : t.life = s.life := (congrArg State.life h :)

end Shifted

/-! ## Evaluations -/

theorem evaluate_eq {s : State} (a : s.isActive = true) : s.evaluate = { s with
    guard := s.guardNow, loop := { s.loop with status := s.evaluate.loop.status }
    pub := { s.pub with deferred := s.evaluate.pub.deferred } } := by
  have ran : s.evaluate = s.act (fun x => { x with guard := x.guardNow }) := if_pos a
  rw [ran]
  exact act_eq _ s

theorem evaluate_alike {s : State} (a : s.isActive = true) : Alike { s with guard := s.guardNow } s.evaluate := by
  unfold Alike
  rw [evaluate_eq a]
  rfl

theorem Alike.evaluate {s t : State} (h : Alike s t) (a : s.isActive = true) : Alike s.evaluate t.evaluate := by
  have guarded : Alike { s with guard := s.guardNow } { t with guard := t.guardNow } := by
    rw [h.guardNow]
    exact congrArg (fun u : State => { u with guard := s.guardNow }) h
  exact ((evaluate_alike (h.isActive.trans a)).trans guarded).trans (evaluate_alike a).symm

/-- A second evaluation finds the results of the first (R86). -/
theorem evaluate_twice (s : State) : s.evaluate.evaluate = s.evaluate := by
  refine evaluate_current (fun a => ?_)
  have active : s.isActive = true := (evaluate_settled s).isActive ▸ a
  rw [(evaluate_alike active).guardNow, guardNow_twice, evaluate_eq active]

/-! ## Functions that have nothing to do -/

/-- A function in PRESSURISE, TRAVEL or CREEP goes on while it has its permit and its demand (R120, R121). -/
theorem stopFor_none_iff (s : State) (f : FnId) (d : Dir) : s.stopFor f d = none ↔
    ((s.guard.fns[f]).permits d).proceed = true ∧ s.demands f d = true := by
  have permit : s.permitStop f d = none ↔ ((s.guard.fns[f]).permits d).proceed = true := by
    unfold State.permitStop
    dsimp only
    split
    next c => exact iff_of_true rfl c
    next c => exact iff_of_false nofun c
  have demand : s.demandStop f d = none ↔ s.demands f d = true := by
    unfold State.demandStop
    split
    next c => exact iff_of_true rfl c
    next c => split <;> exact iff_of_false nofun c
  unfold State.stopFor
  split
  · rw [Option.or_eq_none_iff, permit, demand]
  · rw [Option.or_eq_none_iff, permit, demand, and_comm]

/-- A function goes on as it is (R109, R110, R114, R120, R121). -/
def State.goesOn (s : State) (f : FnId) : Prop :=
  match (s.fns[f]).motion, (s.fns[f]).target with
  | .rest, _ => s.mayLeave f .toOpen = false ∧ s.mayLeave f .toClose = false
  | .awaitFlow, some d => (s.demands f d && ((s.guard.fns[f]).permits d).start) = true
  | .pressurise, some d => ((s.guard.fns[f]).permits d).proceed = true ∧ s.demands f d = true
  | .travel, some d => ((s.guard.fns[f]).permits d).proceed = true ∧ s.demands f d = true
  | .creep, some d => ((s.guard.fns[f]).permits d).proceed = true ∧ s.demands f d = true
  | _, _ => True

theorem react_none_iff (s : State) (f : FnId) : s.react f = none ↔ s.goesOn f := by
  unfold State.react State.goesOn
  generalize (s.fns[f]).motion = m, (s.fns[f]).target = x
  split
  · cases s.mayLeave f .toOpen <;> cases s.mayLeave f .toClose <;> simp
  · exact ite_eq_left_iff.trans (by simp)
  · exact stopFor_none_iff s f _
  · exact stopFor_none_iff s f _
  · exact stopFor_none_iff s f _
  · simp

theorem Alike.goesOn {s t : State} (h : Alike s t) (f : FnId) : t.goesOn f ↔ s.goesOn f :=
  (h.same (fun u => u.goesOn f) (fun _ => rfl)).to_iff

theorem Alike.calm {s t : State} (h : Alike s t) (a : s.isActive = true) (c : Calm s) : Calm t := fun f =>
  (react_none_iff _ f).mpr (((h.evaluate a).goesOn f).mpr ((react_none_iff _ f).mp (c f)))

/-- Nothing more follows where an event is settled twice and nothing reacts to it. -/
theorem settle_evaluated {s : State} (c : Calm s) : s.evaluate.settle = s.evaluate := by
  have calm : Calm s.evaluate := by
    unfold Calm
    rw [evaluate_twice]
    exact c
  rw [settle_calm calm, evaluate_twice]

end Sys2Proof.Machine
end

section
/-! The functions of a MOTION station at a change notice of its pump station (R71, R111, R113, R120, R122): the release tests, and
then what each function does about its grant, by its motion state. -/

namespace Sys2Proof.Machine

/-! ## The grant list (R71) -/

section
variable {s t : State} {n : StationId}

theorem peerGrants_listed {a b : PumpState} {c : Nat} {gs : List (StationId × FnId)} (other : n ≠ s.station)
    (fresh : (s.image[n]).state = .fresh) (record : (s.image[n]).record = some (.pump a b c gs)) : s.peerGrants n = some gs := by
  unfold State.peerGrants State.isFresh
  rw [entry_other other, fresh, record]
  rfl

theorem peerGrants_unlisted (other : n ≠ s.station) (gone : (s.image[n]).state ≠ .fresh) : s.peerGrants n = none := by
  unfold State.peerGrants State.isFresh
  rw [entry_other other]
  exact if_neg (by simpa using gone)

/-- The list of a peer is a matter of its entry. -/
theorem grants_congr (other : s.cfg.own.pumpStation ≠ s.station)
    (same : (t.image, t.setup, t.station) = (s.image, s.setup, s.station)) (f : FnId) :
    t.holdsGrant f = s.holdsGrant f ∧ t.grantGone f = s.grantGone f := by
  simp only [Prod.mk.injEq] at same
  obtain ⟨image, setup, station⟩ := same
  have cfg : t.cfg = s.cfg := by
    unfold State.cfg
    rw [setup]
  have listed : t.peerGrants t.cfg.own.pumpStation = s.peerGrants s.cfg.own.pumpStation := by
    unfold State.peerGrants State.isFresh
    rw [cfg, entry_other other, entry_other (by rw [station]; exact other), image]
  unfold State.holdsGrant State.grantGone
  rw [listed, station]
  exact ⟨rfl, rfl⟩

theorem Shifted.grants (h : Shifted s t) (other : s.cfg.own.pumpStation ≠ s.station) (f : FnId) :
    t.holdsGrant f = s.holdsGrant f ∧ t.grantGone f = s.grantGone f :=
  grants_congr other (by rw [h.image, h.setup, h.station]) f

theorem Noticed.grants (h : Noticed s t) (other : s.cfg.own.pumpStation ≠ s.station) (f : FnId) :
    t.holdsGrant f = s.holdsGrant f ∧ t.grantGone f = s.grantGone f :=
  grants_congr other (by rw [h.rest]) f

end

/-! ## One function at a notice -/

/-- A function slot: its controller and its valve drive. -/
def State.slot (s : State) (f : FnId) : Fn × Drive := (s.fns[f], s.drive[f])

/-- The release test of R111. -/
def Fn.tested (holds gone : Bool) (x : Fn) : Fn :=
  if x.motion = .rest ∨ x.motion = .heldFault then { x with released := !holds && (gone || x.released) } else x

/-- A stop with a fault code, which a level of 0 ends at once (R120, R122). -/
def stopsWith (code : FaultCode) (gone : Bool) (a : Fn × Drive) : Fn × Drive :=
  if a.2.level = 0 then
    ({ a.1.quiet with
        motion := if code.latched then .heldFault else .rest, target := none, fault := code, released := gone }, Drive.off)
  else ({ a.1.quiet with motion := .stopping, fault := code }, a.2)

/-- A function that has left REST takes the notice (R113, R120). -/
def takesNotice (holds gone : Bool) (p : Profile) (a : Fn × Drive) : Fn × Drive :=
  match a.1.motion with
  | .awaitFlow =>
      if holds then
        ({ a.1 with motion := .pressurise, grantWait := none, pressurise := some p.pressuriseTimeout },
          { Drive.off with phase := .pullIn, pullIn := some p.pullIn })
      else a
  | .pressurise => if holds then a else stopsWith .grantLost gone a
  | .travel => if holds then a else stopsWith .grantLost gone a
  | .creep => if holds then a else stopsWith .grantLost gone a
  | _ => a

theorem releaseAt_slot (s : State) (f : FnId) : (s.releaseAt f).slot f =
    ((s.fns[f]).tested (s.holdsGrant f) (s.grantGone f), s.drive[f]) := by
  have released : ∀ b : Bool, (s.onFn f (fun x => { x with released := b })).slot f =
      ({ s.fns[f] with released := b }, s.drive[f]) := fun b => by rw [State.slot, State.onFn_same, State.onFn_drive]
  unfold State.releaseAt Fn.tested
  split
  · cases s.holdsGrant f
    · cases s.grantGone f
      · rfl
      · exact released true
    · exact released false
  · rfl

theorem slot_act (op : State → State) (s : State) (f : FnId) : (s.act op).slot f = (op s).slot f := by
  unfold State.slot
  rw [act_fns, act_drive]

theorem toIdle_slot (m : Motion) (f : FnId) (s : State) : (s.toIdle m f).slot f =
    ({ (s.fns[f]).quiet with
        motion := m, target := none
        released := if (s.fns[f]).motion.claims then s.grantGone f else (s.fns[f]).released }, Drive.off) := by
  unfold State.toIdle
  dsimp only
  rw [State.slot, State.onDrive_same, State.onDrive_fns, State.onFn_same]

theorem enterStopping_slot (s : State) (f : FnId) (code : FaultCode) (other : s.cfg.own.pumpStation ≠ s.station) :
    (s.enterStopping f code).slot f = stopsWith code (s.grantGone f) (s.slot f) := by
  have moved : Moved f s (s.act (State.onFn f (fun x => { x.quiet with motion := .stopping, fault := code }))) :=
    (onFn_moved f _ s).act
  have gone := (moved.shifted.grants other f).2
  have fn : (s.act (State.onFn f (fun x => { x.quiet with motion := .stopping, fault := code }))).fns[f] =
      { (s.fns[f]).quiet with motion := .stopping, fault := code } := by rw [act_fns, State.onFn_same]
  have drive : (s.act (State.onFn f (fun x => { x.quiet with motion := .stopping, fault := code }))).drive = s.drive := by
    rw [act_drive, State.onFn_drive]
  unfold State.enterStopping stopsWith
  dsimp only
  generalize s.act (State.onFn f _) = u at gone fn drive ⊢
  rw [drive]
  show (if (s.drive[f]).level = 0 then u.endStopping f else u).slot f = if (s.drive[f]).level = 0 then _ else _
  split
  · unfold State.endStopping
    rw [slot_act, toIdle_slot, gone, fn]
    rfl
  · rw [State.slot, fn, drive]
    rfl

theorem enterPressurise_slot (s : State) (f : FnId) : (s.enterPressurise f).slot f =
    ({ s.fns[f] with
        motion := .pressurise, grantWait := none, pressurise := some (s.profile f).pressuriseTimeout },
      { Drive.off with phase := .pullIn, pullIn := some (s.profile f).pullIn }) := by
  unfold State.enterPressurise
  dsimp only
  rw [slot_act, State.slot, State.onDrive_same, State.onDrive_fns, State.onFn_same]

theorem pumpNoticeAt_slot (s : State) (f : FnId) (other : s.cfg.own.pumpStation ≠ s.station) : (s.pumpNoticeAt f).slot f =
    takesNotice (s.holdsGrant f) (s.grantGone f) (s.profile f) (s.slot f) := by
  have kept : (if s.holdsGrant f then s else s.enterStopping f .grantLost).slot f =
      if s.holdsGrant f then s.slot f else stopsWith .grantLost (s.grantGone f) (s.slot f) := by
    rw [← enterStopping_slot s f .grantLost other]
    split <;> rfl
  have given : (if s.holdsGrant f then s.enterPressurise f else s).slot f = if s.holdsGrant f then
      ({ s.fns[f] with motion := .pressurise, grantWait := none, pressurise := some (s.profile f).pressuriseTimeout },
        { Drive.off with phase := .pullIn, pullIn := some (s.profile f).pullIn }) else s.slot f := by
    rw [← enterPressurise_slot]
    split <;> rfl
  unfold State.pumpNoticeAt takesNotice
  rw [show (s.slot f).1 = s.fns[f] from rfl]
  cases (s.fns[f]).motion with
  | awaitFlow => exact given
  | pressurise | travel | creep => exact kept
  | none | rest | seat | stopping | heldFault => rfl

/-! ## Every function in its order -/

/-- Each of some slots after an operation on all of them, where an operation on one leaves what the others show. -/
theorem foldl_slots {α : Type} {op : FnId → State → State} {view : State → FnId → α} {I : State → Prop} {s : State} {g : FnId → α}
    (keep : ∀ f t, I t → I (op f t)) (other : ∀ (f h : FnId) t, I t → f ≠ h → view (op f t) h = view t h)
    (own : ∀ f t, I t → view t f = view s f → view (op f t) f = g f) {f : FnId} :
    ∀ {fs : List FnId} {t : State}, fs.Nodup → I t → (f ∈ fs → view t f = view s f) →
      view (fs.foldl (fun u h => op h u) t) f = if f ∈ fs then g f else view t f
  | [], t, _, _, _ => rfl
  | h :: fs, t, apart, i, start => by
    obtain ⟨new, apart⟩ := List.nodup_cons.mp apart
    have next := keep h t i
    by_cases same : h = f
    · subst same
      rw [List.foldl_cons, foldl_slots keep other own apart next (fun m => absurd m new), if_neg new, if_pos List.mem_cons_self]
      exact own h t i (start List.mem_cons_self)
    · have kept := other h f t i same
      rw [List.foldl_cons, foldl_slots keep other own apart next (fun m => kept.trans (start (List.mem_cons_of_mem h m))), kept]
      simp only [List.mem_cons, Ne.symm same, false_or]

/-- The model's order of the functions names each of them once (log entry 4). -/
theorem Choice.functions_once (c : Choice) : c.functions.Nodup ∧ ∀ f : FnId, f ∈ c.functions := by
  have all : ∀ o : Fin 24, (Choice.functions ⟨o, false⟩).Nodup ∧ ∀ f : FnId, f ∈ Choice.functions ⟨o, false⟩ := by decide
  exact all c.order

theorem releaseNotice_slot {s : State} {n : StationId} (pump : s.isPumpOf n = true)
    (other : s.cfg.own.pumpStation ≠ s.station) (f : FnId) : (s.releaseNotice n).slot f =
    ((s.fns[f]).tested (s.holdsGrant f) (s.grantGone f), s.drive[f]) := by
  unfold State.releaseNotice
  rw [if_pos pump]
  refine eachFn_at (op := State.releaseAt) (view := State.slot) (I := Shifted s)
    (R := fun f a b => b = (a.1.tested (s.holdsGrant f) (s.grantGone f), a.2))
    (fun f t h => h.trans (releaseAt_moved f t).shifted) (fun f t h => ?_) (fun f h t _ ne => ?_) (.refl s) f
  · rw [releaseAt_slot, (h.grants other f).1, (h.grants other f).2]
    rfl
  · obtain ⟨fn, drive⟩ := (releaseAt_moved f t).others h ne
    rw [State.slot, fn, drive]
    rfl

theorem pumpNotice_slot {s : State} {n : StationId} (pump : s.isPumpOf n = true) (other : s.cfg.own.pumpStation ≠ s.station)
    (f : FnId) : (s.pumpNotice n).slot f = takesNotice (s.holdsGrant f) (s.grantGone f) (s.profile f) (s.slot f) := by
  obtain ⟨apart, all⟩ := s.choice.functions_once
  unfold State.pumpNotice
  rw [if_pos pump, foldl_slots (op := fun f t => t.pumpNoticeAt f) (view := State.slot) (I := Shifted s) (s := s)
    (g := fun f => takesNotice (s.holdsGrant f) (s.grantGone f) (s.profile f) (s.slot f))
    (fun f t h => h.trans (pumpNoticeAt_moved f t).shifted) (fun f h t _ ne => ?_) (fun f t h same => ?_) apart (.refl s)
    (fun _ => rfl), if_pos (all f)]
  · obtain ⟨fn, drive⟩ := (pumpNoticeAt_moved f t).others h ne
    rw [State.slot, fn, drive]
    rfl
  · have cfg : t.cfg = s.cfg := by
      unfold State.cfg
      rw [h.setup]
    have target : (t.fns[f]).target = (s.fns[f]).target := congrArg (fun a : Fn × Drive => a.1.target) same
    rw [pumpNoticeAt_slot t f (by rw [cfg, h.station]; exact other), (h.grants other f).1, (h.grants other f).2, same,
      profile_congr h.setup target]

/-! ## The notice of a list that nothing else reacts to -/

/-- The station as its functions take the notice: after the release tests and, where the guard engine comes first, after an
evaluation (log entries 4 and 20). -/
def State.readied (n : StationId) (s : State) : State :=
  if s.choice.guardFirst then (s.releaseNotice n).evaluate else s.releaseNotice n

theorem readied_noticed (n : StationId) (s : State) : Noticed s (s.readied n) := by
  unfold State.readied
  split
  · exact (releaseNotice_noticed n s).trans (evaluate_settled _).noticed
  · exact releaseNotice_noticed n s

theorem evaluate_slot (s : State) (f : FnId) : s.evaluate.slot f = s.slot f := by
  unfold State.evaluate
  split
  · exact slot_act _ s f
  · rfl

theorem readied_slot (n : StationId) (s : State) (f : FnId) : (s.readied n).slot f = (s.releaseNotice n).slot f := by
  unfold State.readied
  split
  · exact evaluate_slot _ f
  · rfl

theorem isPumpOf_iff (s : State) (n : StationId) : s.isPumpOf n = true ↔ s.role = .motion ∧ n = s.cfg.own.pumpStation := by
  simp [State.isPumpOf]

theorem Noticed.cfg {s t : State} (h : Noticed s t) : t.cfg = s.cfg := by
  unfold State.cfg
  rw [h.rest]

/-- A station that arbitrates nothing has no claims to align (R156). -/
theorem claimNotice_motion {s : State} (n : StationId) (m : s.role = .motion) : s.claimNotice n = s := by
  unfold State.claimNotice State.arbitrate
  rw [m]
  simp

/-- A change notice to which nothing reacts but the functions that read the list (R70, R71). -/
theorem changeNotice_calm {s : State} {n : StationId} (m : s.role = .motion) (before : Calm (s.releaseNotice n))
    (after : Calm ((s.readied n).pumpNotice n)) : s.changeNotice n = ((s.readied n).pumpNotice n).evaluate := by
  have choice : (s.releaseNotice n).choice = s.choice := by rw [(releaseNotice_noticed n s).rest]
  have role : ((s.readied n).pumpNotice n).role = .motion := by
    rw [State.role, ((readied_noticed n s).trans (pumpNotice_noticed n _)).cfg]
    exact m
  unfold State.changeNotice
  dsimp only
  rw [choice, settle_calm before]
  show (State.claimNotice n (State.pumpNotice n (s.readied n))).settle = _
  rw [claimNotice_motion n role, settle_calm after]

/-- Every function after such a notice. -/
theorem changeNotice_slot {s : State} {n : StationId} (pump : s.isPumpOf n = true) (other : n ≠ s.station)
    (before : Calm (s.releaseNotice n)) (after : Calm ((s.readied n).pumpNotice n)) (f : FnId) : (s.changeNotice n).slot f =
    takesNotice (s.holdsGrant f) (s.grantGone f) (s.profile f)
      ((s.fns[f]).tested (s.holdsGrant f) (s.grantGone f), s.drive[f]) := by
  obtain ⟨m, rfl⟩ := (isPumpOf_iff s n).mp pump
  have ready := readied_noticed s.cfg.own.pumpStation s
  have slot : (s.readied s.cfg.own.pumpStation).slot f = _ := (readied_slot _ s f).trans (releaseNotice_slot pump other f)
  have station : (s.readied s.cfg.own.pumpStation).station = s.station := by rw [ready.rest]
  have target : ((s.readied s.cfg.own.pumpStation).fns[f]).target = (s.fns[f]).target := by
    rw [show (s.readied s.cfg.own.pumpStation).fns[f] = _ from congrArg Prod.fst slot]
    dsimp only
    unfold Fn.tested
    split <;> rfl
  rw [changeNotice_calm m before after, evaluate_slot, pumpNotice_slot
    ((isPumpOf_iff _ _).mpr ⟨by rw [State.role, ready.cfg]; exact m, by rw [ready.cfg]⟩)
    (by rw [ready.cfg, station]; exact other), (ready.grants other f).1, (ready.grants other f).2, slot,
    profile_congr (by rw [ready.rest]) target]

/-- Where the list is gone, no release test finds anything (R111). -/
theorem releaseNotice_unlisted {s : State} (n : StationId) (gone : s.peerGrants s.cfg.own.pumpStation = none) :
    s.releaseNotice n = s := by
  have one : ∀ f : FnId, s.releaseAt f = s := by
    intro f
    unfold State.releaseAt State.holdsGrant State.grantGone
    rw [gone]
    simp
  unfold State.releaseNotice
  split
  · unfold State.eachFn
    rw [one 0, one 1, one 2, one 3]
  · rfl

end Sys2Proof.Machine
end

section
/-! A change notice of the pump station, by a STATUS with its list, by the end of its entry's age, and by its ANNOUNCE (R71, R111,
R113, R120, R122). -/

namespace Sys2Proof.Machine

/-! ## The notice of a list that is gone -/

theorem Fn.tested_unlisted (x : Fn) : x.tested false false = x := by
  unfold Fn.tested
  split <;> rfl

theorem setEntry_self {s : State} {n : StationId} {e : Entry} : (s.image.set n e)[n] = e := by simp

/-- What a function does about its list is no matter of the frames that are queued beside it. -/
theorem Alike.pumpNotice {s t : State} {n : StationId} (like : Alike s t) (pump : s.isPumpOf n = true)
    (other : s.cfg.own.pumpStation ≠ s.station) : Alike (s.pumpNotice n) (t.pumpNotice n) := by
  have slot : ∀ f : FnId, (t.pumpNotice n).slot f = (s.pumpNotice n).slot f := by
    intro f
    have role : t.isPumpOf n = s.isPumpOf n := like.same (fun u => u.isPumpOf n) (fun _ => rfl)
    have place : (t.cfg, t.station) = (s.cfg, s.station) := like.same (fun u => (u.cfg, u.station)) (fun _ => rfl)
    obtain ⟨cfg, station⟩ := Prod.mk.inj place
    rw [pumpNotice_slot pump other, pumpNotice_slot (role.trans pump) (by rw [cfg, station]; exact other)]
    exact like.same (fun u => takesNotice (u.holdsGrant f) (u.grantGone f) (u.profile f) (u.slot f)) (fun _ => rfl)
  have fns : (t.pumpNotice n).fns = (s.pumpNotice n).fns :=
    Vector.ext (fun i h => congrArg Prod.fst (slot ⟨i, h⟩))
  have drive : (t.pumpNotice n).drive = (s.pumpNotice n).drive :=
    Vector.ext (fun i h => congrArg Prod.snd (slot ⟨i, h⟩))
  unfold Alike
  rw [show (t.pumpNotice n).bare = _ from pumpNotice_shifted n t, show (s.pumpNotice n).bare = _ from pumpNotice_shifted n s,
    show t.bare = s.bare from like, fns, drive]

/-- Every function at a notice of a pump station whose entry shows no list, with any frame queued beside the notice. -/
theorem changeNotice_unlisted {s t : State} {n : StationId} (like : Alike s t) (active : s.isActive = true)
    (pump : s.isPumpOf n = true) (other : n ≠ s.station) (gone : (s.image[n]).state ≠ .fresh) (before : Calm s)
    (after : Calm ((if s.choice.guardFirst then s.evaluate else s).pumpNotice n)) (f : FnId) :
    (t.changeNotice n).slot f = takesNotice false false (s.profile f) (s.slot f) := by
  obtain ⟨motion, named⟩ := (isPumpOf_iff s n).mp pump
  have view {α : Type} (v : State → α) (reads : ∀ u : State, v u.bare = v u) : v t = v s := like.same v reads
  have none : t.peerGrants t.cfg.own.pumpStation = none :=
    (view (fun u => u.peerGrants u.cfg.own.pumpStation) (fun _ => rfl)).trans (by rw [← named]; exact peerGrants_unlisted other gone)
  have ready : t.readied n = if t.choice.guardFirst then t.evaluate else t := by
    unfold State.readied
    rw [releaseNotice_unlisted n none]
  have readied : Alike (if s.choice.guardFirst then s.evaluate else s) (t.readied n) := by
    rw [ready, view State.choice (fun _ => rfl)]
    split
    · exact like.evaluate active
    · exact like
  have start : Noticed s (if s.choice.guardFirst then s.evaluate else s) := by
    split
    · exact (evaluate_settled s).noticed
    · exact .refl s
  generalize (if s.choice.guardFirst then s.evaluate else s) = u at after readied start
  have station : u.station = s.station := by rw [start.rest]
  have listed : u.isPumpOf n = true := by
    rw [isPumpOf_iff, State.role, start.cfg]
    exact ⟨motion, named⟩
  have noticed := readied.pumpNotice listed (by rw [start.cfg, station, ← named]; exact other)
  have still : ((u.pumpNotice n).isActive) = true := by
    rw [isActive_iff, (pumpNotice_shifted n u).life, start.life]
    exact (isActive_iff s).mp active
  have at_t := changeNotice_slot (s := t) (n := n) ((view (fun u => u.isPumpOf n) (fun _ => rfl)).trans pump)
    (by rw [view State.station (fun _ => rfl)]; exact other)
    (by rw [releaseNotice_unlisted n none]; exact like.calm active before) (noticed.calm still after) f
  have holds : t.holdsGrant f = false := by
    unfold State.holdsGrant
    rw [none]
  have left : t.grantGone f = false := by
    unfold State.grantGone
    rw [none]
  rw [at_t, holds, left, Fn.tested_unlisted]
  exact view (fun u => takesNotice false false (u.profile f) (u.slot f)) (fun _ => rfl)

end Sys2Proof.Machine
end

section
/-! The arrivals and the age expiry that bring such a notice, and the obligation (R65, R67, R69). -/

namespace Sys2Proof.Machine

/-- A function that holds no grant, at a notice (R120, R122): a movement stops with GRANT_LOST, and nothing else follows. -/
theorem takesNotice_without (p : Profile) (x : Fn) (a : Drive) :
    ((x.motion = .pressurise ∨ x.motion = .travel ∨ x.motion = .creep) →
      takesNotice false false p (x, a) = stopsWith .grantLost false (x, a)) ∧
    (x.motion ≠ .pressurise → x.motion ≠ .travel → x.motion ≠ .creep → takesNotice false false p (x, a) = (x, a)) := by
  unfold takesNotice
  dsimp only
  cases x.motion <;> simp

theorem stopsWith_grantLost (gone : Bool) (x : Fn) (a : Drive) : stopsWith .grantLost gone (x, a) =
    (if a.level = 0 then { x.quiet with motion := .rest, target := none, fault := .grantLost, released := gone }
      else { x.quiet with motion := .stopping, fault := .grantLost }, if a.level = 0 then Drive.off else a) := by
  unfold stopsWith
  dsimp only
  split <;> rfl

/-! ## STATUS with the grant list (R63, R154) -/

/-- A STATUS that shows another content is a change notice, and then a check of the trip list. -/
theorem takeStatus_changed {s : State} {n : StationId} {b : Byte} {r : Record}
    (subscribed : s.cfg.subscription.contains n = true)
    (changed : (s.image[n]).state = .known ∨ (s.image[n]).state = .stale ∨
      ((s.image[n]).state = .fresh ∧ ((s.image[n]).byte ≠ some b ∨ (s.image[n]).record ≠ some r))) :
    s.takeStatus n b r = ((s.onEntry n (Entry.absorb s.timing.stale b (some r))).changeNotice n).statusNotice n := by
  unfold State.takeStatus
  rw [if_pos subscribed]
  dsimp only
  rcases changed with known | stale | ⟨fresh, new⟩
  · rw [known]
  · rw [stale]
  · rw [fresh]
    exact if_neg (fun ⟨byte, record⟩ => new.elim (· byte) (· record))

/-- Where no reset window runs and no function reacts, nothing follows the notice of a STATUS (R87, R154). -/
theorem takeStatus_calm {s : State} {n : StationId} {b : Byte} {r : Record} (m : s.role = .motion) (other : n ≠ s.station)
    (window : s.unit.resetWindow = none) (subscribed : s.cfg.subscription.contains n = true)
    (changed : (s.image[n]).state = .known ∨ (s.image[n]).state = .stale ∨
      ((s.image[n]).state = .fresh ∧ ((s.image[n]).byte ≠ some b ∨ (s.image[n]).record ≠ some r)))
    (before : Calm ((s.onEntry n (Entry.absorb s.timing.stale b (some r))).releaseNotice n))
    (after : Calm (((s.onEntry n (Entry.absorb s.timing.stale b (some r))).readied n).pumpNotice n)) :
    s.takeStatus n b r = (s.onEntry n (Entry.absorb s.timing.stale b (some r))).changeNotice n := by
  rw [takeStatus_changed subscribed changed]
  have absorbed : ((s.onEntry n (Entry.absorb s.timing.stale b (some r))).image[n]).byte = some b := by
    rw [State.onEntry_same]
    rfl
  have station : (s.onEntry n (Entry.absorb s.timing.stale b (some r))).station = s.station := rfl
  have unit : (s.onEntry n (Entry.absorb s.timing.stale b (some r))).unit = s.unit := rfl
  have role : (s.onEntry n (Entry.absorb s.timing.stale b (some r))).role = .motion := m
  generalize s.onEntry n (Entry.absorb s.timing.stale b (some r)) = u at *
  have noticed := changeNotice_noticed n u
  rw [statusNotice_kept (b := b) (by rw [noticed.rest]; exact station ▸ other) (by rw [noticed.rest]; exact absorbed) (by
    rw [State.tripsAfter, if_neg]
    rw [noticed.rest]
    show ¬(u.unit.resetWindow.isSome = true ∧ _)
    rw [unit, window]
    simp), changeNotice_calm role before after]
  exact settle_evaluated after

/-! ## The arrivals -/

/-- In JOINING and ACTIVE a well-formed STATUS that fits its sender is taken. -/
theorem statusArrival_taken {s : State} {w : Wave} {g : Frame} {b : Byte} {r : Record}
    (l : s.life = .joining ∨ s.life = .active) (heard : s.hears w = some g) (kind : g.kind = 2) (other : g.station ≠ s.station)
    (decoded : decodeStatus g.data = some (b, r)) (fits : r.fits (s.cfg.briefs[g.station]).role = true) :
    exec (.statusArrival w) s = done ((s.frameEnd w).takeStatus g.station b r) := by
  have taken : State.statusDelivered g (s.frameEnd w) = (s.frameEnd w).takeStatus g.station b r := by
    rw [State.statusDelivered, decoded]
    exact if_pos fits
  refine congrArg done ?_
  rw [arrival_delivered (kind := .status) (deliver := State.statusDelivered) l heard kind other
    (by rw [taken]; exact takeStatus_life l other), taken]

/-- In JOINING and ACTIVE a well-formed ANNOUNCE is taken. -/
theorem announceArrival_taken {s : State} {w : Wave} {g : Frame} {a : AnnounceFrame}
    (l : s.life = .joining ∨ s.life = .active) (heard : s.hears w = some g) (kind : g.kind = 3) (other : g.station ≠ s.station)
    (decoded : decodeAnnounce g.data = some a) :
    exec (.announceArrival w) s = done ((s.frameEnd w).takeAnnounce g.station a) := by
  have taken : State.announceDelivered g (s.frameEnd w) = (s.frameEnd w).takeAnnounce g.station a := by
    rw [State.announceDelivered, decoded]
  refine congrArg done ?_
  rw [arrival_delivered (kind := .announce) (deliver := State.announceDelivered) l heard kind other
    (by rw [taken, (takeAnnounce_noticed g.station a (s := s.frameEnd w) l).life, frameEnd_life]), taken]

/-- An ANNOUNCE that changes its sender's entry is a change notice, beside the answer to an ASK (R54, R65). -/
theorem takeAnnounce_changed {s : State} {n : StationId} {a : AnnounceFrame} (l : s.life = .joining ∨ s.life = .active)
    (changed : (Entry.announced (s.refuses n a) a.role).state ≠ (s.image[n]).state) :
    ∃ t : State, Alike { s with image := s.image.set n (Entry.announced (s.refuses n a) a.role) } t ∧
      s.takeAnnounce n a = t.changeNotice n := by
  refine ⟨_, ?_, if_neg changed⟩
  split
  · rw [queueAnnounce_eq (s := s.onEntry n (fun _ => Entry.announced (s.refuses n a) a.role)) false l]
    rfl
  · rfl

/-- The entry after an ANNOUNCE is the one its fields say (R65). -/
theorem Entry.announced_unique {e : Entry} {s : State} {n : StationId} {a : AnnounceFrame}
    (refused : (a.configFault = true ∨ a.fingerprint ≠ s.cfg.fingerprint ∨ a.role ≠ (s.cfg.briefs[n]).role) →
      e.state = .foreign ∧ e.fpMatch = .refused)
    (accepted : ¬(a.configFault = true ∨ a.fingerprint ≠ s.cfg.fingerprint ∨ a.role ≠ (s.cfg.briefs[n]).role) →
      e.state = .known ∧ e.fpMatch = .matched)
    (role : e.role = some a.role) (age : e.age = none) (byte : e.byte = none) (record : e.record = none) :
    e = Entry.announced (s.refuses n a) a.role := by
  rw [← refuses_iff] at refused accepted
  obtain ⟨state, er, fp, ea, eb, ek⟩ := e
  dsimp only at refused accepted role age byte record
  subst role age byte record
  cases h : s.refuses n a
  · obtain ⟨rfl, rfl⟩ := accepted (by rw [h]; exact Bool.false_ne_true)
    rfl
  · obtain ⟨rfl, rfl⟩ := refused h
    rfl

end Sys2Proof.Machine
end

section
/-! The change notice of a pump station's grants settled (R71, R111, R113, R120, R122). -/

namespace Sys2Proof.Machine

/-- Every function at the notice of a list, by its motion state. -/
theorem takesNotice_listed (granted : Bool) (p : Profile) (x : Fn) (a : Drive) :
    (takesNotice granted (!granted) p (x.tested granted (!granted), a)).1 =
      (match x.motion with
        | .rest => { x with released := !granted }
        | .heldFault => { x with released := !granted }
        | .awaitFlow => if granted then
            { x with motion := .pressurise, grantWait := none, pressurise := some p.pressuriseTimeout } else x
        | .pressurise => if granted then x else (stopsWith .grantLost true (x, a)).1
        | .travel => if granted then x else (stopsWith .grantLost true (x, a)).1
        | .creep => if granted then x else (stopsWith .grantLost true (x, a)).1
        | _ => x) ∧
    (x.motion = .awaitFlow → granted = true → (takesNotice granted (!granted) p (x.tested granted (!granted), a)).2 =
      { Drive.off with phase := .pullIn, pullIn := some p.pullIn }) := by
  unfold takesNotice Fn.tested
  cases m : x.motion <;> cases granted <;> simp [m]

/-- Settles O34: the notice by a STATUS with a list, and the two by which the list is gone. -/
theorem grantListMovesFunctions : Obligations.GrantListMovesFunctions := by
  unfold Obligations.GrantListMovesFunctions
  constructor
  · intro w g b a c cap gs s active motion heard kind pump other decoded role subscribed window n e changed base noticed ready
      before after
    have taken := takeStatus_calm (s := s.frameEnd w) motion other window subscribed changed before after
    refine ⟨_, statusArrival_taken (.inr ((isActive_iff s).mp active)) heard kind other decoded ?_, fun f => ?_⟩
    · rw [role]
      rfl
    have listed : base.peerGrants base.cfg.own.pumpStation = some gs := by
      rw [show base.cfg.own.pumpStation = n from pump.symm]
      exact peerGrants_listed other (congrArg Entry.state setEntry_self) (congrArg Entry.record setEntry_self)
    have holds : base.holdsGrant f = gs.contains (s.station, f) := by
      unfold State.holdsGrant
      rw [listed]
      rfl
    have gone : base.grantGone f = !gs.contains (s.station, f) := by
      unfold State.grantGone
      rw [listed]
      rfl
    have slot : ((s.frameEnd w).takeStatus n b (.pump a c cap gs)).slot f = _ :=
      (congrArg (State.slot · f) taken).trans
        (changeNotice_slot (s := base) ((isPumpOf_iff base n).mpr ⟨motion, pump⟩) other before after f)
    rw [holds, gone] at slot
    obtain ⟨fn, drive⟩ := takesNotice_listed (gs.contains (s.station, f)) (s.profile f) s.fns[f] s.drive[f]
    rw [stopsWith_grantLost] at fn
    exact ⟨(congrArg Prod.fst slot).trans fn, fun waits granted => (congrArg Prod.snd slot).trans (drive waits granted)⟩
  · intro c base s active motion other n aged announced lost ready before after
    have run : s.life = .joining ∨ s.life = .active := .inr ((isActive_iff s).mp active)
    have noticed : (base.fns, base.drive, base.choice) = (s.fns, s.drive, s.choice) ∧ base.isActive = true ∧ base.isPumpOf n = true ∧
        n ≠ base.station ∧ (base.image[n]).state ≠ .fresh ∧
        ∃ t : State, Alike base t ∧ exec c s = done (t.changeNotice n) := by
      have pump : s.isPumpOf n = true := (isPumpOf_iff s n).mpr ⟨motion, rfl⟩
      rcases lost with ⟨rfl, fresh, aging, rfl⟩ | ⟨w, g, a, e, rfl, heard, kind, station, decoded, ⟨refused, accepted⟩, role,
        age, byte, record, changed, rfl⟩
      · exact ⟨rfl, active, pump, other, by rw [setEntry_self]; exact nofun, _, rfl, ageExpiry_fresh (running_of run) aging fresh⟩
      · have judged : e = Entry.announced ((s.frameEnd w).refuses n a) a.role :=
          Entry.announced_unique (s := s.frameEnd w) refused accepted role age byte record
        obtain ⟨t, like, taken⟩ := takeAnnounce_changed (s := s.frameEnd w) run (judged ▸ changed)
        have gone : e.state ≠ .fresh := by
          rw [judged]
          unfold Entry.announced
          split <;> exact nofun
        refine ⟨rfl, active, pump, other, by rw [setEntry_self]; exact gone, t, judged ▸ like, ?_⟩
        rw [announceArrival_taken run heard kind (by rw [station]; exact other) decoded, station, taken]
    obtain ⟨moving, active, pump, other, gone, t, like, happens⟩ := noticed
    refine ⟨_, happens, fun f => ?_⟩
    simp only [Prod.mk.injEq] at moving
    obtain ⟨fns, drive, choice⟩ := moving
    have slot := changeNotice_unlisted like active pump other gone before (by rw [choice]; exact after) f
    rw [show base.slot f = (s.fns[f], s.drive[f]) by rw [State.slot, fns, drive]] at slot
    generalize t.changeNotice n = u at slot ⊢
    obtain ⟨stops, stays⟩ := takesNotice_without (base.profile f) s.fns[f] s.drive[f]
    refine ⟨fun moves => ?_, fun p q r => ?_⟩
    · rw [stops moves, stopsWith_grantLost] at slot
      exact ⟨congrArg Prod.fst slot, congrArg Prod.snd slot⟩
    · rw [stays p q r] at slot
      exact ⟨congrArg Prod.fst slot, congrArg Prod.snd slot⟩

end Sys2Proof.Machine
end

section
/-! What a term is worth, and what the engine makes of its terms: the test before every operator and the operators (R76 to R81),
the lamps (R89), and the permits of a list (R82, R83). -/

namespace Sys2Proof.Machine

/-! ## The test before every operator (R78) -/

theorem answerable_stale {s : State} {t : Term} (h : (s.entry t.station).state ≠ .fresh) : s.answerable t = none := if_pos h

/-- A term of a station whose entry is not FRESH is false, whatever its invert flag (R78). -/
theorem termValue_stale {s : State} {t : Term} (h : (s.entry t.station).state ≠ .fresh) : s.termValue t = false := by
  unfold State.termValue
  rw [answerable_stale h]

theorem answerable_unfit {s : State} {t : Term} {r : Role} (role : (s.entry t.station).role = some r)
    (unfit : t.selector.fits r = false) : s.answerable t = none := by
  unfold State.answerable
  dsimp only
  rw [role]
  simp [unfit]

/-- A FRESH entry that holds a fitting role gives what the selector reads of it, but for a position of 1023 (R78). -/
theorem answerable_fresh {s : State} {t : Term} {r : Role} (fresh : (s.entry t.station).state = .fresh)
    (role : (s.entry t.station).role = some r) (fit : t.selector.fits r = true) : s.answerable t =
      match t.selector, s.reads (s.entry t.station) t.selector with
      | .fnPosition _, some (.number p) => if p = Config.noPosition then none else some (.number p)
      | _, v => v := by
  unfold State.answerable
  dsimp only
  rw [if_neg (by simp [fresh]), role]
  exact if_pos fit

/-- Whatever a fitting selector reads is the answer, where it is no position of 1023. -/
theorem answerable_read {s : State} {t : Term} {r : Role} {v : TermReading} (fresh : (s.entry t.station).state = .fresh)
    (role : (s.entry t.station).role = some r) (fit : t.selector.fits r = true)
    (read : s.reads (s.entry t.station) t.selector = some v)
    (valid : ∀ f : FnId, t.selector = .fnPosition f → v ≠ .number 1023) : s.answerable t = some v := by
  rw [answerable_fresh fresh role fit, read]
  split
  next f p selector number =>
    cases number
    exact if_neg (fun e => valid f selector (by rw [e]; rfl))
  · rfl

theorem peerFn_some {s : State} {n : StationId} {f : FnId} {r : FnRecord} (h : s.peerFn n f = some r) :
    (s.entry n).state = .fresh ∧ ∃ fns : Vector FnRecord 4, (s.entry n).record = some (.motion fns) ∧ fns[f] = r := by
  unfold State.peerFn State.isFresh at h
  split at h
  next fresh =>
    split at h
    next fns record => exact ⟨by simpa using fresh, fns, record, Option.some.inj h⟩
    · cases h
  · cases h

/-- A position of 1023 answers nothing (R78). -/
theorem answerable_noPosition {s : State} {t : Term} {f : FnId} {r : FnRecord} (selector : t.selector = .fnPosition f)
    (shown : s.peerFn t.station f = some r) (none : r.position = 1023) : s.answerable t = Option.none := by
  obtain ⟨fresh, fns, record, rfl⟩ := peerFn_some shown
  cases role : (s.entry t.station).role with
  | none =>
    unfold State.answerable
    dsimp only
    rw [if_neg (by simp [fresh]), role]
  | some q =>
    by_cases fit : t.selector.fits q = true
    · have read : s.reads (s.entry t.station) t.selector = some (.number 1023) := by
        unfold State.reads
        rw [selector, record, ← none]
      rw [answerable_fresh fresh role fit, read, selector]
      rfl
    · exact answerable_unfit role (Bool.eq_false_iff.mpr fit)

/-! ## The operators (R79 to R81) -/

/-- MASKED_EQUAL compares the bits that the mask names (R80). -/
theorem masked_eq_iff (m v b : Byte) : ((b &&& m) == (v &&& m)) = true ↔
    ∀ i : Nat, m.getLsbD i = true → b.getLsbD i = v.getLsbD i := by
  rw [beq_iff_eq]
  constructor
  · intro same i named
    have bits := congrArg (fun x : Byte => x.getLsbD i) same
    simpa [named] using bits
  · intro named
    refine BitVec.eq_of_getLsbD_eq (fun i _ => ?_)
    rw [BitVec.getLsbD_and, BitVec.getLsbD_and]
    cases c : m.getLsbD i
    · simp
    · rw [named i c]

/-- The number that AT_LEAST and BELOW compare (R81). -/
def TermReading.amount : TermReading → Nat
  | .code n => n
  | .flags b => b.toNat
  | .number n => n

theorem atLeast_iff (t : Nat) (x : TermReading) : (Operator.atLeast t).apply x = true ↔ t ≤ x.amount := by
  cases x <;> exact decide_eq_true_iff

theorem below_iff (t : Nat) (x : TermReading) : (Operator.below t).apply x = true ↔ x.amount < t := by
  cases x <;> exact decide_eq_true_iff

theorem maskedEqual_zero (v : Byte) (x : TermReading) : (Operator.maskedEqual 0 v).apply x = true := by
  cases x <;> simp [Operator.apply]

theorem panelFlagsByte_eq (u c m : Bool) :
    panelFlagsByte u c m = BitVec.ofNat 8 (128 * u.toNat + 64 * c.toNat + 32 * m.toNat) := by
  cases u <;> cases c <;> cases m <;> rfl

/-- Settles O56: the test before the operators, each operator, and what the selectors fit and read. -/
theorem operatorsCompare : Obligations.OperatorsCompare := by
  unfold Obligations.OperatorsCompare
  refine ⟨fun _ _ => rfl, fun _ _ => ⟨rfl, rfl⟩, masked_eq_iff, fun _ _ _ => ⟨rfl, rfl⟩, maskedEqual_zero, ?_, ?_, ?_, ?_, ?_⟩
  · intro t x n amount
    have same : x.amount = n := by
      rcases amount with rfl | rfl | ⟨b, rfl, rfl⟩ <;> rfl
    exact ⟨same ▸ atLeast_iff t x, same ▸ below_iff t x⟩
  · exact fun x => ⟨(atLeast_iff 0 x).mpr (Nat.zero_le _), Bool.eq_false_iff.mpr (fun h => Nat.not_lt_zero _ ((below_iff 0 x).mp h))⟩
  · intro s t
    unfold State.termValue
    refine ⟨fun stale => by rw [answerable_stale stale], fun r role unfit => by rw [answerable_unfit role unfit],
      fun f r selector shown none => by rw [answerable_noPosition selector shown none],
      fun r v fresh role fit read valid => by rw [answerable_read fresh role fit read valid]⟩
  · intro r f p i
    cases r <;> simp [Selector.fits]
  · intro s e
    refine ⟨fun b byte => ?_, fun i => ⟨fun active => ?_, fun inactive => ?_⟩, fun fns f record => ?_, fun a b cap gs record => ?_,
      fun u c m n f record => ?_⟩
    · simp [State.reads, byte]
    · simpa [State.reads, State.accepted] using active
    · simpa [State.reads, State.accepted] using inactive
    · rw [Motion.idxOf_eq, EndState.idxOf_eq, FaultCode.idxOf_eq]
      simp [State.reads, record]
    · dsimp only
      rw [PumpState.idxOf_eq, PumpState.idxOf_eq]
      simp [State.reads, record]
    · simp [State.reads, record, panelFlagsByte_eq]

/-! ## Lamps (R89) -/

theorem guardNow_lamps (s : State) (n : Fin 8) : s.guardNow.lamps[n] = s.lampNow n.val := by
  fin_cases n <;> rfl

theorem guardNow_fns (s : State) (f : FnId) : s.guardNow.fns[f] = s.fnGuardNow f := by
  fin_cases f <;> rfl

theorem GuardLaws.current {s : State} (h : GuardLaws s) (a : s.isActive = true) : s.guard = s.guardNow := by
  unfold GuardLaws at h
  rw [if_pos a] at h
  exact h.1

theorem conditionHolds_iff (s : State) (ts : List Term) : conditionHolds (ts.map s.termValue) = true ↔
    ts ≠ [] ∧ ∀ t ∈ ts, s.termValue t = true := by
  simp [conditionHolds]

/-- The state of a lamp by its two conditions, which a lamp beyond the count has empty (R89). -/
theorem lampNow_state (s : State) (n : Nat) : let l := (s.cfg.own.lamps[n]?).getD { on := [], flash := [] }
    (s.lampNow n).state = if conditionHolds (l.flash.map s.termValue) then .flash
      else if conditionHolds (l.on.map s.termValue) then .on else .off := by
  unfold State.lampNow
  cases s.cfg.own.lamps[n]? <;> rfl

/-- Settles O58: the state of each lamp by its conditions; a term is read by its station, selector and operator only. -/
theorem lampsShowConditions : Obligations.LampsShowConditions := by
  unfold Obligations.LampsShowConditions
  refine ⟨fun s n a laws => ?_, fun s t hold safe => rfl, fun s t stale => termValue_stale stale⟩
  intro l holds
  have state := lampNow_state s n.val
  rw [← guardNow_lamps, ← laws.current a] at state
  have flash := conditionHolds_iff s l.flash
  have on := conditionHolds_iff s l.on
  rw [show ((s.guard.lamps[n]).state = _) from state, show holds l.flash ↔ _ from flash.symm, show holds l.on ↔ _ from on.symm]
  cases conditionHolds (l.flash.map s.termValue) <;> cases conditionHolds (l.on.map s.termValue) <;> decide

end Sys2Proof.Machine
end

section
/-! The outputs, computed from the state (R90, R104, R107, R112, R137 to R141), and the timers that belong to them. -/

namespace Sys2Proof.Machine

/-! ## The timers of the outputs (R90, R137, R138) -/

theorem PulseGen.expire_running (pwm high low level : Nat) (inHigh : Bool) :
    PulseGen.expire pwm (.running high low inHigh level) =
      if inHigh = true ∧ low ≠ 0 then .running high low false level else .start pwm level := by
  cases inHigh with
  | false => rfl
  | true => by_cases none : low = 0 <;> simp [PulseGen.expire, none]

theorem Half.other_eq (h : Option Half) : h.map Half.other = h.map (fun x => match x with
    | .lit => Half.dark
    | .dark => Half.lit) := by
  rcases h with _ | _ | _ <;> rfl

/-- Settles O24, timer by timer. -/
theorem outputTimersExpire : Obligations.OutputTimersExpire := by
  unfold Obligations.OutputTimersExpire
  refine ⟨fun s => ?_, fun f s d e pulling => ?_, fun f s d high low level inHigh e => ⟨fun prop => ?_, fun sol => ?_⟩⟩
  · show done { s with guard := { s.guard with flash := s.guard.flash.map Half.other } } = _
    rw [Half.other_eq]
    rfl
  · subst e
    exact if_pos pulling
  · subst e
    show done (s.onDrive f (fun x => { x with prop := x.prop.expire s.timing.pwm })) = _
    rw [State.onDrive, prop, PulseGen.expire_running]
    rfl
  · subst e
    show done (s.onDrive f (fun x => { x with sol := x.sol.expire s.timing.pwm })) = _
    rw [State.onDrive, sol, PulseGen.expire_running]
    rfl

/-! ## The output gate (R139) -/

theorem mem_stations (n : StationId) : n ∈ stations := by fin_cases n <;> decide

/-- The trip list holds the class of each entry (R151). -/
theorem mem_classes_iff (u : IntentTrip) (c : StopClass) : c ∈ u.classes ↔ ∃ n : StationId, u.trips[n] = some c := by
  unfold IntentTrip.classes
  rw [List.mem_filterMap]
  exact exists_congr (fun n => and_iff_right (mem_stations n))

theorem eStopHeld_eq_false_iff (s : State) : s.eStopHeld = false ↔ ∀ n : StationId, s.unit.trips[n] ≠ some .eStop := by
  have held : s.eStopHeld = true ↔ .eStop ∈ s.unit.classes := by simp [State.eStopHeld]
  rw [← Bool.not_eq_true, held, mem_classes_iff, not_exists]

theorem gateOpen_iff (s : State) : s.gateOpen = true ↔ s.life = .active ∧ s.field.stopLoopClosed = true ∧
    s.field.supplyOk = true ∧ ∀ n : StationId, s.unit.trips[n] ≠ some .eStop := by
  unfold State.gateOpen
  rw [Bool.and_eq_true, Bool.and_eq_true, Bool.and_eq_true, Bool.not_eq_true', eStopHeld_eq_false_iff, isActive_iff,
    and_assoc, and_assoc]

/-! ## Solenoids, contactors and lamps (R90, R112, R138) -/

theorem solenoidEnergised_iff (s : State) (f : FnId) (d : Dir) : s.solenoidEnergised f d = true ↔
    s.gateOpen = true ∧ (s.drive[f]).phase ≠ .off ∧ (s.fns[f]).target = some d := by
  simp [State.solenoidEnergised, and_assoc]

theorem solenoidOut_energised {s : State} {f : FnId} {d : Dir} (h : s.solenoidOut f d = true) :
    s.solenoidEnergised f d = true := by
  unfold State.solenoidOut at h
  exact (Bool.and_eq_true _ _ ▸ h).1

theorem solenoidOut_still {s : State} {f : FnId} (off : s.drive[f] = Drive.off) (d : Dir) : s.solenoidOut f d = false := by
  refine Bool.eq_false_iff.mpr (fun h => ?_)
  have running := ((solenoidEnergised_iff s f d).mp (solenoidOut_energised h)).2.1
  rw [off] at running
  exact running rfl

theorem so_slot {s : State} (r : s.role ≠ .pump) (f : FnId) :
    s.so (Fin.ofNat 8 (2 * f.val)) = s.solenoidOut f .toOpen ∧ s.so (Fin.ofNat 8 (2 * f.val + 1)) = s.solenoidOut f .toClose := by
  unfold State.so
  rw [if_neg r, if_neg r]
  fin_cases f <;> exact ⟨rfl, rfl⟩

theorem contactorOut_iff {s : State} (r : s.role = .pump) (g : s.gateOpen = true) (p : PumpId) : s.contactorOut p = true ↔
    (s.flow.pump p).state = .starting ∨ (s.flow.pump p).state = .running := by
  unfold State.contactorOut
  rw [g, r]
  cases (s.flow.pump p).state <;> decide

theorem lamp_iff (s : State) (n : Fin 8) : s.lamp n = true ↔ s.isActive = true ∧
    ((s.guard.lamps[n]).state = .on ∨ ((s.guard.lamps[n]).state = .flash ∧ s.guard.flash = some .lit)) := by
  unfold State.lamp
  rw [Bool.and_eq_true]
  refine and_congr_right (fun _ => ?_)
  cases (s.guard.lamps[n]).state <;> simp

/-- Settles O59, output by output. -/
theorem outputsFollowState : Obligations.OutputsFollowState := by
  unfold Obligations.OutputsFollowState
  refine ⟨fun s closed => outputsOff_of_gate closed, gateOpen_iff, fun s f law => ⟨fun still => ?_, fun gate d => ?_⟩,
    fun s f d energised => ⟨fun pull => ?_, fun high low level inHigh hold sol => ?_⟩, fun s f both => ?_,
    fun s f gate => ⟨fun off => ?_, fun high low level inHigh on => ?_⟩, fun s f r => so_slot r f, fun s r gate => ?_, lamp_iff⟩
  · have off := law.off still
    refine ⟨solenoidOut_still off _, solenoidOut_still off _, ?_⟩
    unfold State.proportionalOut
    rw [off]
    exact Bool.and_false _
  · rw [solenoidEnergised_iff]
    refine ⟨fun ⟨_, running, target⟩ => ⟨?_, target⟩, fun ⟨moving, target⟩ => ⟨gate, law.on moving, target⟩⟩
    by_contra still
    have off := law.off (Bool.eq_false_iff.mpr still)
    rw [off] at running
    exact running rfl
  · rw [State.solenoidOut, energised, pull]
    rfl
  · rw [State.solenoidOut, energised, hold, sol]
    rfl
  · obtain ⟨opening, closing⟩ := both
    have toOpen := ((solenoidEnergised_iff s f _).mp (solenoidOut_energised opening)).2.2
    have toClose := ((solenoidEnergised_iff s f _).mp (solenoidOut_energised closing)).2.2
    rw [toOpen] at toClose
    cases toClose
  · rw [State.proportionalOut, gate, off]
    rfl
  · rw [State.proportionalOut, gate, on]
    rfl
  · have a := contactorOut_iff r gate .a
    have b := contactorOut_iff r gate .b
    refine ⟨?_, ?_⟩
    · rw [State.so, if_pos r]
      exact a
    · rw [State.so, if_pos r]
      exact b

end Sys2Proof.Machine
end

section
/-! Permits, hold causes, modes, pair terms and blocking terms as a list, the intent and the peer give them (R82 to R85). -/

namespace Sys2Proof.Machine

/-! ## The first term that satisfies a test -/

/-- A listed term and its value satisfy a test. -/
def Hits (test : Term → Bool → Bool) (ts : List Term) (vs : List Bool) (i : Nat) : Prop :=
  ∃ (t : Term) (v : Bool), ts[i]? = some t ∧ vs[i]? = some v ∧ test t v = true

theorem firstIndex_eq_some_iff (test : Term → Bool → Bool) : ∀ (ts : List Term) (vs : List Bool) (i j : Nat),
    firstIndex test ts vs i = some j ↔ ∃ k, j = i + k ∧ Hits test ts vs k ∧ ∀ l < k, ¬Hits test ts vs l
  | [], vs, i, j => by simp [firstIndex, Hits]
  | t :: ts, [], i, j => by simp [firstIndex, Hits]
  | t :: ts, v :: vs, i, j => by
    have here : Hits test (t :: ts) (v :: vs) 0 ↔ test t v = true := by simp [Hits]
    have there : ∀ k, Hits test (t :: ts) (v :: vs) (k + 1) ↔ Hits test ts vs k := fun k => by simp [Hits]
    unfold firstIndex
    split
    next hit =>
      rw [Option.some_inj]
      constructor
      · rintro rfl
        exact ⟨0, rfl, here.mpr hit, fun l less => absurd less (Nat.not_lt_zero l)⟩
      · rintro ⟨k, rfl, -, first⟩
        rcases k with _ | k
        · rfl
        · exact absurd (here.mpr hit) (first 0 k.succ_pos)
    next miss =>
      rw [firstIndex_eq_some_iff test ts vs (i + 1) j]
      constructor
      · rintro ⟨k, rfl, hit, first⟩
        refine ⟨k + 1, by omega, (there k).mpr hit, fun l less => ?_⟩
        rcases l with _ | l
        · exact fun h => miss (here.mp h)
        · exact fun h => first l (by omega) ((there l).mp h)
      · rintro ⟨k, rfl, hit, first⟩
        rcases k with _ | k
        · exact absurd (here.mp hit) miss
        · exact ⟨k, by omega, (there k).mp hit, fun l less h => first (l + 1) (by omega) ((there l).mpr h)⟩

theorem firstIndex_zero (test : Term → Bool → Bool) (ts : List Term) (vs : List Bool) (j : Nat) :
    firstIndex test ts vs 0 = some j ↔ Hits test ts vs j ∧ ∀ l < j, ¬Hits test ts vs l := by
  rw [firstIndex_eq_some_iff]
  simp

theorem firstIndex_eq_none_iff (test : Term → Bool → Bool) (ts : List Term) (vs : List Bool) :
    firstIndex test ts vs 0 = none ↔ ∀ k, ¬Hits test ts vs k := by
  classical
  constructor
  · intro none k hit
    have least : ∃ k, Hits test ts vs k := ⟨k, hit⟩
    have found := (firstIndex_zero test ts vs (Nat.find least)).mpr ⟨Nat.find_spec least, fun l => Nat.find_min least⟩
    rw [none] at found
    cases found
  · intro miss
    refine Option.eq_none_iff_forall_ne_some.mpr (fun j found => ?_)
    exact miss j ((firstIndex_zero test ts vs j).mp found).1

/-! ## Permits of a list (R82, R83) -/

/-- An applicable term of a list, of the phase HOLD where only those count, is false. -/
def Falls (terms : List Term) (values : List Bool) (m : Mode) (hold : Bool) (i : Nat) : Prop :=
  ∃ t : Term, terms[i]? = some t ∧ values[i]? = some false ∧ (m = .normal ∨ t.safe = true) ∧ (hold = true → t.hold = true)

theorem applies_iff (t : Term) (m : Mode) : t.applies m = true ↔ m = .normal ∨ t.safe = true := by
  simp [Term.applies]

theorem hits_start_iff (ts : List Term) (vs : List Bool) (m : Mode) (i : Nat) :
    Hits (fun t v => t.applies m && !v) ts vs i ↔ Falls ts vs m false i := by
  simp only [Hits, Falls, Bool.and_eq_true, Bool.not_eq_true', applies_iff]
  constructor
  · rintro ⟨t, v, term, value, applies, rfl⟩
    exact ⟨t, term, value, applies, nofun⟩
  · rintro ⟨t, term, value, applies, -⟩
    exact ⟨t, false, term, value, applies, rfl⟩

theorem hits_hold_iff (ts : List Term) (vs : List Bool) (m : Mode) (i : Nat) :
    Hits (fun t v => t.applies m && t.hold && !v) ts vs i ↔ Falls ts vs m true i := by
  simp only [Hits, Falls, Bool.and_eq_true, Bool.not_eq_true', applies_iff, true_implies]
  constructor
  · rintro ⟨t, v, term, value, ⟨applies, hold⟩, rfl⟩
    exact ⟨t, term, value, applies, hold⟩
  · rintro ⟨t, term, value, applies, hold⟩
    exact ⟨t, false, term, value, ⟨applies, hold⟩, rfl⟩

section
variable (ts : List Term) (vs : List Bool) (m : Mode) (pair : Bool)

theorem permitsOf_start_iff : (permitsOf ts vs m pair).start = true ↔ pair = true ∧ ∀ i, ¬Falls ts vs m false i := by
  show ((firstIndex _ ts vs 0).isNone && pair) = true ↔ _
  rw [Bool.and_eq_true, Option.isNone_iff_eq_none, firstIndex_eq_none_iff, and_comm]
  simp only [hits_start_iff]

theorem permitsOf_proceed_iff : (permitsOf ts vs m pair).proceed = true ↔ pair = true ∧ ∀ i, ¬Falls ts vs m true i := by
  show ((firstIndex _ ts vs 0).isNone && pair) = true ↔ _
  rw [Bool.and_eq_true, Option.isNone_iff_eq_none, firstIndex_eq_none_iff, and_comm]
  simp only [hits_hold_iff]

theorem permitsOf_holdCause_pair_iff : (permitsOf ts vs m pair).holdCause = .pair ↔ pair = false := by
  unfold permitsOf
  cases pair with
  | false => exact iff_of_true rfl rfl
  | true => cases firstIndex (fun t v => t.applies m && t.hold && !v) ts vs 0 <;> simp

theorem permitsOf_holdCause_none_iff : (permitsOf ts vs m pair).holdCause = .none ↔
    (permitsOf ts vs m pair).proceed = true := by
  unfold permitsOf
  cases pair with
  | false => simp
  | true => cases firstIndex (fun t v => t.applies m && t.hold && !v) ts vs 0 <;> simp

theorem permitsOf_holdCause_term_iff (k : Nat) : (permitsOf ts vs m pair).holdCause = .term k ↔
    pair = true ∧ Falls ts vs m true k ∧ ∀ i, i < k → ¬Falls ts vs m true i := by
  have first := firstIndex_zero (fun t v => t.applies m && t.hold && !v) ts vs k
  simp only [hits_hold_iff] at first
  rw [← first]
  unfold permitsOf
  cases pair with
  | false => simp
  | true => cases firstIndex (fun t v => t.applies m && t.hold && !v) ts vs 0 <;> simp

/-- What a movement may start with it may go on with. -/
theorem permitsOf_start_proceed (h : (permitsOf ts vs m pair).start = true) : (permitsOf ts vs m pair).proceed = true := by
  obtain ⟨paired, none⟩ := (permitsOf_start_iff ts vs m pair).mp h
  refine (permitsOf_proceed_iff ts vs m pair).mpr ⟨paired, fun i ⟨t, term, value, applies, _⟩ => ?_⟩
  exact none i ⟨t, term, value, applies, nofun⟩

end

/-! ## The results of a configured function in ACTIVE (R82 to R85) -/

/-- What the engine finds for a configured function. -/
theorem fnGuardNow_configured {s : State} {f : FnId} {x : FnSetup} (c : s.fnSetup f = some x) : s.fnGuardNow f =
    { mode := s.modeNow f, pairTerm := s.pairValue f
      opening := permitsOf x.openTerms (x.openTerms.map s.termValue) (s.modeNow f) (s.pairValue f)
      closing := permitsOf x.closeTerms (x.closeTerms.map s.termValue) (s.modeNow f) (s.pairValue f)
      blocking := s.blockingNow f x (s.modeNow f) (x.openTerms.map s.termValue) (x.closeTerms.map s.termValue) } := by
  unfold State.fnGuardNow
  rw [c]

theorem fnGuardNow_permits {s : State} {f : FnId} {x : FnSetup} (c : s.fnSetup f = some x) (d : Dir) :
    (s.fnGuardNow f).permits d =
      permitsOf (x.terms d) ((x.terms d).map s.termValue) (s.fnGuardNow f).mode (s.fnGuardNow f).pairTerm := by
  rw [fnGuardNow_configured c]
  cases d <;> rfl

/-- An unpaired function carries no pair term; its value is true (R84). -/
theorem pairValue_unpaired {s : State} {f : FnId} {x : FnSetup} (c : s.fnSetup f = some x) (alone : x.pair = none) :
    s.pairValue f = true := by
  unfold State.pairValue
  rw [c, Option.bind_some, alone]

/-- The pair term of a paired function (R84). -/
theorem pairValue_paired {s : State} {f : FnId} {x : FnSetup} {n : StationId} {h : FnId} (c : s.fnSetup f = some x)
    (paired : x.pair = some (n, h)) : s.pairValue f = true ↔ (s.entry n).state = .fresh ∧
      ∃ fns : Vector FnRecord 4, (s.entry n).record = some (.motion fns) ∧ (fns[h]).position ≠ 1023 := by
  have pair : (s.fnSetup f).bind FnSetup.pair = some (n, h) := by rw [c, Option.bind_some, paired]
  have shown : s.pairValue f = true ↔ ∃ p, (s.entry n).position h = some p ∧ p ≠ 1023 := by
    unfold State.pairValue
    rw [pair]
    dsimp only
    rw [peerPosition_eq, pair, Option.bind_some, Option.isSome_iff_exists]
    simp only [Option.filter_eq_some_iff]
    exact exists_congr (fun p => and_congr_right (fun _ => decide_eq_true_iff))
  rw [shown]
  unfold Entry.position
  constructor
  · rintro ⟨p, position, valid⟩
    split at position
    next fresh =>
      split at position
      next fns record =>
        cases position
        exact ⟨fresh, fns, record, valid⟩
      · cases position
    · cases position
  · rintro ⟨fresh, fns, record, valid⟩
    rw [if_pos fresh, record]
    exact ⟨_, rfl, valid⟩

theorem singled_iff (s : State) (f : FnId) : s.singled f = true ↔
    ∃ d : Dir, s.unit.effective = some (.single s.station f d) := by
  unfold State.singled
  split
  next n g d e =>
    rw [e]
    simp
  next other =>
    refine iff_of_false nofun (fun ⟨d, e⟩ => other _ _ _ e)

/-- The mode that a function at rest takes from the effective intent (R82). -/
def State.intended (s : State) (f : FnId) : Mode := if s.singled f then .single else .normal

theorem intended_iff (s : State) (f : FnId) : s.intended f = .single ↔
    ∃ d : Dir, s.unit.effective = some (.single s.station f d) := by
  rw [← singled_iff]
  unfold State.intended
  cases s.singled f <;> simp

theorem modeNow_atRest {s : State} {f : FnId} (r : (s.fns[f]).motion.atRest = true) : s.modeNow f = s.intended f := if_pos r

theorem modeNow_away {s : State} {f : FnId} (r : (s.fns[f]).motion.atRest = false) : s.modeNow f = (s.guard.fns[f]).mode :=
  if_neg (by rw [r]; exact Bool.false_ne_true)

theorem Motion.atRest_iff (m : Motion) : m.atRest = true ↔ m = .none ∨ m = .rest ∨ m = .heldFault := by
  cases m <;> decide

/-! ## Demands and the blocking term (R85, R109) -/

/-- The intent that asks every function to move in a direction (R109). -/
def intentToward : Dir → IntentKind
  | .toOpen => .toOpen
  | .toClose => .toClose

theorem demands_iff {s : State} {f : FnId} {x : FnSetup} (c : s.fnSetup f = some x) (d : Dir) : s.demands f d = true ↔
    s.made f d = false ∧ (s.unit.effective = some (.single s.station f d) ∨ s.unit.effective = some (intentToward d)) := by
  unfold State.demands
  rw [c, Bool.and_eq_true, Bool.and_eq_true, Bool.not_eq_true']
  simp only [Option.isSome_some, true_and]
  refine and_congr_right (fun _ => ?_)
  cases s.unit.effective with
  | none => cases d <;> simp
  | some k => cases k <;> cases d <;> simp [intentToward, and_assoc]

/-- A function has a demand in one direction at most (R109). -/
theorem demands_one {s : State} {f : FnId} {d e : Dir} (h : s.demands f d = true) (k : s.demands f e = true) : d = e := by
  cases c : s.fnSetup f with
  | none =>
    unfold State.demands at h
    rw [c] at h
    cases h
  | some x =>
    obtain ⟨-, a⟩ := (demands_iff c d).mp h
    obtain ⟨-, b⟩ := (demands_iff c e).mp k
    rcases a with a | a <;> rw [a] at b <;> cases d <;> cases e <;> simp [intentToward] at b ⊢

theorem demand_eq_some_iff (s : State) (f : FnId) (d : Dir) : s.demand f = some d ↔ s.demands f d = true := by
  unfold State.demand
  split
  next a => exact ⟨fun e => by cases e; exact a, fun b => congrArg some (demands_one a b)⟩
  next a =>
    split
    next b => exact ⟨fun e => by cases e; exact b, fun c => congrArg some (demands_one b c)⟩
    next b =>
      refine iff_of_false nofun (fun c => ?_)
      cases d
      · exact a c
      · exact b c

theorem blockingNow_moving {s : State} {f : FnId} (x : FnSetup) (m : Mode) (r : (s.fns[f]).motion ≠ .rest) (ov cv : List Bool) :
    s.blockingNow f x m ov cv = 15 := if_pos r

theorem blockingNow_undemanded {s : State} {f : FnId} (x : FnSetup) (m : Mode) (none : ∀ d : Dir, s.demands f d = false)
    (ov cv : List Bool) : s.blockingNow f x m ov cv = 15 := by
  have undemanded : s.demand f = Option.none := by
    unfold State.demand
    rw [none, none]
    rfl
  unfold State.blockingNow
  rw [undemanded]
  split <;> rfl

/-- In REST a demand shows the first applicable term of its direction that is false (R85). -/
theorem blockingNow_demanded {s : State} {f : FnId} {d : Dir} (x : FnSetup) (m : Mode) (r : (s.fns[f]).motion = .rest)
    (h : s.demands f d = true) : s.blockingNow f x m (x.openTerms.map s.termValue) (x.closeTerms.map s.termValue) =
      (firstIndex (fun t v => t.applies m && !v) (x.terms d) ((x.terms d).map s.termValue) 0).getD 15 := by
  unfold State.blockingNow
  rw [if_neg (fun moves => moves r), (demand_eq_some_iff s f d).mpr h]
  cases d <;> rfl

/-- The terms of a list that fall, by what each is worth now. -/
theorem falls_now_iff (s : State) (ts : List Term) (m : Mode) (i : Nat) : Falls ts (ts.map s.termValue) m false i ↔
    ∃ t : Term, ts[i]? = some t ∧ s.termValue t = false ∧ (m = .normal ∨ t.safe = true) := by
  unfold Falls
  refine exists_congr (fun t => and_congr_right (fun term => ?_))
  rw [List.getElem?_map, term]
  simp

/-- The blocking term of a demand that some applicable term refuses. -/
theorem blockingNow_falls {s : State} {f : FnId} {d : Dir} {i : Nat} (x : FnSetup) (m : Mode) (r : (s.fns[f]).motion = .rest)
    (h : s.demands f d = true) (falls : Falls (x.terms d) ((x.terms d).map s.termValue) m false i)
    (first : ∀ k < i, ¬Falls (x.terms d) ((x.terms d).map s.termValue) m false k) :
    s.blockingNow f x m (x.openTerms.map s.termValue) (x.closeTerms.map s.termValue) = i := by
  have found := (firstIndex_zero (fun t v => t.applies m && !v) (x.terms d) ((x.terms d).map s.termValue) i).mpr
    ⟨(hits_start_iff ..).mpr falls, fun k less hit => first k less ((hits_start_iff ..).mp hit)⟩
  rw [blockingNow_demanded x m r h, found]
  rfl

/-- Without a term that refuses it, a demand shows none. -/
theorem blockingNow_none {s : State} {f : FnId} (x : FnSetup) (m : Mode)
    (clear : ∀ (d : Dir) (i : Nat), s.demands f d = true → ¬Falls (x.terms d) ((x.terms d).map s.termValue) m false i) :
    s.blockingNow f x m (x.openTerms.map s.termValue) (x.closeTerms.map s.termValue) = 15 := by
  by_cases r : (s.fns[f]).motion = .rest
  · by_cases demanded : ∃ d : Dir, s.demands f d = true
    · obtain ⟨d, h⟩ := demanded
      have none := (firstIndex_eq_none_iff (fun t v => t.applies m && !v) (x.terms d) ((x.terms d).map s.termValue)).mpr
        (fun k hit => clear d k h ((hits_start_iff ..).mp hit))
      rw [blockingNow_demanded x m r h, none]
      rfl
    · exact blockingNow_undemanded x m (fun d => Bool.eq_false_iff.mpr (fun h => demanded ⟨d, h⟩)) _ _
  · exact blockingNow_moving x m r _ _

end Sys2Proof.Machine
end

section
/-! The guard evaluation of an event at which one function has something to do (R87, R110, R114, R120 to R122). -/

namespace Sys2Proof.Machine

/-! ## The grant list and the moves of a function (R71) -/

/-- The grant list that a station reads is a matter of the image and, at the own number of a PUMP station, of the arbiter: no
function and no guard result changes it. -/
theorem peerGrants_congr {s t : State} (same : (t.image, t.setup, t.station, t.life) = (s.image, s.setup, s.station, s.life))
    (grants : s.role = .motion ∨ t.flow.grants = s.flow.grants) (n : StationId) : t.peerGrants n = s.peerGrants n := by
  simp only [Prod.mk.injEq] at same
  obtain ⟨image, setup, station, life⟩ := same
  have role : t.role = s.role := by rw [State.role, State.role, State.cfg, State.cfg, setup]
  unfold State.peerGrants State.isFresh State.entry
  rw [station]
  split
  · rw [ownEntry_eq, ownEntry_eq, life, role]
    unfold State.ownRecord
    rw [role]
    rcases grants with motion | grants
    · rw [motion]
      cases s.life <;> rfl
    · cases s.life <;> cases s.role <;> simp [Entry.own, Entry.atReset, State.panelRecord, grants]
  · rw [image]

theorem grants_same {s t : State} (same : (t.image, t.setup, t.station, t.life) = (s.image, s.setup, s.station, s.life))
    (grants : s.role = .motion ∨ t.flow.grants = s.flow.grants) (f : FnId) :
    t.grantGone f = s.grantGone f ∧ t.holdsGrant f = s.holdsGrant f := by
  have listed := peerGrants_congr same grants t.cfg.own.pumpStation
  simp only [Prod.mk.injEq] at same
  obtain ⟨-, setup, station, -⟩ := same
  have cfg : t.cfg = s.cfg := by rw [State.cfg, State.cfg, setup]
  unfold State.grantGone State.holdsGrant
  rw [listed, cfg, station]
  exact ⟨rfl, rfl⟩

theorem Moved.grantGone {f : FnId} {s t : State} (h : Moved f s t) (g : FnId) : t.grantGone g = s.grantGone g :=
  (grants_same (by rw [h.rest]) (.inr (by rw [h.rest])) g).1

/-! ## One function acts (R87) -/

/-- A function that has acted is the one at its slot, on a station that is otherwise as it was. -/
theorem Moved.alike {f : FnId} {s t : State} (h : Moved f s t) :
    Alike { s with fns := s.fns.set f t.fns[f], drive := s.drive.set f t.drive[f] } t := by
  have fns : t.fns = s.fns.set f t.fns[f] := by
    refine Vector.ext (fun i less => ?_)
    by_cases same : f.val = i
    · subst same
      simp
    · rw [Vector.getElem_set_ne _ _ same]
      exact (h.others ⟨i, less⟩ (fun e => same (congrArg Fin.val e))).1
  have drive : t.drive = s.drive.set f t.drive[f] := by
    refine Vector.ext (fun i less => ?_)
    by_cases same : f.val = i
    · subst same
      simp
    · rw [Vector.getElem_set_ne _ _ same]
      exact (h.others ⟨i, less⟩ (fun e => same (congrArg Fin.val e))).2
  have shifted : t.bare = { s.bare with fns := t.fns, drive := t.drive } := h.shifted
  unfold Alike
  rw [shifted, ← fns, ← drive]
  rfl

/-- A round in which one function acts, and none after it. -/
theorem sweep_one {s u : State} {f : FnId} (others : ∀ h, h ≠ f → s.react h = none) (acts : s.react f = some u)
    (after : ∀ h, u.evaluate.react h = none) : ∀ fs : List FnId, f ∈ fs → State.sweep fs s = (u.evaluate, true)
  | [], m => absurd m List.not_mem_nil
  | g :: fs, m => by
    unfold State.sweep
    by_cases same : g = f
    · subst same
      rw [acts]
      dsimp only
      rw [sweep_none after]
    · rw [others g same]
      exact sweep_one others acts after fs ((List.mem_cons.mp m).resolve_left (Ne.symm same))

/-- An event at which one function acts, once, and nothing follows (R87). -/
theorem settle_one {s u : State} {f : FnId} (active : s.isActive = true) (others : ∀ h, h ≠ f → s.evaluate.react h = none)
    (acts : s.evaluate.react f = some u) (calm : Calm u) : s.settle = u.evaluate := by
  unfold State.settle
  rw [if_pos active]
  show State.settleRounds (14 + 1 + 1) s.evaluate = u.evaluate
  unfold State.settleRounds
  rw [sweep_one others acts calm _ ((Choice.functions_once _).2 f)]
  unfold State.settleRounds
  dsimp only
  rw [sweep_none calm]

/-- A function that acts at the evaluation of an event becomes what it is after its act, where nothing follows. -/
theorem settle_becomes {s u : State} {f : FnId} {y : Fn} {d : Drive} (active : s.isActive = true)
    (acts : s.evaluate.react f = some u) (fn : u.fns[f] = y) (drive : u.drive[f] = d)
    (others : ∀ h, h ≠ f → s.evaluate.react h = none)
    (calm : Calm { s.evaluate with fns := s.fns.set f y, drive := s.drive.set f d }) :
    s.settle.fns = s.fns.set f y ∧ s.settle.drive = s.drive.set f d := by
  have moved := (react_moved acts).1
  have like : Alike { s.evaluate with fns := s.fns.set f y, drive := s.drive.set f d } u := by
    have a := moved.alike
    rw [fn, drive] at a
    rw [evaluate_eq active] at a ⊢
    exact a
  have still : Calm u := like.calm (by rw [← active]; exact (evaluate_settled s).isActive) calm
  have slots : ∀ v : State, v.evaluate.fns = v.fns ∧ v.evaluate.drive = v.drive := fun v => by
    unfold State.evaluate
    split
    · exact ⟨act_fns _ _, act_drive _ _⟩
    · exact ⟨rfl, rfl⟩
  rw [settle_one active others acts still, (slots u).1, (slots u).2]
  exact ⟨(congrArg State.fns like :), (congrArg State.drive like :)⟩

end Sys2Proof.Machine
end

section
/-! What each function does about its permits and its demand (R110, R114, R120 to R122), and the obligation on it. -/

namespace Sys2Proof.Machine

/-! ## What a function is after its act -/

/-- A function whose movement has ended in REST with a fault code and its claim withdrawn (R108, R111, R112). -/
def Fn.rested (code : FaultCode) (gone : Bool) (x : Fn) : Fn :=
  { x.quiet with motion := .rest, target := none, fault := code, released := gone }

theorem toIdle_withdraws {s : State} {f : FnId} (c : (s.fns[f]).motion.claims = true) :
    (s.act (State.toIdle .rest f)).slot f = ((s.fns[f]).rested (s.fns[f]).fault (s.grantGone f), Drive.off) := by
  rw [slot_act, toIdle_slot, if_pos c]
  rfl

/-- STOPPING with a code that is no latched one ends in REST at once at a level of 0 (R122). -/
theorem enterStopping_becomes (s : State) (f : FnId) {code : FaultCode} (l : code.latched = false) :
    (s.enterStopping f code).slot f = if (s.drive[f]).level = 0 then ((s.fns[f]).rested code (s.grantGone f), Drive.off)
      else ({ (s.fns[f]).quiet with motion := .stopping, fault := code }, s.drive[f]) := by
  have moved : Moved f s (s.act (State.onFn f (fun x => { x.quiet with motion := .stopping, fault := code }))) :=
    (onFn_moved f _ s).act
  have slot : (s.act (State.onFn f (fun x => { x.quiet with motion := .stopping, fault := code }))).slot f =
      ({ (s.fns[f]).quiet with motion := .stopping, fault := code }, s.drive[f]) := by
    rw [slot_act, State.slot, State.onFn_same, State.onFn_drive]
  unfold State.enterStopping
  dsimp only
  generalize s.act (State.onFn f _) = u at moved slot ⊢
  have fn : u.fns[f] = { (s.fns[f]).quiet with motion := .stopping, fault := code } := congrArg Prod.fst slot
  have drive : u.drive[f] = s.drive[f] := congrArg Prod.snd slot
  rw [drive]
  split
  · unfold State.endStopping
    rw [fn, show (if code.latched = true then Motion.heldFault else .rest) = .rest by rw [l]; rfl,
      toIdle_withdraws (by rw [fn]; rfl), moved.grantGone, fn]
    rfl
  · exact slot

/-- SEAT ends in REST at once at a seat time of 0 (R121). -/
theorem enterSeat_becomes (s : State) (f : FnId) (l : (s.fns[f]).fault.latched = false) :
    (s.enterSeat f).slot f = if (s.profile f).seatTime = 0 then
        ((s.fns[f]).rested (s.fns[f]).fault (s.grantGone f), Drive.off)
      else ({ (s.fns[f]).quiet with motion := .seat, seat := some (s.profile f).seatTime }, s.drive[f]) := by
  have moved : Moved f s (s.act (State.onFn f (fun x => { x.quiet with
      motion := .seat, seat := some (s.profile f).seatTime }))) := (onFn_moved f _ s).act
  have slot : (s.act (State.onFn f (fun x => { x.quiet with motion := .seat, seat := some (s.profile f).seatTime }))).slot f =
      ({ (s.fns[f]).quiet with motion := .seat, seat := some (s.profile f).seatTime }, s.drive[f]) := by
    rw [slot_act, State.slot, State.onFn_same, State.onFn_drive]
  unfold State.enterSeat
  dsimp only
  generalize s.act (State.onFn f _) = u at moved slot ⊢
  have fn : u.fns[f] = { (s.fns[f]).quiet with motion := .seat, seat := some (s.profile f).seatTime } :=
    congrArg Prod.fst slot
  split
  · unfold State.endSeat
    rw [if_neg (by rw [fn]; exact Bool.eq_false_iff.mp l), toIdle_withdraws (by rw [fn]; rfl), moved.grantGone, fn]
    rfl
  · exact slot

theorem leaveRest_becomes {s : State} {f : FnId} {c : FnSetup} (d : Dir) (conf : s.fnSetup f = some c)
    (l : (s.fns[f]).fault.latched = false) : (s.leaveRest f d).slot f =
      ({ s.fns[f] with motion := .awaitFlow, target := some d, fault := .none, lostEnd := none,
                       grantWait := some ((c.profile d).grantWait * 1000) }, s.drive[f]) := by
  unfold State.leaveRest
  rw [conf, slot_act, State.slot, State.onFn_same, State.onFn_drive]
  dsimp only
  rw [l]
  rfl

/-! ## What a function does (R110, R114, R120) -/

theorem tripFree_iff (s : State) : s.tripFree = true ↔ ∀ n : StationId, s.unit.trips[n] = none := by
  unfold State.tripFree
  rw [List.isEmpty_iff, List.eq_nil_iff_forall_not_mem]
  refine ⟨fun none n => Option.eq_none_iff_forall_ne_some.mpr (fun c held => none c ((mem_classes_iff _ c).mpr ⟨n, held⟩)),
    fun none c held => ?_⟩
  obtain ⟨n, entry⟩ := (mem_classes_iff _ c).mp held
  rw [none n] at entry
  cases entry

/-- All of R110. -/
theorem mayLeave_iff (s : State) (f : FnId) (d : Dir) : s.mayLeave f d = true ↔
    (s.fns[f]).motion = .rest ∧ s.isActive = true ∧ s.demands f d = true ∧ ((s.guard.fns[f]).permits d).start = true ∧
    s.loop.lone = false ∧ s.unit.restartHold = false ∧ (∀ n : StationId, s.unit.trips[n] = none) ∧
    s.field.stopLoopClosed = true ∧ s.field.supplyOk = true ∧ (s.fns[f]).fault.latched = false ∧
    (s.fns[f]).released = true := by
  unfold State.mayLeave
  rw [← tripFree_iff]
  simp only [Bool.and_eq_true, Bool.not_eq_true', beq_iff_eq]
  tauto

section
variable {s : State} {f : FnId} {d : Dir}

theorem react_leaves (m : s.mayLeave f d = true) : s.react f = some (s.leaveRest f d) := by
  obtain ⟨rest, -, demanded, -⟩ := (mayLeave_iff s f d).mp m
  unfold State.react
  rw [rest]
  dsimp only
  by_cases opening : s.mayLeave f .toOpen = true
  · obtain ⟨-, -, first, -⟩ := (mayLeave_iff s f .toOpen).mp opening
    rw [if_pos opening, demands_one demanded first]
  · rw [if_neg opening]
    cases d with
    | toOpen => exact absurd m opening
    | toClose => exact if_pos m

theorem react_waits (m : (s.fns[f]).motion = .awaitFlow) (t : (s.fns[f]).target = some d)
    (lost : s.demands f d = false ∨ ((s.guard.fns[f]).permits d).start = false) :
    s.react f = some (s.act (State.toIdle .rest f)) := by
  unfold State.react
  rw [m, t]
  refine if_neg (fun both => ?_)
  rw [Bool.and_eq_true] at both
  rcases lost with e | e
  · exact Bool.eq_false_iff.mp e both.1
  · exact Bool.eq_false_iff.mp e both.2

theorem react_stopFor (m : (s.fns[f]).motion = .pressurise ∨ (s.fns[f]).motion = .travel ∨ (s.fns[f]).motion = .creep)
    (t : (s.fns[f]).target = some d) : s.react f = s.stopFor f d := by
  unfold State.react
  rcases m with m | m | m <;> rw [m, t]

theorem Permits.lossCode_eq (p : Permits) : p.lossCode = if p.holdCause = .pair then .peerLost else .holdLost := by
  unfold Permits.lossCode
  cases p.holdCause <;> rfl

theorem permitStop_lost (p : ((s.guard.fns[f]).permits d).proceed = false) :
    s.permitStop f d = some (s.enterStopping f ((s.guard.fns[f]).permits d).lossCode) := if_neg (Bool.eq_false_iff.mp p)

theorem permitStop_kept (p : ((s.guard.fns[f]).permits d).proceed = true) : s.permitStop f d = none := if_pos p

theorem demandStop_kept (m : s.demands f d = true) : s.demandStop f d = none := if_pos m

theorem demandStop_lost (m : s.demands f d = false) : s.demandStop f d =
    some (if s.made f d = true ∧ (s.fns[f]).motion ≠ .pressurise then s.enterSeat f
      else s.enterStopping f (s.fns[f]).fault) := by
  unfold State.demandStop
  rw [if_neg (Bool.eq_false_iff.mp m), apply_ite some]
  refine if_congr ?_ rfl rfl
  rw [Bool.and_eq_true, bne_iff_ne]

/-- A permit to continue lost while the demand stays (R120). -/
theorem stopFor_unpermitted (p : ((s.guard.fns[f]).permits d).proceed = false) (m : s.demands f d = true) :
    s.stopFor f d = some (s.enterStopping f ((s.guard.fns[f]).permits d).lossCode) := by
  unfold State.stopFor
  rw [permitStop_lost p, demandStop_kept m]
  cases s.choice.guardFirst <;> rfl

/-- A demand lost while the permit to continue stays (R120, R121). -/
theorem stopFor_undemanded (p : ((s.guard.fns[f]).permits d).proceed = true) (m : s.demands f d = false) :
    s.stopFor f d = some (if s.made f d = true ∧ (s.fns[f]).motion ≠ .pressurise then s.enterSeat f
      else s.enterStopping f (s.fns[f]).fault) := by
  unfold State.stopFor
  rw [permitStop_kept p, demandStop_lost m]
  cases s.choice.guardFirst <;> rfl

end

/-! ## The obligation -/

/-- Settles O33: what the one function does after the evaluation, and that nothing follows. -/
theorem evaluationMovesFunctions : Obligations.EvaluationMovesFunctions := by
  unfold Obligations.EvaluationMovesFunctions
  intro s f active x results becomes idle stops seatTime leaves
  have views := evaluate_alike active
  have fns : s.evaluate.fns = s.fns := views.same State.fns (fun _ => rfl)
  have drive : s.evaluate.drive = s.drive := views.same State.drive (fun _ => rfl)
  have fn : s.evaluate.fns[f] = x := congrArg (fun v : Vector Fn 4 => v[f]) fns
  have demands : ∀ d, s.evaluate.demands f d = s.demands f d := fun d => views.same (State.demands · f d) (fun _ => rfl)
  have made : ∀ d, s.evaluate.made f d = s.made f d := fun d => views.same (State.made · f d) (fun _ => rfl)
  have permits : ∀ d, (s.evaluate.guard.fns[f]).permits d = results.permits d := fun d =>
    views.same (fun u => (u.guard.fns[f]).permits d) (fun _ => rfl)
  have profile : s.evaluate.profile f = s.profile f := views.same (State.profile · f) (fun _ => rfl)
  have gone : s.evaluate.grantGone f = s.grantGone f :=
    (grants_same (by rw [evaluate_eq active]) (.inr (by rw [evaluate_eq active])) f).1
  have act : ∀ {u : State} {y : Fn} {d : Drive}, s.evaluate.react f = some u → u.slot f = (y, d) → becomes y d :=
    fun acts slot others calm => settle_becomes active acts (congrArg Prod.fst slot) (congrArg Prod.snd slot) others calm
  have stopped : ∀ c : FaultCode, c.latched = false → s.evaluate.react f = some (s.evaluate.enterStopping f c) → stops c := by
    intro c l acts
    have slot := enterStopping_becomes s.evaluate f l
    rw [fn, drive, gone] at slot
    show if (s.drive[f]).level = 0 then _ else _
    split
    next zero => exact act acts (slot.trans (if_pos zero))
    next some => exact act acts (slot.trans (if_neg some))
  have may : ∀ d, s.evaluate.mayLeave f d = true ↔ x.motion = .rest ∧ leaves d := by
    intro d
    have lone : s.evaluate.loop.lone = s.loop.lone := views.same (fun u => u.loop.lone) (fun _ => rfl)
    have unit : s.evaluate.unit = s.unit := views.same State.unit (fun _ => rfl)
    have field : s.evaluate.field = s.field := views.same State.field (fun _ => rfl)
    rw [mayLeave_iff, fn, demands, permits, lone, unit, field]
    exact and_congr_right (fun _ => and_iff_right (views.isActive.trans active))
  refine ⟨fun calm => ?_, fun d c rest conf free => ?_, fun rest kept => ?_, fun d target => ⟨fun waits lost => ?_,
    fun moves l => ⟨fun p m => ?_, fun p m made' travels => ?_, fun p m unmade => ?_, fun p m => ?_⟩⟩⟩
  · rw [settle_calm calm]
    exact ⟨fns, drive⟩
  · have ⟨_, _, _, _, _, _, _, l, _⟩ := free
    have slot := leaveRest_becomes (s := s.evaluate) d ((views.same (State.fnSetup · f) (fun _ => rfl)).trans conf)
      (by rw [fn]; exact l)
    rw [fn, drive] at slot
    exact act (react_leaves ((may d).mpr ⟨rest, free⟩)) slot
  · rw [react_none_iff, State.goesOn, fn, show x.motion = .rest from rest]
    exact ⟨Bool.eq_false_iff.mpr (fun h => kept _ ((may _).mp h).2), Bool.eq_false_iff.mpr (fun h => kept _ ((may _).mp h).2)⟩
  · have slot := toIdle_withdraws (s := s.evaluate) (f := f) (by rw [fn, waits]; rfl)
    rw [fn, gone] at slot
    refine act (react_waits (by rw [fn]; exact waits) (by rw [fn]; exact target) ?_) slot
    rw [demands, permits]
    exact lost
  · have acts := (react_stopFor (s := s.evaluate) (by rw [fn]; exact moves) (by rw [fn]; exact target)).trans
      (stopFor_unpermitted (by rw [permits]; exact p) (by rw [demands]; exact m))
    rw [permits, Permits.lossCode_eq] at acts
    refine stopped _ ?_ acts
    split <;> rfl
  · have acts := (react_stopFor (s := s.evaluate) (by rw [fn]; exact moves) (by rw [fn]; exact target)).trans
      (stopFor_undemanded (by rw [permits]; exact p) (by rw [demands]; exact m))
    rw [made, fn, if_pos ⟨made', travels⟩] at acts
    have slot := enterSeat_becomes s.evaluate f (by rw [fn]; exact l)
    rw [fn, drive, gone, profile] at slot
    split
    next zero => exact act acts (slot.trans (if_pos zero))
    next some => exact act acts (slot.trans (if_neg some))
  · have acts := (react_stopFor (s := s.evaluate) (by rw [fn]; exact moves) (by rw [fn]; exact target)).trans
      (stopFor_undemanded (by rw [permits]; exact p) (by rw [demands]; exact m))
    rw [made, fn, if_neg (fun both => unmade.elim (fun e => Bool.eq_false_iff.mp e both.1) both.2)] at acts
    exact stopped _ l acts
  · rw [react_stopFor (by rw [fn]; exact moves) (by rw [fn]; exact target), stopFor_none_iff, permits, demands]
    exact ⟨p, m⟩

end Sys2Proof.Machine
end

section
/-! What the operations of an event do to the function controllers between two evaluations of the guards (R108, R111, R112): no
function enters AWAIT_FLOW or PRESSURISE by them, and one that withdraws its claim is released only where its grant is gone. -/

namespace Sys2Proof.Machine

/-! ## One controller -/

/-- A function of a MOTION station reads its grant (R71). -/
def State.granted (s : State) (f : FnId) : Bool := s.role == .motion && s.holdsGrant f

theorem granted_congr {s t : State} (same : (t.image, t.setup, t.station, t.life) = (s.image, s.setup, s.station, s.life))
    (f : FnId) : t.granted f = s.granted f := by
  have setup : t.setup = s.setup := congrArg (fun p => p.2.1) same
  have role : t.role = s.role := by rw [State.role, State.role, State.cfg, State.cfg, setup]
  unfold State.granted
  rw [role]
  by_cases motion : s.role = .motion
  · rw [(grants_same same (.inl motion) f).2]
  · rw [beq_eq_false_iff_ne.mpr motion]
    rfl

/-- A grant that the release test finds gone is not held (R71, R111). -/
theorem granted_of_gone {s : State} {f : FnId} (h : s.grantGone f = true) : s.granted f = false := by
  have unheld : s.holdsGrant f = false := by
    unfold State.grantGone at h
    unfold State.holdsGrant
    cases e : s.peerGrants s.cfg.own.pumpStation with
    | none => rfl
    | some gs =>
      rw [e] at h
      simpa using h
  unfold State.granted
  rw [unheld]
  exact Bool.and_false _

theorem Motion.claims_of_moving {m : Motion} (h : m.moving = true) : m.claims = true := by
  revert h
  cases m <;> decide

theorem Motion.moving_or_waits {m : Motion} (h : m.claims = true) : m = .awaitFlow ∨ m.moving = true := by
  cases m <;> simp [Motion.claims, Motion.moving] at h ⊢

theorem Motion.atRest_eq (m : Motion) : m.atRest = !m.claims := by cases m <;> rfl

/-- A controller after an operation that is no evaluation and no grant: it waits and moves only where it did, and it is released
only where it was, at rest, or where the grant is gone. -/
structure Fn.Falls (gone : Prop) (x y : Fn) : Prop where
  waits : y.motion = .awaitFlow → x.motion = .awaitFlow
  moves : y.motion.moving = true → x.motion.moving = true
  free : y.motion.claims = false → y.released = true → (x.motion.claims = false ∧ x.released = true) ∨ gone

namespace Fn.Falls

variable {gone : Prop} {x y z : Fn}

theorem refl (x : Fn) : Fn.Falls gone x x := ⟨id, id, fun idle free => .inl ⟨idle, free⟩⟩

theorem trans (h : Fn.Falls gone x y) (k : Fn.Falls gone y z) : Fn.Falls gone x z :=
  ⟨fun w => h.waits (k.waits w), fun m => h.moves (k.moves m),
    fun idle free => (k.free idle free).elim (fun both => h.free both.1 both.2) .inr⟩

/-- A change of its other data. -/
theorem data (motion : y.motion = x.motion) (released : y.released = x.released) : Fn.Falls gone x y := by
  refine ⟨?_, ?_, ?_⟩ <;> rw [motion]
  · exact id
  · exact id
  · rw [released]
    exact fun idle free => .inl ⟨idle, free⟩

/-- From one moving state to another. -/
theorem moving (before : x.motion.moving = true) (after : y.motion.moving = true) : Fn.Falls gone x y :=
  ⟨fun w => (by rw [w] at after; cases after), fun _ => before,
    fun idle => (by rw [Motion.claims_of_moving after] at idle; cases idle)⟩

/-- From one state at rest to another. -/
theorem resting (before : x.motion.claims = false) (after : y.motion.claims = false) (released : y.released = x.released) :
    Fn.Falls gone x y :=
  ⟨fun w => (by rw [w] at after; cases after), fun m => (by rw [Motion.claims_of_moving m] at after; cases after),
    fun _ free => .inl ⟨before, released ▸ free⟩⟩

/-- To a state at rest, released only where the grant is gone. -/
theorem ended (after : y.motion.claims = false) (released : y.released = true → gone) : Fn.Falls gone x y :=
  ⟨fun w => (by rw [w] at after; cases after), fun m => (by rw [Motion.claims_of_moving m] at after; cases after),
    fun _ free => .inr (released free)⟩

end Fn.Falls

/-! ## The station between two evaluations -/

/-- What the guards and the grants take their bearings from, beside the functions: all that no operation changes between the
cause of an event and its next evaluation. -/
def State.bearings (s : State) : GuardEngine × Vector Entry 16 × Option Setup × StationId × Life × Option IntentKind :=
  (s.guard, s.image, s.setup, s.station, s.life, s.unit.effective)

/-- An operation that is no evaluation and no grant. -/
structure Eased (s t : State) : Prop where
  bearings : t.bearings = s.bearings
  falls : ∀ f : FnId, Fn.Falls (s.granted f = false) s.fns[f] t.fns[f]

namespace Eased

variable {s t u : State}

theorem granted (h : Eased s t) (f : FnId) : t.granted f = s.granted f :=
  granted_congr (congrArg (fun p => (p.2.1, p.2.2.1, p.2.2.2.1, p.2.2.2.2.1)) h.bearings) f

theorem refl (s : State) : Eased s s := ⟨rfl, fun _ => .refl _⟩

theorem trans (h : Eased s t) (k : Eased t u) : Eased s u :=
  ⟨k.bearings.trans h.bearings, fun f => (h.falls f).trans (h.granted f ▸ k.falls f)⟩

/-- An operation that leaves every function as it is. -/
theorem kept (same : (t.bearings, t.fns) = (s.bearings, s.fns)) : Eased s t :=
  ⟨congrArg Prod.fst same, fun f => by rw [show t.fns = s.fns from congrArg Prod.snd same]; exact .refl _⟩

theorem cause (s : State) : Eased s s.statusCause := kept (by rw [statusCause_eq]; rfl)

/-- The publisher's examination is no matter of the functions. -/
theorem act {op : State → State} (h : Eased s (op s)) : Eased s (s.act op) := by
  unfold State.act
  dsimp only
  split
  · exact h.trans (cause _)
  · exact h

/-- An operation on one function. -/
theorem one {f : FnId} (h : Moved f s t) (own : Fn.Falls (s.granted f = false) s.fns[f] t.fns[f]) : Eased s t := by
  refine ⟨by rw [h.rest]; rfl, fun g => ?_⟩
  by_cases same : f = g
  · subst same
    exact own
  · rw [(h.others g same).1]
    exact .refl _

theorem onFn {f : FnId} {g : Fn → Fn} (own : Fn.Falls (s.granted f = false) s.fns[f] (g s.fns[f])) : Eased s (s.onFn f g) :=
  one (onFn_moved f g s) (by rw [State.onFn_same]; exact own)

theorem ite {c : Prop} [Decidable c] (a : c → Eased s t) (b : ¬c → Eased s u) : Eased s (if c then t else u) := by
  split
  next h => exact a h
  next h => exact b h

theorem eachFn {op : FnId → State → State} (h : ∀ f s, Eased s (op f s)) (s : State) : Eased s (s.eachFn op) :=
  (((h 0 s).trans (h 1 _)).trans (h 2 _)).trans (h 3 _)

theorem foldl {α : Type} {op : α → State → State} (h : ∀ a s, Eased s (op a s)) (as : List α) :
    ∀ s : State, Eased s (as.foldl (fun t a => op a t) s) := by
  induction as with
  | nil => exact refl
  | cons a as ih => exact fun s => (h a s).trans (ih _)

/-! ## One function moves -/

theorem toIdle {m : Motion} (idle : m.claims = false) (f : FnId) (s : State) : Eased s (s.toIdle m f) := by
  refine one (toIdle_moved m f s) ?_
  rw [show (s.toIdle m f).fns[f] = _ from congrArg Prod.fst (toIdle_slot m f s)]
  by_cases c : (s.fns[f]).motion.claims = true
  · refine .ended idle (fun free => granted_of_gone ?_)
    simpa only [c, if_true] using free
  · have still := Bool.eq_false_iff.mpr c
    exact .resting still idle (if_neg c)

theorem endStopping (f : FnId) (s : State) : Eased s (s.endStopping f) := act (toIdle (by split <;> rfl) f s)

theorem enterStopping {f : FnId} (c : FaultCode) (m : (s.fns[f]).motion.moving = true) : Eased s (s.enterStopping f c) := by
  have first : Eased s (s.act (State.onFn f (fun x => { x.quiet with motion := .stopping, fault := c }))) :=
    act (onFn (.moving m rfl))
  exact ite (fun _ => first.trans (endStopping f _)) (fun _ => first)

theorem toRest (f : FnId) (s : State) : Eased s (s.act (State.toIdle .rest f)) := act (toIdle rfl f s)

theorem immediateStop (f : FnId) (s : State) : Eased s (s.immediateStop f) := by
  unfold State.immediateStop
  dsimp only
  generalize (if (s.fns[f]).fault.latched then (s.fns[f]).fault else FaultCode.stopped) = code
  have stopped : Eased s (s.act (fun t => (t.toIdle .rest f).onFn f (fun y => { y with fault := code }))) :=
    act (op := fun t => (t.toIdle .rest f).onFn f (fun y => { y with fault := code }))
      ((toIdle rfl f s).trans (onFn (.data rfl rfl)))
  have rests : ((s.act (fun t => (t.toIdle .rest f).onFn f (fun y => { y with fault := code }))).fns[f]).motion = .rest := by
    rw [act_fns, State.onFn_same]
    exact (congrArg (fun a : Fn × Drive => a.1.motion) (toIdle_slot .rest f s) :)
  refine ite (fun _ => ite (fun _ => stopped.trans (act (onFn (.resting ?_ rfl rfl)))) (fun _ => stopped))
    (fun _ => ite (fun _ => toRest f s) (fun _ => refl s))
  rw [rests]
  rfl

theorem halt (f : FnId) (s : State) : Eased s (s.halt f) := by
  unfold State.halt
  split
  next => exact toRest f s
  next m => exact enterStopping _ (by rw [m]; rfl)
  next m => exact enterStopping _ (by rw [m]; rfl)
  next m => exact enterStopping _ (by rw [m]; rfl)
  next => exact refl s

theorem enterTravel {f : FnId} (m : (s.fns[f]).motion.moving = true) : Eased s (s.enterTravel f) := by
  refine act (onFn (.moving m ?_))
  dsimp only
  split
  · dsimp only
    split <;> rfl
  · rfl

theorem endSeat {f : FnId} (m : (s.fns[f]).motion.moving = true) : Eased s (s.endSeat f) :=
  ite (fun _ => enterStopping _ m) (fun _ => toRest f s)

theorem enterSeat {f : FnId} (m : (s.fns[f]).motion.moving = true) : Eased s (s.enterSeat f) := by
  have first : Eased s (s.act (State.onFn f (fun x => { x.quiet with motion := .seat, seat := some (s.profile f).seatTime }))) :=
    act (onFn (.moving m rfl))
  refine ite (fun _ => first.trans (endSeat ?_)) (fun _ => first)
  rw [act_fns, State.onFn_same]
  rfl

theorem permitStop {f : FnId} {d : Dir} (m : (s.fns[f]).motion.moving = true) (e : s.permitStop f d = some t) : Eased s t := by
  unfold State.permitStop at e
  dsimp only at e
  split at e
  · cases e
  · cases e
    exact enterStopping _ m

theorem demandStop {f : FnId} {d : Dir} (m : (s.fns[f]).motion.moving = true) (e : s.demandStop f d = some t) : Eased s t := by
  unfold State.demandStop at e
  split at e
  · cases e
  · split at e
    · cases e
      exact enterSeat m
    · cases e
      exact enterStopping _ m

theorem stopFor {f : FnId} {d : Dir} (m : (s.fns[f]).motion.moving = true) (e : s.stopFor f d = some t) : Eased s t := by
  unfold State.stopFor at e
  split at e <;> rcases Option.or_eq_some_iff.mp e with e | ⟨_, e⟩
  · exact permitStop m e
  · exact demandStop m e
  · exact demandStop m e
  · exact permitStop m e

/-- A release test finds the grant held or gone (R111). -/
theorem releaseAt (f : FnId) (s : State) : Eased s (s.releaseAt f) := by
  refine ite (fun rests => ?_) (fun _ => refl s)
  have idle : (s.fns[f]).motion.claims = false := by rcases rests with m | m <;> rw [m] <;> rfl
  refine ite (fun _ => onFn (.ended idle nofun)) (fun _ => ite (fun gone => ?_) (fun _ => refl s))
  exact onFn (.ended idle (fun _ => granted_of_gone gone))

theorem holdLatched (f : FnId) (s : State) : Eased s (s.holdLatched f) :=
  ite (fun _ => act (toIdle rfl f s)) (fun _ => refl s)

theorem stopNow (s : State) : Eased s s.stopNow := (eachFn immediateStop s).trans (kept rfl)

/-! ## The flow arbiter -/

theorem arbitrate (s : State) : Eased s s.arbitrate := ite (fun _ => act (kept rfl)) (fun _ => refl s)

theorem pumpEnters (p : PumpId) (m : PumpState) (s : State) : Eased s (s.pumpEnters p m) := act (kept rfl)

theorem pumpGateStop (p : PumpId) (s : State) : Eased s (s.pumpGateStop p) :=
  ite (fun _ => pumpEnters p _ s) (fun _ => refl s)

theorem gateEdge (old s : State) : Eased s (State.gateEdge old s) :=
  ite (fun _ => ite (fun _ => ((pumpGateStop .a s).trans (pumpGateStop .b _)).trans (arbitrate _))
    (fun _ => ite (fun _ => arbitrate s) (fun _ => refl s))) (fun _ => refl s)

theorem pumpReset (p : PumpId) (s : State) : Eased s (s.pumpReset p) := ite (fun _ => pumpEnters p _ s) (fun _ => refl s)

theorem idleStop (p : PumpId) (s : State) : Eased s (s.idleStop p) := ite (fun _ => pumpEnters p _ s) (fun _ => refl s)

theorem pumpInputAt (i : InputId) (p : PumpId) (s : State) : Eased s (s.pumpInputAt i p) :=
  ite (fun _ => pumpEnters p _ s) (fun _ => refl s)

theorem pumpInput (i : InputId) (s : State) : Eased s (s.pumpInput i) := by
  have both := (pumpInputAt i .a s).trans (pumpInputAt i .b _)
  exact ite (fun _ => ite (fun _ => both.trans (arbitrate _)) (fun _ => both)) (fun _ => refl s)

theorem releaseNotice (n : StationId) (s : State) : Eased s (s.releaseNotice n) :=
  ite (fun _ => eachFn releaseAt s) (fun _ => refl s)

theorem claimNotice (n : StationId) (s : State) : Eased s (s.claimNotice n) := ite (fun _ => arbitrate s) (fun _ => refl s)

/-! ## Trips and faults -/

theorem tripGained (old : State) (c : Option StopClass) (s : State) : Eased s (State.tripGained old c s) := by
  unfold State.tripGained
  split
  · exact refl s
  · exact (stopNow s).trans (gateEdge old _)
  · exact eachFn halt s

theorem enterTrip (n : StationId) (c : StopClass) (s : State) : Eased s (s.enterTrip n c) :=
  trans (t := s.onUnit (fun u => { u with trips := u.trips.set n (tripEntry (s.unit.trips[n]) c).1 })) (kept rfl)
    (tripGained s _ _)

theorem queueTrip (r : TripReason) (s : State) : Eased s (s.queueTrip r) := ite (fun _ => kept rfl) (fun _ => refl s)

theorem requeueTrip (s : State) : Eased s s.requeueTrip := by
  unfold State.requeueTrip
  split
  · exact queueTrip _ s
  · exact refl s

theorem raiseCause (s : State) : Eased s s.raiseCause := by
  refine ite (fun _ => ?_) (fun _ => refl s)
  split
  · exact refl s
  · exact ((act (kept rfl)).trans (enterTrip _ _ _)).trans (queueTrip _ _)

theorem raiseCauses : ∀ (n : Nat) (s : State), Eased s (State.raiseCauses n s)
  | 0, s => refl s
  | n + 1, s => (raiseCause s).trans (raiseCauses n s.raiseCause)

theorem removeTrips (ns : List StationId) (s : State) : Eased s (s.removeTrips ns) :=
  (foldl (op := fun n t => t.removeTrip n) (fun _ s => ite (fun _ => kept rfl) (fun _ => refl s)) ns s).trans (gateEdge s _)

theorem takeLatched (f : FnId) (c : FaultCode) (s : State) : Eased s (s.takeLatched f c) := by
  have shown : Eased s (s.act (State.onFn f (fun x => { x with fault := shownFault (s.fns[f]).fault c }))) :=
    act (onFn (.data rfl rfl))
  have held : ∀ t : State, Eased t (t.act (State.toIdle .heldFault f)) := fun t => act (toIdle rfl f t)
  have risen : ∀ t : State, Eased s t → Eased s (if c.raisesTrip = true then t.raiseCause else t) := fun t h =>
    ite (fun _ => h.trans (raiseCause t)) (fun _ => h)
  have motion : ((s.act (State.onFn f (fun x => { x with fault := shownFault (s.fns[f]).fault c }))).fns[f]).motion =
      (s.fns[f]).motion := by rw [act_fns, State.onFn_same]
  unfold State.takeLatched
  dsimp only
  apply risen
  split
  next => exact ite (fun _ => shown.trans (held _)) (fun _ => shown)
  next => exact shown.trans (held _)
  next m => exact shown.trans (enterStopping _ (by rw [motion, m]; rfl))
  next m => exact shown.trans (enterStopping _ (by rw [motion, m]; rfl))
  next m => exact shown.trans (enterStopping _ (by rw [motion, m]; rfl))
  next => exact shown

/-! ## Positions, ends and pressure -/

theorem supervise (f : FnId) (s : State) : Eased s (s.supervise f) := by
  refine ite (fun travels => ?_) (fun _ => refl s)
  split
  · exact refl s
  · refine ite (fun _ => takeLatched f _ s) (fun _ => act (onFn (.moving ?_ ?_)))
    · rcases travels with m | m <;> rw [m] <;> rfl
    · dsimp only
      split <;> rfl

theorem convert (f : FnId) (x : FnSetup) (raw : Reading) (s : State) : Eased s (s.convert f x raw) := by
  have read : Eased s (s.onFnField f (fun y => { y with lastRaw := some (unclamped x raw) })) := kept rfl
  have placed : ∀ p : Nat, Eased s ((s.onFnField f (fun y => { y with lastRaw := some (unclamped x raw) })).act
      (State.onFnField f (fun y => { y with position := p }))) := fun p => read.trans (act (kept rfl))
  exact ite (fun _ => read) (fun _ => ite (fun _ => (placed _).trans (takeLatched f _ _))
    (fun _ => ite (fun _ => read) (fun _ => (placed _).trans (supervise f _))))

theorem driveStages (f : FnId) (s : State) : Eased s (s.driveStages f) := by
  have tripped : Eased s (if s.skewTrips f then s.takeLatched f .skew else s) :=
    ite (fun _ => takeLatched f _ s) (fun _ => refl s)
  have driven : ∀ (t : State) (g : Drive → Drive), Eased t (t.onDrive f g) := fun _ _ => kept rfl
  exact ite (fun _ => ite (fun _ => (tripped.trans (driven _ _)).trans (endStopping f _)) (fun _ => tripped.trans (driven _ _)))
    (fun _ => tripped)

/-- An operation on one function and on what its field inputs tell of it. -/
theorem onInputs {f : FnId} {g : Fn → Fn} (h : FnField → FnField)
    (own : Fn.Falls (s.granted f = false) s.fns[f] (g s.fns[f])) : Eased s ((s.onFnField f h).onFn f g) :=
  have placed : Eased s (s.onFnField f h) := kept rfl
  placed.trans (onFn (placed.granted f ▸ own))

theorem refreshEnd (f : FnId) (s : State) : Eased s (s.refreshEnd f) := by
  refine ite (fun _ => refl s) (fun _ => act (op := fun t => (t.onFnField f _).onFn f _) (onInputs _ (.data ?_ ?_)))
  all_goals
    unfold Fn.endChanged
    extract_lets lost back
    split
    · rfl
    · split <;> rfl

theorem endInputs (i : InputId) (f : FnId) (s : State) : Eased s (s.endInputs i f) := by
  have one : ∀ (d : Dir) (t : State), Eased t (t.endInput i f d) := by
    intro d t
    unfold State.endInput
    split
    · exact refl t
    · split
      · exact refl t
      · exact ite (fun _ => kept rfl) (fun _ => refl t)
  exact ((one .toOpen s).trans (one .toClose _)).trans (refreshEnd f _)

theorem takePressure (p : Nat) (f : FnId) (s : State) : Eased s (s.takePressure p f) :=
  ite (fun c => enterTravel (by rw [c.1]; rfl)) (fun _ => refl s)

/-! ## RESET arrivals, and accepted changes at a panel -/

theorem retake (f : FnId) (s : State) : Eased s (s.retake f) := by
  have taken : Eased s (if s.outOfBand f then
      (s.act (State.onFnField f (fun y => { y with position := Config.noPosition }))).takeLatched f .transducer else s) :=
    ite (fun _ => (act (kept rfl)).trans (takeLatched f _ _)) (fun _ => refl s)
  exact ite (fun _ => taken.trans (takeLatched f _ _)) (fun _ => taken)

theorem clearFault (f : FnId) (s : State) : Eased s (s.clearFault f) := by
  refine ite (fun c => trans (act (op := fun t => (t.onFnField f _).onFn f _) (onInputs _ (.resting ?_ rfl rfl)))
    (retake f _)) (fun _ => refl s)
  obtain ⟨m | m, -⟩ := c <;> rw [m] <;> rfl

theorem resetFlags (s : State) : Eased s s.resetFlags := by
  have hold : Eased s (s.act (State.onUnit (fun u => { u with restartHold := false }))) := act (kept rfl)
  exact ite (fun _ => ite (fun _ => hold.trans (act (kept rfl))) (fun _ => hold)) (fun _ => refl s)

theorem acceptLevel (i : InputId) (s : State) : Eased s (s.acceptLevel i) := act (kept rfl)

theorem queueIntent (i : IntentKind) (s : State) : Eased s (s.queueIntent i) := ite (fun _ => kept rfl) (fun _ => refl s)

theorem panelInput (i : InputId) (s : State) : Eased s (s.panelInput i) := by
  have rearmed : Eased s (s.rearmed i) := kept rfl
  have selected : Eased s (s.rearmed i).select := rearmed.trans (act (kept rfl))
  have pressed : ∀ t : State, Eased t (t.pressReset i) := fun t => ite (fun _ => queueIntent _ t) (fun _ => refl t)
  have held : ∀ (t : State) (g : Panel → Panel), Eased t (t.onPanel g) := fun _ _ => kept rfl
  have formed : ∀ t : State, Eased t t.formHeld := fun t =>
    ite (fun _ => refl t) (fun _ => (held t _).trans (queueIntent _ _))
  exact ite (fun _ => (selected.trans (pressed _)).trans (formed _)) (fun _ => refl s)

end Eased

end Sys2Proof.Machine
end

section
/-! The guard results over an event (R82, R86 to R88): what ends in an evaluation leaves them those of the present state, and a
movement goes on in the mode of its start. -/

namespace Sys2Proof.Machine

/-! ## Results of the present state -/

/-- In ACTIVE the guard results are those of the present state (R86). -/
def Current (s : State) : Prop := s.isActive = true → s.guard = s.guardNow

theorem current_inactive {s : State} (h : s.isActive = false) : Current s := fun a => by rw [h] at a; cases a

theorem evaluate_guard {s : State} (a : s.isActive = true) : s.evaluate.guard = s.guardNow := by rw [evaluate_eq a]

theorem current_evaluate (s : State) : Current s.evaluate := by
  intro a
  have active : s.isActive = true := (evaluate_settled s).isActive ▸ a
  rw [evaluate_guard active, (evaluate_alike active).guardNow, guardNow_twice]

/-- A property that an evaluation keeps, and a reaction to its results, holds at the end of the rounds (R87). -/
theorem settle_current {P : State → Prop} (evaluate : ∀ {t : State}, P t → P t.evaluate)
    (react : ∀ {t u : State} {f : FnId}, Current t → P t → t.react f = some u → P u) {s : State} (h : P s) :
    P s.settle ∧ Current s.settle := by
  have sweep : ∀ (fs : List FnId) (t : State), P t ∧ Current t → P (State.sweep fs t).1 ∧ Current (State.sweep fs t).1 := by
    intro fs
    induction fs with
    | nil => exact fun _ ht => ht
    | cons f fs ih =>
      intro t ht
      unfold State.sweep
      split
      · exact ih t ht
      next u acts => exact ih u.evaluate ⟨evaluate (react ht.2 ht.1 acts), current_evaluate u⟩
  have rounds : ∀ (n : Nat) (t : State), P t ∧ Current t → P (State.settleRounds n t) ∧ Current (State.settleRounds n t) := by
    intro n
    induction n with
    | zero => exact fun _ ht => ht
    | succ n ih =>
      intro t ht
      have swept := sweep t.choice.functions t ht
      unfold State.settleRounds
      split
      next e => rw [e] at swept; exact ih _ swept
      next e => rw [e] at swept; exact swept
  unfold State.settle
  split
  next => exact rounds _ _ ⟨evaluate h, current_evaluate s⟩
  next a => exact ⟨h, current_inactive (Bool.eq_false_iff.mpr a)⟩

/-! ## The mode of a movement -/

/-- The mode of a function between the start of an event and a later state of it: a function that has begun to wait has the mode
of that moment; one that holds a claim throughout keeps its mode, or has begun again without a grant; and one that has given its
claim up begins again only without one (R82, R110, R111). -/
structure ModeKept (s : State) (f : FnId) (t : State) : Prop where
  waits : (t.fns[f]).motion = .awaitFlow → (s.fns[f]).motion = .awaitFlow ∨ (t.guard.fns[f]).mode = t.intended f
  goes : (s.fns[f]).motion.claims = true → (t.fns[f]).motion.claims = true →
    (t.guard.fns[f]).mode = (s.guard.fns[f]).mode ∨ (t.fns[f]).motion = .awaitFlow ∧ t.granted f = false
  free : (s.fns[f]).motion.claims = true → (t.fns[f]).motion.claims = false → (t.fns[f]).released = true → t.granted f = false

theorem intended_congr {s t : State} (same : (t.station, t.unit.effective) = (s.station, s.unit.effective)) (f : FnId) :
    t.intended f = s.intended f := by
  simp only [Prod.mk.injEq] at same
  unfold State.intended State.singled
  rw [same.1, same.2]

/-- One function acts. -/
theorem Moved.bearings {f : FnId} {s t : State} (h : Moved f s t) : t.bearings = s.bearings := by
  rw [h.rest]
  rfl

/-- What the bearings give alike. -/
theorem bearings_congr {s t : State} (same : t.bearings = s.bearings) : t.guard = s.guard ∧ t.setup = s.setup ∧
    t.life = s.life ∧ (∀ f : FnId, t.intended f = s.intended f) ∧ ∀ f : FnId, t.granted f = s.granted f := by
  simp only [State.bearings, Prod.mk.injEq] at same
  obtain ⟨guard, image, setup, station, life, effective⟩ := same
  exact ⟨guard, setup, life, intended_congr (by rw [station, effective]), granted_congr (by rw [image, setup, station, life])⟩

namespace ModeKept

variable {s t u : State} {f : FnId}

theorem start (fns : t.fns = s.fns) (guard : t.guard.fns = s.guard.fns) : ModeKept s f t := by
  refine ⟨?_, ?_, ?_⟩ <;> rw [fns]
  · exact .inl
  · rw [guard]
    exact fun _ _ => .inl rfl
  · intro claims idle
    rw [claims] at idle
    cases idle

theorem falls (k : ModeKept s f t) (same : u.bearings = t.bearings) (h : Fn.Falls (t.granted f = false) t.fns[f] u.fns[f]) :
    ModeKept s f u := by
  obtain ⟨guard, -, -, intended, granted⟩ := bearings_congr same
  refine ⟨fun m => ?_, fun before after => ?_, fun before idle released => ?_⟩
  · rw [guard, intended]
    exact k.waits (h.waits m)
  · rw [guard, granted]
    rcases Motion.moving_or_waits after with m | m
    · have waited := h.waits m
      exact (k.goes before (by rw [waited]; rfl)).imp id (fun lost => ⟨m, lost.2⟩)
    · have moved := h.moves m
      refine (k.goes before (Motion.claims_of_moving moved)).imp id (fun lost => ?_)
      rw [lost.1] at moved
      cases moved
  · rw [granted]
    exact (h.free idle released).elim (fun both => k.free before both.1 both.2) id

theorem eased (k : ModeKept s f t) (h : Eased t u) : ModeKept s f u := k.falls h.bearings (h.falls f)

/-- Another function acts. -/
theorem other {g : FnId} (k : ModeKept s f t) (h : Moved g t u) (ne : g ≠ f) : ModeKept s f u :=
  k.falls h.bearings (by rw [(h.others f ne).1]; exact .refl _)

/-- A function that leaves REST begins in the mode that the guards have just found, and without a grant where it has given a claim
up before (R82, R110, R111). -/
theorem leaves {d : Dir} (conf : (t.fnSetup f).isSome = true) (k : ModeKept s f t) (current : Current t)
    (may : t.mayLeave f d = true) : ModeKept s f (t.leaveRest f d) := by
  obtain ⟨rest, active, -, -, -, -, -, -, -, -, released⟩ := (mayLeave_iff t f d).mp may
  obtain ⟨x, conf⟩ := Option.isSome_iff_exists.mp conf
  have idle : (t.fns[f]).motion.claims = false := by rw [rest]; rfl
  have moved : Moved f t (t.leaveRest f d) := (onFn_moved f _ t).act
  have waits : ((t.leaveRest f d).fns[f]).motion = .awaitFlow := by
    unfold State.leaveRest
    rw [act_fns, State.onFn_same]
  obtain ⟨guard, -, -, intended, granted⟩ := bearings_congr moved.bearings
  refine ⟨fun _ => .inr ?_, fun before _ => .inr ⟨waits, ?_⟩, fun _ none => ?_⟩
  · rw [guard, intended, current active, guardNow_fns, fnGuardNow_configured conf]
    exact modeNow_atRest (by rw [rest]; rfl)
  · rw [granted]
    exact k.free before idle released
  · rw [waits] at none
    cases none

/-- A function that is granted its flow goes on in its mode (R113). -/
theorem presses (k : ModeKept s f t) (waits : (t.fns[f]).motion = .awaitFlow) (held : t.granted f = true) :
    ModeKept s f (t.enterPressurise f) := by
  have moved := enterPressurise_moved f t
  have motion : ((t.enterPressurise f).fns[f]).motion = .pressurise :=
    (congrArg (fun a : Fn × Drive => a.1.motion) (enterPressurise_slot t f) :)
  obtain ⟨guard, -, -, -, granted⟩ := bearings_congr moved.bearings
  refine ⟨fun m => ?_, fun before _ => ?_, fun _ idle => ?_⟩
  · rw [motion] at m
    cases m
  · rw [guard]
    refine (k.goes before (by rw [waits]; rfl)).imp id (fun lost => ?_)
    rw [held] at lost
    cases lost.2
  · rw [motion] at idle
    cases idle

/-- An evaluation finds the mode of a movement as it is (R82). -/
theorem evaluate (conf : (t.fnSetup f).isSome = true) (k : ModeKept s f t) : ModeKept s f t.evaluate := by
  by_cases a : t.isActive = true
  · obtain ⟨x, conf⟩ := Option.isSome_iff_exists.mp conf
    have views := evaluate_alike a
    have fns : t.evaluate.fns = t.fns := views.same State.fns (fun _ => rfl)
    have intended : t.evaluate.intended f = t.intended f := views.same (fun v => v.intended f) (fun _ => rfl)
    have granted : t.evaluate.granted f = t.granted f := granted_congr (by rw [evaluate_eq a]) f
    have mode : (t.fns[f]).motion.claims = true → (t.evaluate.guard.fns[f]).mode = (t.guard.fns[f]).mode := by
      intro claims
      rw [evaluate_guard a, guardNow_fns, fnGuardNow_configured conf]
      exact modeNow_away (by rw [Motion.atRest_eq, claims]; rfl)
    refine ⟨?_, ?_, ?_⟩ <;> rw [fns]
    · intro m
      rw [mode (by rw [m]; rfl), intended]
      exact k.waits m
    · intro before after
      rw [mode after, granted]
      exact k.goes before after
    · rw [granted]
      exact k.free
  · rw [State.evaluate, if_neg a]
    exact k

end ModeKept

/-- A reaction leaves REST, or gives up (R87). -/
theorem react_cases {s t : State} {f : FnId} (acts : s.react f = some t) :
    Eased s t ∨ ∃ d : Dir, s.mayLeave f d = true ∧ t = s.leaveRest f d := by
  unfold State.react at acts
  split at acts
  next =>
    split at acts
    next may => exact .inr ⟨.toOpen, may, (Option.some.inj acts).symm⟩
    next =>
      split at acts
      next may => exact .inr ⟨.toClose, may, (Option.some.inj acts).symm⟩
      next => cases acts
  next m _ =>
    split at acts
    next => cases acts
    next =>
      cases acts
      exact .inl (Eased.toRest f s)
  next m _ => exact .inl (Eased.stopFor (by rw [m]; rfl) acts)
  next m _ => exact .inl (Eased.stopFor (by rw [m]; rfl) acts)
  next m _ => exact .inl (Eased.stopFor (by rw [m]; rfl) acts)
  next => cases acts

/-! ## The walk of an event -/

/-- A state of an event on the way to an evaluation: what the guards keep from its start. -/
structure Underway (s v : State) : Prop where
  life : v.life = s.life
  setup : v.setup = s.setup
  flash : v.guard.flash = s.guard.flash
  still : s.isActive = false → v.guard = s.guard
  modes : ∀ f : FnId, (s.fnSetup f).isSome = true → ModeKept s f v

/-- A state of an event after an evaluation. -/
structure Settles (s w : State) : Prop extends Underway s w where
  current : Current s → Current w

namespace Underway

variable {s v w : State}

theorem start (same : (v.fns, v.guard, v.life, v.setup) = (s.fns, s.guard, s.life, s.setup)) : Underway s v := by
  simp only [Prod.mk.injEq] at same
  obtain ⟨fns, guard, life, setup⟩ := same
  exact ⟨life, setup, congrArg GuardEngine.flash guard, fun _ => guard, fun _ _ => .start fns (congrArg GuardEngine.fns guard)⟩

theorem fnSetup (h : Underway s v) (f : FnId) : v.fnSetup f = s.fnSetup f := by
  rw [State.fnSetup, State.fnSetup, State.cfg, State.cfg, h.setup]

theorem isActive (h : Underway s v) : v.isActive = s.isActive := by rw [State.isActive, State.isActive, h.life]

theorem eased (h : Underway s v) (k : Eased v w) : Underway s w := by
  obtain ⟨guard, setup, life, -, -⟩ := bearings_congr k.bearings
  exact ⟨life.trans h.life, setup.trans h.setup, (congrArg GuardEngine.flash guard).trans h.flash,
    fun idle => guard.trans (h.still idle), fun f conf => (h.modes f conf).eased k⟩

theorem evaluate (h : Underway s v) : Underway s v.evaluate := by
  by_cases a : v.isActive = true
  · have e := evaluate_eq a
    refine ⟨?_, ?_, ?_, ?_, fun f conf => (h.modes f conf).evaluate ((h.fnSetup f) ▸ conf)⟩
    · rw [e]
      exact h.life
    · rw [e]
      exact h.setup
    · rw [e]
      exact h.flash
    · intro idle
      rw [h.isActive, idle] at a
      cases a
  · rw [State.evaluate, if_neg a]
    exact h

/-- One function acts, and its mode is kept. -/
theorem moved {f : FnId} (h : Underway s v) (m : Moved f v w)
    (own : (v.fnSetup f).isSome = true → ModeKept s f v → ModeKept s f w) : Underway s w := by
  obtain ⟨guard, setup, life, -, -⟩ := bearings_congr m.bearings
  refine ⟨life.trans h.life, setup.trans h.setup, (congrArg GuardEngine.flash guard).trans h.flash,
    fun idle => guard.trans (h.still idle), fun g conf => ?_⟩
  by_cases same : f = g
  · subst same
    exact own ((h.fnSetup f) ▸ conf) (h.modes f conf)
  · exact (h.modes g conf).other m same

theorem react {f : FnId} (current : Current v) (h : Underway s v) (acts : v.react f = some w) : Underway s w := by
  rcases react_cases acts with k | ⟨d, may, rfl⟩
  · exact h.eased k
  · exact h.moved ((onFn_moved f _ v).act) (fun conf k => k.leaves conf current may)

theorem settle (h : Underway s v) : Settles s v.settle :=
  have ends := settle_current (P := Underway s) evaluate react h
  ⟨ends.1, fun _ => ends.2⟩

end Underway

end Sys2Proof.Machine
end

section
/-! What the guards read of a station (R76 to R78, R82 to R89): of an entry of the image what it shows while it is FRESH, of an
input its accepted level, and of the rest of the station the part that `State.seen` keeps. -/

namespace Sys2Proof.Machine

/-- A station but for what no guard reads: the queue, the line and the publisher, the raw field inputs and their timers, the valve
drive, and the timers of the panel and of the intent and trip unit. -/
def State.seen (s : State) : State := { s with
  pending := [], joinWindow := none, announceTimer := none, goodFrames := 0
  loop := { Loop.atReset with lone := s.loop.lone }, pub := Publisher.atReset
  field := { s.field with
    lines := State.reset.field.lines, pressure := none, closing := none, lowTimer := none, recovery := none }
  drive := Vector.replicate 4 Drive.off, dump := false
  panel := { Panel.atReset with selection := s.panel.selection }
  unit := { s.unit with resetWindow := none, tripRepeat := none, lastTrip := none } }

theorem guardNow_seen (s : State) : s.seen.guardNow = s.guardNow := rfl

/-- What an entry shows to the guards: nothing unless it is FRESH (R78). -/
def Entry.shown (e : Entry) : Option (Option Role × Option Byte × Option Record) :=
  if e.state = .fresh then some (e.role, e.byte, e.record) else none

theorem Entry.shown_eq_none {e : Entry} (h : e.state ≠ .fresh) : e.shown = none := if_neg h

section
variable {s t : State} (entries : ∀ n : StationId, (t.entry n).shown = (s.entry n).shown) (levels : t.accepted = s.accepted)
include entries

/-- Two entries that show the same are FRESH together, and then hold the same. -/
theorem shown_cases (n : StationId) : ((t.entry n).state ≠ .fresh ∧ (s.entry n).state ≠ .fresh) ∨
    ((t.entry n).state = .fresh ∧ (s.entry n).state = .fresh ∧ (t.entry n).role = (s.entry n).role ∧
      (t.entry n).byte = (s.entry n).byte ∧ (t.entry n).record = (s.entry n).record) := by
  have same := entries n
  unfold Entry.shown at same
  split at same
  next a =>
    split at same
    next b =>
      simp only [Option.some.injEq, Prod.mk.injEq] at same
      exact .inr ⟨a, b, same⟩
    next => cases same
  next a =>
    split at same
    next => cases same
    next b => exact .inl ⟨a, b⟩

theorem position_shown (n : StationId) (f : FnId) : (t.entry n).position f = (s.entry n).position f := by
  unfold Entry.position
  rcases shown_cases entries n with ⟨a, b⟩ | ⟨a, b, -, -, record⟩
  · rw [if_neg a, if_neg b]
  · rw [if_pos a, if_pos b, record]

theorem pairValue_shown (setup : t.setup = s.setup) (f : FnId) : t.pairValue f = s.pairValue f := by
  have conf : t.fnSetup f = s.fnSetup f := by rw [State.fnSetup, State.fnSetup, State.cfg, State.cfg, setup]
  have peer : t.peerPosition f = s.peerPosition f := by
    rw [peerPosition_eq, peerPosition_eq, conf]
    simp only [position_shown entries]
  unfold State.pairValue
  rw [conf, peer]

include levels

theorem termValue_shown (x : Term) : t.termValue x = s.termValue x := by
  have answered : t.answerable x = s.answerable x := by
    rcases shown_cases entries x.station with ⟨a, b⟩ | ⟨a, b, role, byte, record⟩
    · rw [answerable_stale a, answerable_stale b]
    · have reads : t.reads (t.entry x.station) x.selector = s.reads (s.entry x.station) x.selector := by
        unfold State.reads
        rw [byte, record, levels]
      unfold State.answerable
      dsimp only
      rw [reads, role, a, b]
  unfold State.termValue
  rw [answered]

/-- Guards that read the same give the same (R86). -/
theorem guardNow_shown (rest : (t.fns, t.guard, t.setup, t.station, t.unit.effective, t.field.fns) =
    (s.fns, s.guard, s.setup, s.station, s.unit.effective, s.field.fns)) : t.guardNow = s.guardNow := by
  simp only [Prod.mk.injEq] at rest
  obtain ⟨fns, guard, setup, station, effective, ends⟩ := rest
  have values : t.termValue = s.termValue := funext (termValue_shown entries levels)
  have cfg : t.cfg = s.cfg := by rw [State.cfg, State.cfg, setup]
  have functions : ∀ f : FnId, t.fnGuardNow f = s.fnGuardNow f := by
    intro f
    unfold State.fnGuardNow State.modeNow State.singled State.blockingNow State.demand State.demands State.made State.fnSetup
    rw [values, pairValue_shown entries setup f, cfg, fns, guard, station, effective, ends, levels]
  have lamps : ∀ n : Nat, t.lampNow n = s.lampNow n := by
    intro n
    unfold State.lampNow
    rw [values, cfg]
  exact guardNow_congr functions lamps (by rw [guard])

end

end Sys2Proof.Machine
end

section
/-! What each event does between its cause and its last evaluation (chapters 4 to 10): operations that ease, evaluations, and the
grants of a change notice of the pump station. -/

namespace Sys2Proof.Machine

namespace Underway

variable {s v : State}

/-! ## Causes -/

theorem refl (s : State) : Underway s s := .start rfl

theorem onField (g : FieldInputs → FieldInputs) (s : State) : Underway s (s.onField g) := .start rfl

theorem onFnField (f : FnId) (g : FnField → FnField) (s : State) : Underway s (s.onFnField f g) := .start rfl

/-- A change of the field inputs that the publisher examines at once. -/
theorem published (g : FieldInputs → FieldInputs) (s : State) : Underway s (s.act (State.onField g)) :=
  (refl s).eased (Eased.act (op := State.onField g) (.kept rfl))

/-! ## Notices (R36, R69 to R73, R113, R164) -/

theorem pumpNoticeAt (role : s.role = .motion) (f : FnId) (h : Underway s v) : Underway s (v.pumpNoticeAt f) := by
  have lost : (v.fns[f]).motion.moving = true → Underway s (if v.holdsGrant f then v else v.enterStopping f .grantLost) :=
    fun m => h.eased (Eased.ite (fun _ => .refl v) (fun _ => Eased.enterStopping _ m))
  unfold State.pumpNoticeAt
  split
  next m =>
    split
    next held =>
      have given : v.granted f = true := by
        unfold State.granted State.role State.cfg
        rw [h.setup, held, Bool.and_true, beq_iff_eq]
        exact role
      exact h.moved (enterPressurise_moved f v) (fun _ k => k.presses m given)
    next => exact h
  next m => exact lost (by rw [m]; rfl)
  next m => exact lost (by rw [m]; rfl)
  next m => exact lost (by rw [m]; rfl)
  next => exact h

theorem pumpNotice (n : StationId) (h : Underway s v) : Underway s (v.pumpNotice n) := by
  unfold State.pumpNotice
  split
  next ours =>
    have role : s.role = .motion := by
      unfold State.isPumpOf at ours
      rw [Bool.and_eq_true, beq_iff_eq, State.role, State.cfg, h.setup] at ours
      exact ours.1
    exact Kept.foldl (P := Underway s) (fun f _ k => k.pumpNoticeAt role f) _ h
  next => exact h

theorem changeNotice (n : StationId) (h : Underway s v) : Settles s (v.changeNotice n) := by
  have released := h.eased (Eased.releaseNotice n v)
  unfold State.changeNotice
  extract_lets u w
  have answered : Underway s w := by
    unfold w
    split
    · exact released.settle.toUnderway
    · exact released
  exact ((answered.pumpNotice n).eased (Eased.claimNotice n _)).settle

theorem statusNotice (n : StationId) (h : Underway s v) : Settles s (v.statusNotice n) :=
  (h.eased (Eased.removeTrips [n] v)).settle

theorem loneChanged (h : Underway s v) : Settles s v.loneChanged := by
  unfold State.loneChanged
  extract_lets u w
  have first : Underway s u := by
    unfold u
    split
    · exact h.settle.toUnderway
    · exact h
  have halted : Eased u w := Eased.ite (fun _ => Eased.eachFn Eased.halt u) (fun _ => .refl u)
  exact (first.eased (halted.trans (Eased.arbitrate w))).settle

/-! ## Stops and RESET arrivals (R104, R107, R150) -/

theorem stationStop (old : State) (h : Underway s v) : Settles s (State.stationStop old v) := by
  unfold State.stationStop
  split
  next => exact (h.eased (((Eased.stopNow v).trans (Eased.gateEdge old _)).trans (Eased.raiseCause _))).settle
  next a => exact ⟨h, fun _ => current_inactive (Bool.eq_false_iff.mpr a)⟩

theorem resetArrival (h : Underway s v) : Settles s v.resetArrival := by
  unfold State.resetArrival
  extract_lets t u w x
  have cleared : Eased v t := Eased.eachFn Eased.clearFault v
  have flagged : Eased t u := ((Eased.pumpReset .a t).trans (Eased.pumpReset .b _)).trans (Eased.resetFlags _)
  have opened : ∀ (y : State) (d : Timer), Eased y (y.onUnit (fun z => { z with resetWindow := d })) := fun _ _ => .kept rfl
  have computed : Eased w x := Eased.ite (fun _ => Eased.arbitrate w) (fun _ => .refl w)
  exact (h.eased (((cleared.trans flagged).trans ((opened u _).trans computed)).trans (Eased.removeTrips stations x))).settle

/-! ## Field inputs and drives (R95, R101, R129, R157) -/

theorem acceptedChange (i : InputId) (h : Underway s v) : Settles s (v.acceptedChange i) :=
  (h.eased ((((Eased.acceptLevel i v).trans (Eased.eachFn (Eased.endInputs i) _)).trans (Eased.pumpInput i _)).trans
    (Eased.panelInput i _))).settle

end Underway

/-! ## The start of an event -/

theorem eased_unseen {s t : State} (same : t.seen = s.seen) : Eased s t :=
  .kept (congrArg (fun u : State => (u.bearings, u.fns)) same :)

namespace Settles

variable {s t u w : State}

/-- An event without an evaluation changes nothing that the guards read. -/
theorem silent (same : (t.fns, t.guard, t.life, t.setup) = (s.fns, s.guard, s.life, s.setup)) (read : t.guardNow = s.guardNow) :
    Settles s t := by
  refine ⟨.start same, fun current a => ?_⟩
  simp only [Prod.mk.injEq] at same
  rw [read, same.2.1]
  exact current (by rw [State.isActive, ← same.2.2.1]; exact a)

/-- A change that no guard sees. -/
theorem unseen (same : t.seen = s.seen) : Settles s t := by
  refine silent (congrArg (fun u : State => (u.fns, u.guard, u.life, u.setup)) same :) ?_
  rw [← guardNow_seen t, same, guardNow_seen]

theorem refl (s : State) : Settles s s := unseen rfl

theorem of_start (first : Settles s t) (same : (t.fns, t.guard) = (s.fns, s.guard)) (h : Settles t w) : Settles s w := by
  simp only [Prod.mk.injEq] at same
  obtain ⟨fns, guard⟩ := same
  refine ⟨⟨h.life.trans first.life, h.setup.trans first.setup, h.flash.trans first.flash, fun idle => ?_, fun f conf => ?_⟩,
    fun current => h.current (first.current current)⟩
  · rw [h.still (first.isActive.trans idle), guard]
  · obtain ⟨waits, goes, free⟩ := h.modes f ((first.fnSetup f) ▸ conf)
    rw [fns] at waits goes free
    rw [guard] at goes
    exact ⟨waits, goes, free⟩

/-- An event that follows a change which no guard sees. -/
theorem after (same : t.seen = s.seen) (h : Settles t w) : Settles s w :=
  (unseen same).of_start (congrArg (fun u : State => (u.fns, u.guard)) same :) h

/-- A change at the end of an event that no guard sees. -/
theorem before (h : Settles s t) (same : u.seen = t.seen) : Settles s u :=
  ⟨h.toUnderway.eased (eased_unseen same), fun current => (unseen same).current (h.current current)⟩

/-! ## Arrivals (R61 to R66, R146, R151) -/

theorem queueAnnounce (ask : Bool) (s : State) : (s.queueAnnounce ask).seen = s.seen := by
  unfold State.queueAnnounce
  split <;> rfl

/-- The guards read of the image what its entries show. -/
theorem image {v : Vector Entry 16} (shown : ∀ n : StationId, (v[n]).shown = (s.image[n]).shown) : Settles s { s with image := v } := by
  refine silent rfl (guardNow_shown (fun n => ?_) rfl rfl)
  unfold State.entry
  dsimp only
  split
  · rfl
  · exact shown n

theorem onEntry {n : StationId} {g : Entry → Entry} (shown : (g (s.image[n])).shown = (s.image[n]).shown) :
    Settles s (s.onEntry n g) := by
  refine image (fun m => ?_)
  by_cases same : n = m
  · subst same
    simpa using shown
  · have ne : n.val ≠ m.val := fun e => same (Fin.ext e)
    simp [Vector.getElem_set_ne, ne]

theorem takeStatus (n : StationId) (b : Byte) (r : Record) (s : State) : Settles s (s.takeStatus n b r) := by
  have absorbed : ∀ k : Option Record, Underway s (s.onEntry n (Entry.absorb s.timing.stale b k)) := fun _ => .start rfl
  have unverified : (s.image[n]).state ≠ .fresh → Settles s
      ((s.onEntry n (fun e => { e with state := .unverified, age := some s.timing.stale })).queueAnnounce true) := fun stale =>
    (onEntry (by rw [Entry.shown_eq_none stale]; rfl)).before (queueAnnounce true _)
  unfold State.takeStatus
  extract_lets e kept asks written
  have noticed := ((absorbed kept).changeNotice n).toUnderway.statusNotice n
  split
  next absent => exact unverified (by rw [absent]; nofun)
  next pending => exact unverified (by rw [pending]; nofun)
  next => exact noticed
  next => exact noticed
  next =>
    split
    next => exact (absorbed kept).statusNotice n
    next => exact noticed
  next => exact refl s

theorem statusDelivered (f : Frame) (s : State) : Settles s (s.statusDelivered f) := by
  unfold State.statusDelivered
  split
  · split
    · exact takeStatus _ _ _ s
    · exact refl s
  · exact refl s

theorem takeAnnounce (n : StationId) (a : AnnounceFrame) (s : State) : Settles s (s.takeAnnounce n a) := by
  unfold State.takeAnnounce
  extract_lets e written answered
  have answers : answered.seen = written.seen := by
    unfold answered
    split
    · exact queueAnnounce false written
    · rfl
  split
  next same =>
    have unfresh : e.state ≠ .fresh := by
      unfold e Entry.announced
      cases s.refuses n a <;> nofun
    exact (onEntry (by rw [Entry.shown_eq_none unfresh, Entry.shown_eq_none (same ▸ unfresh)])).before answers
  next =>
    have first : Underway s written := .start rfl
    exact (first.eased (eased_unseen answers)).changeNotice n

theorem announceDelivered (f : Frame) (s : State) : Settles s (s.announceDelivered f) := by
  unfold State.announceDelivered
  split
  · exact takeAnnounce _ _ s
  · exact refl s

theorem writeIntent (n : StationId) (e : Option IntentEntry) (s : State) : Settles s (s.writeIntent n e).settle :=
  (Underway.start rfl : Underway s (s.writeIntent n e)).settle

theorem takeIntent (n : StationId) (i : IntentFrame) (s : State) : Settles s (s.takeIntent n i) := by
  unfold State.takeIntent
  extract_lets e
  split
  · exact refl s
  · split
    · split
      · exact writeIntent n none s
      · exact (Underway.refl s).resetArrival
      · exact writeIntent n _ s
    · exact refl s

theorem intentDelivered (f : Frame) (s : State) : Settles s (s.intentDelivered f) := by
  unfold State.intentDelivered
  split
  · exact takeIntent _ _ s
  · exact refl s

theorem tripDelivered (f : Frame) (s : State) : Settles s (s.tripDelivered f) := by
  unfold State.tripDelivered
  split
  · exact ((Underway.refl s).eased (Eased.enterTrip _ _ s)).settle
  · exact refl s

end Settles

end Sys2Proof.Machine
end

section
/-! The guard results at the end of an event (R75, R86, R88), from one life cycle state to another. -/

namespace Sys2Proof.Machine

variable {s t u : State}

/-! ## The laws by life cycle state -/

theorem guardLaws_active (a : s.isActive = true) : GuardLaws s ↔ s.guard = s.guardNow ∧ s.guard.flash.isSome = true := by
  unfold GuardLaws
  rw [if_pos a]

theorem guardLaws_inactive (idle : s.isActive = false) (r : s.running = true) :
    GuardLaws s ↔ s.guard = s.guard.cleared ∧ EveryTermValued s := by
  unfold GuardLaws
  rw [if_neg (Bool.eq_false_iff.mp idle), if_pos r]

theorem running_of_active (a : s.isActive = true) : s.running = true := by
  rw [State.running, (isActive_iff s).mp a]

theorem inactive_of_unloaded (r : s.running = false) : s.isActive = false := by
  by_contra a
  rw [running_of_active (by simpa using a)] at r
  cases r

theorem guardLaws_unloaded (r : s.running = false) : GuardLaws s ↔ s.guard = GuardEngine.blank := by
  unfold GuardLaws
  rw [if_neg (Bool.eq_false_iff.mp (inactive_of_unloaded r)), if_neg (Bool.eq_false_iff.mp r)]

/-! ## Every term has a value (R75) -/

theorem valued_congr (values : ∀ f : FnId, (t.guard.fns[f]).opening.values = (s.guard.fns[f]).opening.values ∧
      (t.guard.fns[f]).closing.values = (s.guard.fns[f]).closing.values)
    (lamps : ∀ n : Fin 8, (t.guard.lamps[n]).onValues = (s.guard.lamps[n]).onValues ∧
      (t.guard.lamps[n]).flashValues = (s.guard.lamps[n]).flashValues)
    (setup : t.setup = s.setup) (h : EveryTermValued s) : EveryTermValued t := by
  have cfg : t.cfg = s.cfg := by rw [State.cfg, State.cfg, setup]
  unfold EveryTermValued State.fnSetup at h ⊢
  rw [cfg]
  refine ⟨fun f => ?_, fun n => ?_⟩
  · rw [(values f).1, (values f).2]
    exact h.1 f
  · rw [(lamps n).1, (lamps n).2]
    exact h.2 n

/-- An evaluation gives each term a value (R86). -/
theorem valued_now (guard : s.guard = s.guardNow) : EveryTermValued s := by
  unfold EveryTermValued
  rw [guard]
  refine ⟨fun f => ?_, fun n => ?_⟩
  · rw [guardNow_fns]
    cases c : s.fnSetup f with
    | none =>
      unfold State.fnGuardNow
      rw [c]
      exact ⟨rfl, rfl⟩
    | some x =>
      rw [fnGuardNow_configured c]
      exact ⟨List.length_map .., List.length_map ..⟩
  · rw [guardNow_lamps]
    unfold State.lampNow
    cases s.cfg.own.lamps[n.val]? with
    | none => exact ⟨rfl, rfl⟩
    | some l => exact ⟨List.length_map .., List.length_map ..⟩

theorem GuardLaws.valued (h : GuardLaws s) (r : s.running = true) : EveryTermValued s := by
  by_cases a : s.isActive = true
  · exact valued_now (h.current a)
  · exact ((guardLaws_inactive (Bool.eq_false_iff.mpr a) r).mp h).2

theorem cleared_valued (guard : t.guard = s.guard.cleared) (setup : t.setup = s.setup) (h : EveryTermValued s) :
    EveryTermValued t := by
  refine valued_congr (fun f => ?_) (fun n => ?_) setup h <;> rw [guard]
  · rw [cleared_fns]
    exact ⟨rfl, rfl⟩
  · rw [cleared_lamps]
    exact ⟨rfl, rfl⟩

theorem cleared_twice (g : GuardEngine) : g.cleared.cleared = g.cleared := rfl

theorem FnGuard.loaded_cleared (x : Option FnSetup) : (FnGuard.loaded x).cleared = FnGuard.loaded x := by cases x <;> rfl

theorem Lamp.loaded_cleared (l : Option LampSetup) : (Lamp.loaded l).cleared = Lamp.loaded l := by cases l <;> rfl

theorem loaded_cleared (o : OwnSection) : (GuardEngine.loaded o).cleared = GuardEngine.loaded o := by
  unfold GuardEngine.loaded GuardEngine.cleared
  simp [FnGuard.loaded_cleared, Lamp.loaded_cleared]

/-- The lists of a good load have their values (R75). -/
theorem loaded_valued {c : Setup} (setup : s.setup = some c) (guard : s.guard = .loaded c.own) : EveryTermValued s := by
  have cfg : s.cfg = c := by rw [State.cfg, setup]; rfl
  unfold EveryTermValued State.fnSetup
  rw [guard, cfg]
  refine ⟨fun f => ?_, fun n => ?_⟩
  · rw [loaded_fns]
    cases c.own.fns[f] with
    | none => exact ⟨rfl, rfl⟩
    | some x => exact ⟨List.length_map .., List.length_map ..⟩
  · rw [loaded_lamps]
    cases c.own.lamps[n.val]? with
    | none => exact ⟨rfl, rfl⟩
    | some l => exact ⟨List.length_map .., List.length_map ..⟩

/-! ## The end of an event -/

/-- An event keeps the laws of the guard results, and in ACTIVE the modes of the movements (R75, R82, R86, R88). -/
structure Ends (s t : State) : Prop where
  laws : GuardLaws s → GuardLaws t
  modes : s.isActive = true → t.isActive = true → ∀ f : FnId, (s.fnSetup f).isSome = true → ModeKept s f t

namespace Ends

theorem finish (h : Ends s t) : Ends s t.finish := ⟨h.laws, fun a b f conf => by
  obtain ⟨waits, goes, free⟩ := h.modes a b f conf
  exact ⟨waits, goes, free⟩⟩

theorem away (idle : s.isActive = false ∨ t.isActive = false) (laws : GuardLaws s → GuardLaws t) : Ends s t :=
  ⟨laws, fun a b => by rcases idle with i | i <;> simp [i] at a b⟩

/-- A change before a good load. -/
theorem unloaded (before : s.running = false) (after : t.running = false) (guard : t.guard = s.guard) : Ends s t :=
  away (.inl (inactive_of_unloaded before)) (fun h => by
    rw [guardLaws_unloaded before] at h
    rw [guardLaws_unloaded after, guard, h])

/-- From JOINING or WITHDRAWN to one of them. -/
theorem waiting (idle : s.isActive = false) (r : s.running = true) (idle' : t.isActive = false) (r' : t.running = true)
    (guard : t.guard = s.guard) (setup : t.setup = s.setup) : Ends s t := by
  refine away (.inl idle) (fun h => ?_)
  obtain ⟨cleared, valued⟩ := (guardLaws_inactive idle r).mp h
  refine (guardLaws_inactive idle' r').mpr ⟨by rw [guard, ← cleared], valued_congr ?_ ?_ setup valued⟩ <;>
    exact fun _ => by rw [guard]; exact ⟨rfl, rfl⟩

end Ends

theorem Settles.ends (h : Settles s t) : Ends s t := by
  refine ⟨fun laws => ?_, fun _ _ => h.modes⟩
  have active := h.isActive
  have running : t.running = s.running := by rw [State.running, State.running, h.life]
  by_cases a : s.isActive = true
  · rw [guardLaws_active (active.trans a)]
    refine ⟨h.current (fun _ => laws.current a) (active.trans a), ?_⟩
    rw [h.flash]
    exact ((guardLaws_active a).mp laws).2
  · have idle := Bool.eq_false_iff.mpr a
    by_cases r : s.running = true
    · exact (Ends.waiting idle r (active.trans idle) (running.trans r) (h.still idle) h.setup).laws laws
    · have unloaded := Bool.eq_false_iff.mpr r
      exact (Ends.unloaded unloaded (running.trans unloaded) (h.still idle)).laws laws

/-! ## The life cycle (R13 to R16, R33, R35) -/

/-- The entry to WITHDRAWN clears the results (R15, R88). -/
theorem Settles.enterWithdrawn (h : Settles s u) (r : u.running = true) : Ends s u.enterWithdrawn := by
  obtain ⟨fns, e⟩ := enterWithdrawn_eq u
  rw [e]
  refine .away (.inr rfl) (fun laws => (guardLaws_inactive rfl rfl).mpr ⟨(cleared_twice _).symm, ?_⟩)
  exact cleared_valued rfl rfl ((h.ends.laws laws).valued r)

theorem statusLost_seen (s : State) : s.statusLost.seen = s.seen := by
  unfold State.statusLost
  split
  · split <;> rfl
  · rfl

theorem Settles.abort (h : Settles s u) : Ends s u.abort := by
  unfold State.abort
  extract_lets given
  have back : given.seen = u.seen := (show given.seen = u.statusLost.seen from rfl).trans (statusLost_seen u)
  split
  next full =>
    refine (h.before back).enterWithdrawn ?_
    unfold State.running
    rcases full.2 with l | l <;> rw [l]
  next => exact (h.before back).ends

/-- A good frame that counts in WITHDRAWN may end it (R16). -/
theorem Settles.countGood (h : Settles s u) : Ends s u.countGood := by
  unfold State.countGood
  split
  next withdrawn =>
    split
    · exact (h.before (u := { u with goodFrames := u.goodFrames + 1 }) rfl).ends
    · have life : s.life = .withdrawn := h.life.symm.trans withdrawn
      have idle : s.isActive = false := by rw [State.isActive, life]; rfl
      rw [enterJoining_eq]
      exact .waiting idle (by rw [State.running, life]) rfl rfl (h.still idle) h.setup
  next => exact h.ends

theorem current_settle (s : State) : Current s.settle :=
  (settle_current (P := fun _ => True) (fun _ => trivial) (fun _ _ _ => trivial) trivial).2

/-- The entry to ACTIVE ends with an evaluation, and its flash timer runs (R14, R90). -/
theorem enterActive_ends (l : s.life = .joining) : Ends s s.enterActive := by
  have held : Eased s.activated (s.activated.statusCause.eachFn State.holdLatched) :=
    (Eased.cause _).trans (Eased.eachFn Eased.holdLatched _)
  have requeued : Eased s.activated s.requeued := by
    unfold State.requeued
    exact Eased.ite (fun _ => held.trans (Eased.requeueTrip _)) (fun _ => held)
  have walked : Underway s.activated s.enterActive := by
    rw [enterActive_eq]
    exact ((Underway.start rfl).eased ((requeued.trans (Eased.raiseCauses _ _)).trans (Eased.arbitrate _))).settle.toUnderway
  have active : s.enterActive.isActive = true := walked.isActive
  refine .away (.inl (by rw [State.isActive, l]; rfl)) (fun _ => (guardLaws_active active).mpr ⟨?_, ?_⟩)
  · exact current_settle _ active
  · rw [walked.flash]
    rfl

/-- A good load gives every term of its lists a value (R11, R75). -/
theorem goodLoad_ends (s : State) (c : Setup) (lines : FieldLines) : Ends s (s.goodLoad c lines) := by
  have firsts := firsts_inert (s := s.loadedWith c) lines rfl
  have first : (((s.loadedWith c).firstInputs lines).guard, ((s.loadedWith c).firstInputs lines).setup) =
      (.loaded c.own, some c) := by
    rw [firstInputs_field]
    rfl
  simp only [Prod.mk.injEq] at first
  have guard : (s.goodLoad c lines).guard = .loaded c.own := by
    rw [goodLoad_eq, enterJoining_eq, ← first.1, ← firsts.guard]
    dsimp only [State.onPanel]
  have setup : (s.goodLoad c lines).setup = some c := by
    rw [goodLoad_eq, enterJoining_eq, ← first.2, ← firsts.setup]
    dsimp only [State.onPanel]
  have life : (s.goodLoad c lines).life = .joining := by
    rw [goodLoad_eq, enterJoining_eq]
  have idle : (s.goodLoad c lines).isActive = false := by rw [State.isActive, life]; rfl
  refine .away (.inr idle) (fun _ => (guardLaws_inactive idle (by rw [State.running, life])).mpr ⟨?_, loaded_valued setup guard⟩)
  rw [guard, loaded_cleared]

/-- The halves of the flash timer are no matter of the other results (R90). -/
theorem flashed_ends (half : Half → Half) : Ends s { s with guard := { s.guard with flash := s.guard.flash.map half } } := by
  refine ⟨fun laws => ?_, fun _ _ f _ => .start rfl rfl⟩
  by_cases a : s.isActive = true
  · obtain ⟨now, runs⟩ := (guardLaws_active a).mp laws
    refine (guardLaws_active (s := { s with guard := { s.guard with flash := s.guard.flash.map half } }) a).mpr
      ⟨?_, by simpa using runs⟩
    have same : State.guardNow { s with guard := { s.guard with flash := s.guard.flash.map half } } =
        { s.guardNow with flash := s.guard.flash.map half } := rfl
    rw [same, ← now]
  · have idle := Bool.eq_false_iff.mpr a
    have stopped : s.guard.flash = none → { s with guard := { s.guard with flash := s.guard.flash.map half } } = s := by
      intro none
      rw [none]
      show { s with guard := { s.guard with flash := Option.none } } = s
      rw [← none]
    rw [stopped]
    · exact laws
    · by_cases r : s.running = true
      · rw [((guardLaws_inactive idle r).mp laws).1]
        rfl
      · rw [(guardLaws_unloaded (Bool.eq_false_iff.mpr r)).mp laws]
        rfl

end Sys2Proof.Machine
end

section
/-! The guard results after every command (R75, R82, R86, R88), and the two statements about them. -/

namespace Sys2Proof.Machine

namespace Ends

variable {s u : State}

theorem idle : Leads (Ends s) (done s) := .done (Settles.refl s).ends

theorem settles (h : Settles s u) : Leads (Ends s) (done u) := .done h.ends

/-- A command that changes nothing the guards read. -/
theorem unseen (same : u.seen = s.seen) : Leads (Ends s) (done u) := settles (.unseen same)

/-- The loop interface is seen by its LONE only (R36). -/
theorem onLoop {g : Loop → Loop} (lone : (g s.loop).lone = s.loop.lone) : (s.onLoop g).seen = s.seen := by
  show { s.seen with loop := { Loop.atReset with lone := (g s.loop).lone } } = s.seen
  rw [lone]
  rfl

theorem queueTrip (r : TripReason) (s : State) : (s.queueTrip r).seen = s.seen := by
  unfold State.queueTrip
  split <;> rfl

theorem requeueTrip (s : State) : s.requeueTrip.seen = s.seen := by
  unfold State.requeueTrip
  split
  · exact queueTrip _ s
  · rfl

theorem queueIntent (i : IntentKind) (s : State) : (s.queueIntent i).seen = s.seen := by
  unfold State.queueIntent
  split <;> rfl

theorem statusCause (s : State) : s.statusCause.seen = s.seen := by
  rw [statusCause_eq]
  rfl

variable (s)

/-! ## The life cycle (chapter 1) -/

theorem resetCondition (c : ResetCause) : Leads (Ends s) (execResetCondition c s) :=
  .done (away (.inr rfl) (fun _ => (guardLaws_unloaded rfl).mpr rfl))

theorem leaveReset (n : StationId) (b : BrPin) : Leads (Ends s) (execLeaveReset n b s) :=
  .ite (fun l => .done (unloaded (by rw [State.running, l]) rfl rfl)) (fun _ => idle)

theorem enterConfigFault (r : FaultReport) (l : s.life = .loading) : Ends s (s.enterConfigFault r) :=
  unloaded (by rw [State.running, l]) rfl rfl

theorem headerReadComplete (b : List Byte) : Leads (Ends s) (execHeaderReadComplete b s) :=
  .ite (fun l => .ite
    (fun _ => .done (unloaded (by rw [State.running, l.1]) (by rw [State.running]; dsimp only; rw [l.1]) rfl))
    (fun _ => .done (enterConfigFault s _ l.1))) (fun _ => idle)

theorem imageReadComplete (b : List Byte) (lines : FieldLines) : Leads (Ends s) (execImageReadComplete b lines s) := by
  unfold execImageReadComplete
  split
  next l _ =>
    dsimp only
    split
    · exact .done (goodLoad_ends s _ lines)
    · exact .done (enterConfigFault s _ l)
  · exact idle

theorem configFaultAnnounceTimer : Leads (Ends s) (execConfigFaultAnnounceTimer s) :=
  .ite (fun _ => unseen (Settles.queueAnnounce false _)) (fun _ => idle)

theorem joinWindowExpiry : Leads (Ends s) (execJoinWindowExpiry s) :=
  .ite (fun l => .done (enterActive_ends l.1)) (fun _ => idle)

theorem withdrawnIdleTimeout : Leads (Ends s) (execWithdrawnIdleTimeout s) := by
  refine .ite (fun l => .done ?_) (fun _ => idle)
  rw [enterJoining_eq]
  exact waiting (by rw [State.isActive, l.1]; rfl) (by rw [State.running, l.1]) rfl rfl rfl rfl

/-! ## The line and arrivals (chapters 2, 4 and 9) -/

theorem lineBusy : Leads (Ends s) (execLineBusy s) := .ite (fun _ => unseen (onLoop rfl)) (fun _ => idle)

theorem lineIdle (n : Nat) : Leads (Ends s) (execLineIdle n s) :=
  .ite (fun _ => .ite (fun _ => unseen ((Settles.queueAnnounce false _).trans (onLoop rfl))) (fun _ => unseen (onLoop rfl)))
    (fun _ => idle)

theorem lineStuck (n : Nat) : Leads (Ends s) (execLineStuck n s) :=
  .ite (fun _ => .ite (fun _ => .done (Settles.unseen (onLoop rfl)).abort) (fun _ => unseen (onLoop rfl))) (fun _ => idle)

theorem stuckEnd (n : Nat) : Leads (Ends s) (execStuckEnd n s) := .ite (fun _ => unseen (onLoop rfl)) (fun _ => idle)

theorem frameDropped (w : Wave) : Leads (Ends s) (execFrameDropped w s) := by
  unfold execFrameDropped
  split
  · exact .ite (fun _ => unseen (onLoop rfl)) (fun _ => idle)
  · exact idle

theorem frameEnd (w : Wave) : (s.frameEnd w).seen = s.seen := onLoop rfl

theorem undeliveredGoodFrame (w : Wave) : Leads (Ends s) (execUndeliveredGoodFrame w s) := by
  unfold execUndeliveredGoodFrame
  split
  · exact .ite (fun _ => .done (Settles.unseen (frameEnd s w)).countGood) (fun _ => idle)
  · exact idle

theorem arrival (kind : FrameKind) {deliver : Frame → State → State} (w : Wave)
    (delivered : ∀ g u, Settles u (deliver g u)) : Leads (Ends s) (done (s.arrival kind deliver w)) := by
  unfold State.arrival
  split
  · exact idle
  · split
    · split
      · exact .done ((delivered _ _).after (frameEnd s w)).countGood
      · exact unseen (frameEnd s w)
    · exact idle

/-! ## Own sends and the publisher (chapters 2 and 3) -/

theorem sendStart : Leads (Ends s) (execSendStart s) :=
  .ite (fun _ => unseen (onLoop (Told.start_lone _ s.loop))) (fun _ => idle)

theorem lateStart (since free : Nat) : Leads (Ends s) (execLateStart since free s) :=
  .ite (fun _ => unseen (onLoop (Told.start_lone _ s.loop))) (fun _ => idle)

theorem idCellStart : Leads (Ends s) (execIdCellStart s) := by
  unfold execIdCellStart
  split
  · exact .ite (fun _ => .ite (fun _ => unseen rfl) (fun _ => unseen (onLoop rfl))) (fun _ => idle)
  · exact idle

theorem arbitrationLoss (j : Fin 8) : Leads (Ends s) (execArbitrationLoss j s) := by
  unfold execArbitrationLoss
  split
  · exact .ite (fun _ => unseen ((onLoop rfl).trans (statusLost_seen s))) (fun _ => idle)
  · exact idle

theorem sendAbort (c : AbortCause) : Leads (Ends s) (execSendAbort c s) := by
  unfold execSendAbort
  split
  · exact idle
  · cases c with
    | bitError => exact .ite (fun _ => .done (Settles.refl s).abort) (fun _ => idle)
    | selfDrop r => exact .ite (fun _ => .done (Settles.unseen (onLoop rfl)).abort) (fun _ => idle)
    | stuck => exact .done (Settles.unseen (onLoop rfl)).abort

theorem announceCompleted : s.announceCompleted.seen = s.seen := by
  unfold State.announceCompleted
  split
  · split <;> rfl
  · rfl
  · rfl

theorem tripCompleted : s.tripCompleted.seen = s.seen := by
  unfold State.tripCompleted
  split <;> rfl

theorem notified (m : Send) : Settles s (s.notified m) := by
  unfold State.notified
  split
  · exact .unseen rfl
  · exact .unseen (announceCompleted s)
  · exact .unseen (tripCompleted s)
  · unfold State.intentCompleted
    split
    · exact .refl s
    · extract_lets t
      exact (Settles.takeIntent _ _ t).after (t := t) rfl

variable {s} in
theorem unheardUpdate (heard : Bool) (h : Settles s u) : Settles s (u.unheardUpdate heard) := by
  unfold State.unheardUpdate
  extract_lets counted
  have same : counted.seen = u.seen := by
    unfold counted
    split
    · exact onLoop rfl
    · rfl
  have first := h.before same
  split
  · exact (first.toUnderway.eased (Eased.act (op := State.onLoop _) (.kept rfl))).loneChanged
  · exact first

theorem sendComplete (heard : Bool) : Leads (Ends s) (execSendComplete heard s) := by
  unfold execSendComplete
  split
  next m _ =>
    exact .ite (fun _ => settles (unheardUpdate heard ((notified _ m).after (onLoop rfl)))) (fun _ => idle)
  · exact idle

theorem sendWaitEnd (n : Nat) : Leads (Ends s) (execSendWaitEnd n s) := .ite (fun _ => unseen (onLoop rfl)) (fun _ => idle)

theorem changeInhibitExpiry : Leads (Ends s) (execChangeInhibitExpiry s) :=
  .ite (fun _ => .ite (fun _ => unseen rfl) (fun _ => unseen rfl)) (fun _ => idle)

theorem refreshExpiry : Leads (Ends s) (execRefreshExpiry s) := .ite (fun _ => unseen (statusCause _)) (fun _ => idle)

theorem tripRepeatExpiry : Leads (Ends s) (execTripRepeatExpiry s) :=
  .ite (fun _ => .ite (fun _ => unseen (requeueTrip _)) (fun _ => unseen rfl)) (fun _ => idle)

theorem ageExpiry (n : StationId) : Leads (Ends s) (execAgeExpiry n s) := by
  unfold execAgeExpiry
  refine .ite (fun _ => ?_) (fun _ => idle)
  split
  · exact settles ((Underway.start rfl : Underway s (s.onEntry n _)).changeNotice n)
  next e => exact settles (Settles.onEntry (by rw [Entry.shown_eq_none (e := s.image[n]) (by rw [e]; nofun)]; rfl))
  · exact idle

/-! ## Field inputs (chapter 6) -/

/-- The debounce of an input leaves its accepted level (R93). -/
theorem followInput (i : InputId) : Settles s (s.followInput i) := by
  have levels : (s.followInput i).accepted = s.accepted := by
    funext j
    unfold State.accepted State.followInput State.onField
    by_cases same : i = j
    · subst same
      simp
    · have ne : i.val ≠ j.val := fun e => same (Fin.ext e)
      simp [Vector.getElem_set_ne, ne]
  refine .silent rfl (guardNow_shown (fun n => ?_) levels rfl)
  have panel : (s.followInput i).panelRecord = s.panelRecord := by
    unfold State.panelRecord State.entryActive
    rw [levels]
    rfl
  have record : (s.followInput i).ownRecord = s.ownRecord := by
    unfold State.ownRecord
    rw [panel]
    rfl
  unfold State.entry
  rw [ownEntry_eq, ownEntry_eq, record]
  rfl

theorem inputLevelChange (i : InputId) (high : Bool) : Leads (Ends s) (execInputLevelChange i high s) :=
  .ite (fun _ => settles ((followInput _ i).after (t := s.onField _) rfl)) (fun _ => unseen rfl)

theorem debounceExpiry (i : InputId) : Leads (Ends s) (execDebounceExpiry i s) :=
  .ite (fun _ => settles ((Underway.refl s).acceptedChange i)) (fun _ => idle)

theorem discrepancyExpiry (f : FnId) (e : Dir) : Leads (Ends s) (execDiscrepancyExpiry f e s) :=
  .ite (fun _ => settles ((Underway.onFnField f _ s).eased ((Eased.refreshEnd f _).trans (Eased.takeLatched f _ _))).settle)
    (fun _ => idle)

theorem stopLoopOpening : Leads (Ends s) (execStopLoopOpening s) :=
  .ite (fun _ => .ite
    (fun _ => settles (((Underway.onField _ s).eased (Eased.act (op := State.onField _) (.kept rfl))).stationStop s))
    (fun _ => unseen rfl)) (fun _ => unseen rfl)

theorem stopLoopReadsClosed : Leads (Ends s) (execStopLoopReadsClosed s) :=
  .ite (fun _ => unseen rfl) (fun _ => unseen rfl)

/-- A change of the field inputs of the whole station, and what an opening of the gate by it does (R105, R107, R159). -/
theorem gateOpens (g : FieldInputs → FieldInputs) : Settles s (State.gateEdge s (s.act (State.onField g))).settle :=
  ((Underway.published g s).eased (Eased.gateEdge s _)).settle

theorem stopLoopClosingExpiry : Leads (Ends s) (execStopLoopClosingExpiry s) :=
  .ite (fun _ => settles (gateOpens s _)) (fun _ => idle)

theorem supplyFallsBelow19V : Leads (Ends s) (execSupplyFallsBelow19V s) :=
  .ite (fun _ => .ite (fun _ => unseen rfl) (fun _ => unseen rfl)) (fun _ => unseen rfl)

theorem supplyBackAt19V : Leads (Ends s) (execSupplyBackAt19V s) :=
  .ite (fun _ => .ite (fun _ => unseen rfl) (fun _ => unseen rfl)) (fun _ => idle)

theorem supplyRisesTo20V : Leads (Ends s) (execSupplyRisesTo20V s) :=
  .ite (fun _ => .ite (fun _ => unseen rfl) (fun _ => unseen rfl)) (fun _ => unseen rfl)

theorem supplyFallsBelow20V : Leads (Ends s) (execSupplyFallsBelow20V s) :=
  .ite (fun _ => .ite (fun _ => unseen rfl) (fun _ => unseen rfl)) (fun _ => idle)

theorem lowTimerExpiry : Leads (Ends s) (execLowTimerExpiry s) :=
  .ite (fun _ => settles ((Underway.published _ s).stationStop s))
    (fun _ => idle)

theorem recoveryTimerExpiry : Leads (Ends s) (execRecoveryTimerExpiry s) :=
  .ite (fun _ => settles (gateOpens s _)) (fun _ => idle)

/-! ## Function motion and valve drive (chapters 7 and 8) -/

theorem controlPeriod (f : FnId) (raw : Reading) : Leads (Ends s) (execControlPeriod f raw s) := by
  unfold execControlPeriod
  split
  next x _ =>
    refine .ite (fun _ => ?_) (fun _ => idle)
    extract_lets read
    have first : Underway s read := .start rfl
    have converted := (first.eased (Eased.convert f x raw read)).settle.toUnderway
    exact settles (converted.eased (Eased.driveStages f _)).settle
  · exact idle

theorem pressureConversion (raw : Reading) : Leads (Ends s) (execPressureConversion raw s) :=
  .ite (fun _ => settles ((Underway.onField _ s).eased (Eased.eachFn (Eased.takePressure _) _)).settle) (fun _ => idle)

theorem latched (f : FnId) (c : FaultCode) : Settles s (s.takeLatched f c).settle :=
  ((Underway.refl s).eased (Eased.takeLatched f c s)).settle

theorem grantWaitExpiry (f : FnId) : Leads (Ends s) (execGrantWaitExpiry f s) :=
  .ite (fun _ => settles (latched s f _)) (fun _ => idle)

theorem pressuriseTimeout (f : FnId) : Leads (Ends s) (execPressuriseTimeout f s) :=
  .ite (fun _ => settles (latched s f _)) (fun _ => idle)

theorem strokeTimeout (f : FnId) : Leads (Ends s) (execStrokeTimeout f s) :=
  .ite (fun _ => settles (latched s f _)) (fun _ => idle)

theorem stallWindowExpiry (f : FnId) : Leads (Ends s) (execStallWindowExpiry f s) :=
  .ite (fun _ => settles (latched s f _)) (fun _ => idle)

theorem seatTimerExpiry (f : FnId) : Leads (Ends s) (execSeatTimerExpiry f s) :=
  .ite (fun c => settles ((Underway.refl s).eased (Eased.endSeat (by rw [c.1]; rfl))).settle) (fun _ => idle)

theorem pullInExpiry (f : FnId) : Leads (Ends s) (execPullInExpiry f s) := .ite (fun _ => unseen rfl) (fun _ => idle)

theorem pulseTimeExpiry (g : Generator) : Leads (Ends s) (execPulseTimeExpiry g s) := by
  cases g with
  | proportional f => exact unseen rfl
  | solenoid f => exact unseen rfl

/-! ## Panels, intents and pumps (chapters 9 and 10) -/

theorem intentRefreshExpiry : Leads (Ends s) (execIntentRefreshExpiry s) := by
  unfold execIntentRefreshExpiry
  refine .ite (fun _ => ?_) (fun _ => idle)
  extract_lets stopped
  split
  · exact .ite (fun _ => unseen (queueIntent _ stopped)) (fun _ => unseen rfl)
  · exact unseen rfl

theorem intentLeaseExpiry (n : StationId) : Leads (Ends s) (execIntentLeaseExpiry n s) :=
  .ite (fun _ => settles (Settles.writeIntent n none s)) (fun _ => idle)

theorem resetWindowExpiry : Leads (Ends s) (execResetWindowExpiry s) := unseen rfl

theorem runUpExpiry (p : PumpId) : Leads (Ends s) (execRunUpExpiry p s) :=
  .ite (fun _ => settles ((Underway.refl s).eased ((Eased.pumpEnters p _ s).trans (Eased.arbitrate _))).settle) (fun _ => idle)

theorem idleTimerExpiry : Leads (Ends s) (execIdleTimerExpiry s) :=
  .ite (fun _ => settles ((Underway.start rfl : Underway s (s.onFlow _)).eased
    (((Eased.idleStop .a _).trans (Eased.idleStop .b _)).trans (Eased.arbitrate _))).settle) (fun _ => idle)

/-! ## Every command -/

theorem exec (c : Instr) : Leads (Ends s) (exec c s) := by
  cases c with
  | resetCondition r => exact resetCondition s r
  | leaveReset n b => exact leaveReset s n b
  | headerReadComplete b => exact headerReadComplete s b
  | imageReadComplete b l => exact imageReadComplete s b l
  | configFaultAnnounceTimer => exact configFaultAnnounceTimer s
  | joinWindowExpiry => exact joinWindowExpiry s
  | withdrawnIdleTimeout => exact withdrawnIdleTimeout s
  | lineBusy => exact lineBusy s
  | lineIdle n => exact lineIdle s n
  | lineStuck n => exact lineStuck s n
  | stuckEnd n => exact stuckEnd s n
  | frameDropped w => exact frameDropped s w
  | undeliveredGoodFrame w => exact undeliveredGoodFrame s w
  | statusArrival w => exact arrival s .status w Settles.statusDelivered
  | announceArrival w => exact arrival s .announce w Settles.announceDelivered
  | intentArrival w => exact arrival s .intent w Settles.intentDelivered
  | tripArrival w => exact arrival s .trip w Settles.tripDelivered
  | sendStart => exact sendStart s
  | lateStart a b => exact lateStart s a b
  | idCellStart => exact idCellStart s
  | arbitrationLoss j => exact arbitrationLoss s j
  | sendAbort a => exact sendAbort s a
  | sendComplete b => exact sendComplete s b
  | sendWaitEnd n => exact sendWaitEnd s n
  | changeInhibitExpiry => exact changeInhibitExpiry s
  | refreshExpiry => exact refreshExpiry s
  | tripRepeatExpiry => exact tripRepeatExpiry s
  | ageExpiry n => exact ageExpiry s n
  | flashTimerExpiry => exact .done (flashed_ends Half.other)
  | inputLevelChange i b => exact inputLevelChange s i b
  | debounceExpiry i => exact debounceExpiry s i
  | discrepancyExpiry f e => exact discrepancyExpiry s f e
  | controlPeriod f r => exact controlPeriod s f r
  | pressureConversion r => exact pressureConversion s r
  | stopLoopOpening => exact stopLoopOpening s
  | stopLoopReadsClosed => exact stopLoopReadsClosed s
  | stopLoopClosingExpiry => exact stopLoopClosingExpiry s
  | supplyFallsBelow19V => exact supplyFallsBelow19V s
  | supplyBackAt19V => exact supplyBackAt19V s
  | supplyRisesTo20V => exact supplyRisesTo20V s
  | supplyFallsBelow20V => exact supplyFallsBelow20V s
  | lowTimerExpiry => exact lowTimerExpiry s
  | recoveryTimerExpiry => exact recoveryTimerExpiry s
  | grantWaitExpiry f => exact grantWaitExpiry s f
  | pressuriseTimeout f => exact pressuriseTimeout s f
  | strokeTimeout f => exact strokeTimeout s f
  | stallWindowExpiry f => exact stallWindowExpiry s f
  | seatTimerExpiry f => exact seatTimerExpiry s f
  | pullInExpiry f => exact pullInExpiry s f
  | intentRefreshExpiry => exact intentRefreshExpiry s
  | intentLeaseExpiry n => exact intentLeaseExpiry s n
  | resetWindowExpiry => exact resetWindowExpiry s
  | runUpExpiry p => exact runUpExpiry s p
  | idleTimerExpiry => exact idleTimerExpiry s
  | pulseTimeExpiry g => exact pulseTimeExpiry s g

variable {s} in
theorem ofExec {c : Instr} (e : Machine.exec c s = .next u) : Ends s u := (exec s c).next (fun _ => finish) e

end Ends

/-- Settles O46: by what every command leaves of the guard results. -/
theorem guardLawsKept : Obligations.GuardLawsKept := by
  unfold Obligations.GuardLawsKept
  intro s t laws e
  unfold step at e
  split at e
  next =>
    cases e
    exact laws
  next c rest _ => exact (Ends.ofExec e).laws laws

/-! ## The lists, the results in ACTIVE, and the modes (R78, R82 to R85) -/

/-- What ACTIVE holds for a configured function is what an evaluation gives it (R82 to R86). -/
theorem GuardLaws.configured {s : State} {f : FnId} {x : FnSetup} (laws : GuardLaws s) (a : s.isActive = true)
    (conf : s.fnSetup f = some x) : (s.guard.fns[f]).mode = s.modeNow f ∧ (s.guard.fns[f]).pairTerm = s.pairValue f ∧
      (s.guard.fns[f]).blocking = s.blockingNow f x (s.modeNow f) (x.openTerms.map s.termValue) (x.closeTerms.map s.termValue) ∧
      ∀ d : Dir, (s.guard.fns[f]).permits d =
        permitsOf (x.terms d) ((x.terms d).map s.termValue) (s.guard.fns[f]).mode (s.guard.fns[f]).pairTerm := by
  rw [laws.current a, guardNow_fns]
  refine ⟨?_, ?_, ?_, fnGuardNow_permits conf⟩ <;> rw [fnGuardNow_configured conf]

/-- Settles O57: the value of a term, the permits of a list, the results that an evaluation has left, and the modes over a
command. -/
theorem termsAndPermits : Obligations.TermsAndPermits := by
  unfold Obligations.TermsAndPermits
  refine ⟨fun s t stale => termValue_stale stale, fun ts vs m pair _ => ?_, fun s f x active laws conf => ?_,
    fun c s t f e before after conf => ?_⟩
  · exact ⟨permitsOf_start_proceed ts vs m pair, permitsOf_start_iff ts vs m pair, permitsOf_proceed_iff ts vs m pair,
      permitsOf_holdCause_none_iff ts vs m pair, permitsOf_holdCause_pair_iff ts vs m pair,
      permitsOf_holdCause_term_iff ts vs m pair⟩
  · obtain ⟨mode, pairTerm, blocking, permits⟩ := laws.configured active conf
    refine ⟨permits, fun alone => ?_, fun n h paired => ?_, fun rests => ?_, fun d i rest demanded falls first => ?_,
      fun free => ?_⟩
    · rw [pairTerm, pairValue_unpaired conf alone]
    · rw [pairTerm, pairValue_paired conf paired]
    · rw [mode, modeNow_atRest ((Motion.atRest_iff _).mpr rests), intended_iff]
    · rw [blocking]
      rw [mode] at falls first
      refine blockingNow_falls x _ rest ((demands_iff conf d).mpr ?_) ((falls_now_iff ..).mpr falls)
        (fun k less below => first k less ((falls_now_iff ..).mp below))
      cases d <;> exact demanded
    · rw [blocking]
      rw [mode] at free
      rcases free with moves | none
      · exact blockingNow_moving x _ moves _ _
      · refine blockingNow_none x _ (fun d i demanded falls => none d i ?_ ((falls_now_iff ..).mp falls))
        have demanded := (demands_iff conf d).mp demanded
        cases d <;> exact demanded
  · obtain ⟨waits, goes, -⟩ := (Ends.ofExec e).modes before after f conf
    refine ⟨fun now was => ?_, fun moves none rest held => ?_⟩
    · rw [← intended_iff, (waits now).resolve_left was]
    · have claims : (s.fns[f]).motion.claims = true := by
        by_contra idle
        rcases (Motion.atRest_iff _).mp (by rw [Motion.atRest_eq, Bool.eq_false_iff.mpr idle]; rfl) with m | m | m
        exacts [none m, rest m, held m]
      refine (goes claims (Motion.claims_of_moving moves)).resolve_right (fun lost => ?_)
      rw [lost.1] at moves
      cases moves

end Sys2Proof.Machine
end

section
/-! The laws of motion and of the field inputs over an event: the drifts of the functions, which keep both by themselves. -/

namespace Sys2Proof.Machine

/-! ## The laws of one slot -/

/-- The laws of motion that a slot keeps by itself, on a station that is ACTIVE or not. -/
structure SlotLaw (active : Bool) (a : Fn × Drive) : Prop where
  off : a.1.motion.moving = false → a.2 = Drive.off
  on : a.1.motion.moving = true → a.2.phase ≠ .off
  target : a.1.target.isSome = a.1.motion.claims
  claimed : a.1.motion.claims = true → active = true
  free : a.1.motion.stoppable = true → a.1.fault.latched = false
  held : a.1.motion = .heldFault → active = true ∧ a.1.fault.latched = true
  rest : a.1.motion = .rest → active = true → a.1.fault.latched = false

theorem Motion.claims_of_stoppable {m : Motion} (h : m.stoppable = true) : m.claims = true := by
  revert h
  cases m <;> decide

/-- The laws of motion are those of each slot and, for the functions that claim or may be stopped, those of the station. -/
theorem motionLaws_iff (s : State) : MotionLaws s ↔ (∀ f, SlotLaw s.isActive (s.slot f)) ∧
    (∀ f : FnId, (s.fns[f]).motion.claims = true → s.gateOpen = true ∧ s.unit.restartHold = false) ∧
    (∀ f : FnId, (s.fns[f]).motion.stoppable = true → s.tripFree = true ∧ s.loop.lone = false) := by
  constructor
  · intro h
    refine ⟨fun f => ?_, fun f => (h f).gate, fun f stops => ?_⟩
    · have active : (s.fns[f]).motion.claims = true → s.isActive = true := by
        intro claims
        have gate := ((h f).gate claims).1
        simp only [State.gateOpen, Bool.and_eq_true] at gate
        exact gate.1.1.1
      exact ⟨(h f).off, (h f).on, (h f).target, active, fun m => ((h f).free m).2.2, (h f).held, (h f).rest⟩
    · obtain ⟨free, lone, -⟩ := (h f).free stops
      exact ⟨free, lone⟩
  · rintro ⟨own, gate, free⟩ f
    exact ⟨(own f).off, (own f).on, (own f).target, gate f,
      fun m => ⟨(free f m).1, (free f m).2, (own f).free m⟩, (own f).held, (own f).rest⟩

/-! ## One slot turns -/

/-- A slot before and after an operation that lets nothing leave REST: its laws are kept, it claims and may be stopped only
where it did and might, and it shows TRANSDUCER only where it did or its position is `away`. -/
structure Turn (active : Bool) (away : Prop) (a b : Fn × Drive) : Prop where
  law : SlotLaw active a → SlotLaw active b
  claims : b.1.motion.claims = true → a.1.motion.claims = true
  stops : b.1.motion.stoppable = true → a.1.motion.stoppable = true
  reads : b.1.fault = .transducer → a.1.fault = .transducer ∨ away

namespace Turn

variable {active : Bool} {away : Prop} {a b c : Fn × Drive}

theorem refl (a : Fn × Drive) : Turn active away a a := ⟨id, id, id, .inl⟩

theorem trans (h : Turn active away a b) (k : Turn active away b c) : Turn active away a c :=
  ⟨fun l => k.law (h.law l), fun m => h.claims (k.claims m), fun m => h.stops (k.stops m),
    fun t => (k.reads t).elim h.reads .inr⟩

/-- A change of its other data: timers, references, the release, the level. -/
theorem data (motion : b.1.motion = a.1.motion) (target : b.1.target = a.1.target) (fault : b.1.fault = a.1.fault)
    (off : a.1.motion.moving = false → b.2 = a.2) (on : a.1.motion.moving = true → a.2.phase ≠ .off → b.2.phase ≠ .off) :
    Turn active away a b := by
  refine ⟨fun l => ?_, by rw [motion]; exact id, by rw [motion]; exact id, by rw [fault]; exact .inl⟩
  refine ⟨?_, ?_, by rw [target, motion]; exact l.target, by rw [motion]; exact l.claimed, ?_, ?_, ?_⟩ <;> rw [motion]
  · exact fun still => (off still).trans (l.off still)
  · exact fun moves => on moves (l.on moves)
  · rw [fault]
    exact l.free
  · rw [fault]
    exact l.held
  · rw [fault]
    exact l.rest

/-- A function that moves goes on in another moving state, toward its target. -/
theorem moving (before : a.1.motion.moving = true) (after : b.1.motion.moving = true) (target : b.1.target = a.1.target)
    (on : a.2.phase ≠ .off → b.2.phase ≠ .off)
    (stops : b.1.motion.stoppable = true → a.1.motion.stoppable = true ∧ b.1.fault = a.1.fault)
    (reads : b.1.fault = .transducer → a.1.fault = .transducer ∨ away) : Turn active away a b := by
  have claims := Motion.claims_of_moving before
  refine ⟨fun l => ⟨fun still => ?_, fun _ => on (l.on before), ?_, fun _ => l.claimed claims, fun m => ?_, fun m => ?_, fun m => ?_⟩,
    fun _ => claims, fun m => (stops m).1, reads⟩
  · rw [after] at still
    cases still
  · rw [target, l.target, claims, Motion.claims_of_moving after]
  · rw [(stops m).2]
    exact l.free (stops m).1
  · rw [m] at after
    cases after
  · rw [m] at after
    cases after

/-- A function comes to rest: to REST with a code that is not latched, or to HELD_FAULT with one that is. -/
theorem idle (motion : b.1.motion = if b.1.fault.latched then .heldFault else .rest) (target : b.1.target = none)
    (drive : b.2 = Drive.off) (here : a.1.motion.claims = true ∨ active = true)
    (reads : b.1.fault = .transducer → a.1.fault = .transducer ∨ away) : Turn active away a b := by
  have still : b.1.motion.claims = false := by
    rw [motion]
    split <;> rfl
  refine ⟨fun l => ⟨fun _ => drive, fun m => ?_, ?_, fun m => ?_, fun m => ?_, fun m => ?_, fun m _ => ?_⟩, fun m => ?_,
    fun m => ?_, reads⟩
  · rw [Motion.claims_of_moving m] at still
    cases still
  · rw [target, still]
    rfl
  · rw [still] at m
    cases m
  · rw [Motion.claims_of_stoppable m] at still
    cases still
  · refine ⟨here.elim l.claimed id, ?_⟩
    by_contra unlatched
    rw [motion, if_neg unlatched] at m
    cases m
  · by_contra latched
    rw [motion, if_pos (Bool.eq_true_of_not_eq_false latched)] at m
    cases m
  · rw [still] at m
    cases m
  · rw [Motion.claims_of_stoppable m] at still
    cases still

/-- What holds where the laws of the slot do. -/
theorem given (h : SlotLaw active a → Turn active away a b)
    (claims : b.1.motion.claims = true → a.1.motion.claims = true)
    (stops : b.1.motion.stoppable = true → a.1.motion.stoppable = true)
    (reads : b.1.fault = .transducer → a.1.fault = .transducer ∨ away) : Turn active away a b :=
  ⟨fun l => (h l).law l, claims, stops, reads⟩

end Turn

end Sys2Proof.Machine
end

section
/-! What one function does by each operation of its controller, at its slot (R108, R111 to R114, R120 to R125). -/

namespace Sys2Proof.Machine

/-! ## Stops -/

/-- A stop with a fault code, at the slot. -/
theorem enterStopping_stops (s : State) (f : FnId) (code : FaultCode) :
    (s.enterStopping f code).slot f = stopsWith code (s.grantGone f) (s.slot f) := by
  have moved : Moved f s (s.act (State.onFn f (fun x => { x.quiet with motion := .stopping, fault := code }))) :=
    (onFn_moved f _ s).act
  have slot : (s.act (State.onFn f (fun x => { x.quiet with motion := .stopping, fault := code }))).slot f =
      ({ (s.fns[f]).quiet with motion := .stopping, fault := code }, s.drive[f]) := by
    rw [slot_act, State.slot, State.onFn_same, State.onFn_drive]
  unfold State.enterStopping stopsWith
  dsimp only
  generalize s.act (State.onFn f _) = u at moved slot ⊢
  have fn : u.fns[f] = _ := congrArg Prod.fst slot
  have drive : u.drive[f] = s.drive[f] := congrArg Prod.snd slot
  rw [drive]
  show (if (s.drive[f]).level = 0 then u.endStopping f else u).slot f = if (s.drive[f]).level = 0 then _ else _
  split
  · unfold State.endStopping
    rw [slot_act, toIdle_slot, moved.grantGone, fn]
    rfl
  · exact slot

theorem Turn.stopped {active : Bool} {away : Prop} {a : Fn × Drive} {code : FaultCode} (gone : Bool)
    (m : a.1.motion.moving = true) (reads : code = .transducer → a.1.fault = .transducer ∨ away) :
    Turn active away a (stopsWith code gone a) := by
  unfold stopsWith
  split
  · exact .idle rfl rfl rfl (.inl (Motion.claims_of_moving m)) reads
  · exact .moving m rfl rfl id nofun reads

/-- An end in REST of a function that waits or moves. -/
theorem Turn.rested {active : Bool} {away : Prop} {x : Fn} {d : Drive} (code : FaultCode) (gone : Bool)
    (c : x.motion.claims = true) (unlatched : SlotLaw active (x, d) → code.latched = false)
    (reads : code = .transducer → x.fault = .transducer ∨ away) :
    Turn active away (x, d) (x.rested code gone, Drive.off) := by
  refine .given (fun l => .idle ?_ rfl rfl (.inl c) reads) nofun nofun reads
  show Motion.rest = if code.latched = true then _ else _
  rw [unlatched l]
  rfl

/-- AWAIT_FLOW ends in REST with its code, which the laws have not latched (R114). -/
theorem Turn.waitEnds {active : Bool} {away : Prop} {x : Fn} {d : Drive} (gone : Bool) (m : x.motion = .awaitFlow) :
    Turn active away (x, d) (x.rested x.fault gone, Drive.off) :=
  .rested _ gone (by rw [m]; rfl) (fun l => l.free (by rw [m]; rfl)) .inl

/-! ## A latched fault (R125) -/

/-- What taking a latched fault does before it is handed on as a trip cause. -/
def State.faulting (f : FnId) (code : FaultCode) (s : State) : State :=
  let shown := shownFault (s.fns[f]).fault code
  let s1 := s.act (State.onFn f (fun x => { x with fault := shown }))
  match (s.fns[f]).motion with
  | .rest => if s.isActive then s1.act (State.toIdle .heldFault f) else s1
  | .awaitFlow => s1.act (State.toIdle .heldFault f)
  | .pressurise => s1.enterStopping f shown
  | .travel => s1.enterStopping f shown
  | .creep => s1.enterStopping f shown
  | _ => s1

theorem takeLatched_eq (f : FnId) (code : FaultCode) (s : State) : s.takeLatched f code =
    if code.raisesTrip then (s.faulting f code).raiseCause else s.faulting f code := by
  unfold State.takeLatched State.faulting
  cases (s.fns[f]).motion <;> rfl

theorem faulting_moved (f : FnId) (code : FaultCode) (s : State) : Moved f s (s.faulting f code) := by
  have base : Moved f s (s.act (State.onFn f (fun x => { x with fault := shownFault (s.fns[f]).fault code }))) :=
    (onFn_moved f _ s).act
  unfold State.faulting
  dsimp only
  refine base.trans ?_
  generalize s.act (State.onFn f _) = t
  cases (s.fns[f]).motion with
  | rest =>
    dsimp only
    split
    · exact (toIdle_moved _ f t).act
    · exact .refl f t
  | awaitFlow => exact (toIdle_moved _ f t).act
  | pressurise | travel | creep => exact enterStopping_moved f _ t
  | none | seat | stopping | heldFault => exact .refl f t

theorem shownFault_latched (held : FaultCode) {code : FaultCode} (l : code.latched = true) :
    (shownFault held code).latched = true := by
  unfold shownFault
  split
  next h => exact h.1
  · exact l

theorem shownFault_reads {held code : FaultCode} (h : shownFault held code = .transducer) :
    held = .transducer ∨ code = .transducer := by
  unfold shownFault at h
  split at h
  · exact .inl h
  · exact .inr h

/-- The states that a latched fault ends in HELD_FAULT at once, those that it stops by the ramp, and the rest (R125). -/
theorem Motion.fault_cases (m : Motion) (active : Bool) : (m = .awaitFlow ∨ m = .rest ∧ active = true) ∨
    (m = .pressurise ∨ m = .travel ∨ m = .creep) ∨ m.stoppable = false ∧ (m = .rest → active = false) := by
  cases m <;> cases active <;> simp [Motion.stoppable]

section
variable {s : State} {f : FnId} (code : FaultCode)

theorem faulted_held (m : (s.fns[f]).motion = .awaitFlow ∨ (s.fns[f]).motion = .rest ∧ s.isActive = true) :
    s.faulted f code = ({ (s.fns[f]).quiet with
      motion := .heldFault, target := none, fault := code
      released := if (s.fns[f]).motion.claims then s.grantGone f else (s.fns[f]).released }, Drive.off) := by
  rcases m with m | ⟨m, active⟩
  · simp only [State.faulted, m]
  · simp only [State.faulted, m, active, if_true]

theorem faulted_stops {code : FaultCode} (l : code.latched = true)
    (m : (s.fns[f]).motion = .pressurise ∨ (s.fns[f]).motion = .travel ∨ (s.fns[f]).motion = .creep) :
    s.faulted f code = stopsWith code (s.grantGone f) (s.slot f) := by
  unfold stopsWith
  rw [if_pos l]
  rcases m with m | m | m <;> simp only [State.faulted, State.slot, m, Motion.claims, if_true] <;> rfl

theorem faulted_kept (m : (s.fns[f]).motion.stoppable = false) (rest : (s.fns[f]).motion = .rest → s.isActive = false) :
    s.faulted f code = ({ s.fns[f] with fault := code }, s.drive[f]) := by
  cases e : (s.fns[f]).motion with
  | rest => simp only [State.faulted, e, rest e, Bool.false_eq_true, if_false]
  | none | seat | stopping | heldFault => simp only [State.faulted, e]
  | awaitFlow | pressurise | travel | creep => rw [e] at m; cases m

end

/-- The function after it has taken a latched fault is what R125 makes of it, with the code it shows. -/
theorem faulting_slot (s : State) (f : FnId) {code : FaultCode} (l : code.latched = true) :
    (s.faulting f code).slot f = s.faulted f (shownFault (s.fns[f]).fault code) := by
  have latched := shownFault_latched (s.fns[f]).fault l
  have moved : Moved f s (s.act (State.onFn f (fun x => { x with fault := shownFault (s.fns[f]).fault code }))) :=
    (onFn_moved f _ s).act
  have slot : (s.act (State.onFn f (fun x => { x with fault := shownFault (s.fns[f]).fault code }))).slot f =
      ({ s.fns[f] with fault := shownFault (s.fns[f]).fault code }, s.drive[f]) := by
    rw [slot_act, State.slot, State.onFn_same, State.onFn_drive]
  unfold State.faulting
  dsimp only
  generalize shownFault (s.fns[f]).fault code = shown at latched moved slot ⊢
  generalize s.act (State.onFn f _) = t at moved slot ⊢
  have held : (t.act (State.toIdle .heldFault f)).slot f = ({ (s.fns[f]).quiet with
      motion := .heldFault, target := none, fault := shown
      released := if (s.fns[f]).motion.claims then s.grantGone f else (s.fns[f]).released }, Drive.off) := by
    rw [slot_act, toIdle_slot, show t.fns[f] = _ from congrArg Prod.fst slot, moved.grantGone]
    rfl
  have stopped : (t.enterStopping f shown).slot f = stopsWith shown (s.grantGone f) (s.slot f) := by
    rw [enterStopping_stops, moved.grantGone, slot]
    rfl
  rcases (s.fns[f]).motion.fault_cases s.isActive with m | m | ⟨m, rest⟩
  · rw [faulted_held _ m, ← held]
    rcases m with m | ⟨m, active⟩ <;> rw [m]
    dsimp only
    rw [if_pos active]
  · rw [faulted_stops latched m, ← stopped]
    rcases m with m | m | m <;> rw [m]
  · rw [faulted_kept _ m rest, ← slot]
    generalize (s.fns[f]).motion = m' at m rest
    cases m' with
    | rest =>
      dsimp only
      rw [rest rfl]
      rfl
    | none | seat | stopping | heldFault => rfl
    | awaitFlow | pressurise | travel | creep => cases m

/-- A function that takes a latched fault turns by it. -/
theorem Turn.faulted {s : State} {f : FnId} {code : FaultCode} {away : Prop} (l : code.latched = true)
    (reads : code = .transducer → (s.fns[f]).fault = .transducer ∨ away) :
    Turn s.isActive away (s.slot f) (s.faulted f code) := by
  rcases (s.fns[f]).motion.fault_cases s.isActive with m | m | ⟨m, rest⟩
  · rw [faulted_held _ m]
    refine .idle (if_pos l).symm rfl rfl (m.imp (fun waits => ?_) And.right) reads
    show (s.fns[f]).motion.claims = true
    rw [waits]
    rfl
  · rw [faulted_stops l m]
    refine .stopped _ ?_ reads
    show (s.fns[f]).motion.moving = true
    rcases m with m | m | m <;> rw [m] <;> rfl
  · rw [faulted_kept _ m rest]
    refine ⟨fun h => ⟨h.off, h.on, h.target, h.claimed, fun stops => ?_, fun held => ⟨(h.held held).1, l⟩, fun rests active => ?_⟩,
      id, id, reads⟩
    · cases m.symm.trans stops
    · cases (rest rests).symm.trans active

/-! ## An immediate stop (R123) -/

/-- A function after an immediate stop, in ACTIVE or not. -/
def Fn.stoppedNow (active gone : Bool) (x : Fn) (d : Drive) : Fn × Drive :=
  if x.motion.moving then
    ({ x.rested (if x.fault.latched then x.fault else .stopped) gone with
        motion := if x.fault.latched && active then .heldFault else .rest }, Drive.off)
  else if x.motion = .awaitFlow then (x.rested x.fault gone, Drive.off)
  else (x, d)

theorem immediateStop_slot (s : State) (f : FnId) :
    (s.immediateStop f).slot f = (s.fns[f]).stoppedNow s.isActive (s.grantGone f) (s.drive[f]) := by
  unfold State.immediateStop Fn.stoppedNow
  dsimp only
  split
  next moves =>
    have latched : (if (s.fns[f]).fault.latched = true then (s.fns[f]).fault else FaultCode.stopped).latched =
        (s.fns[f]).fault.latched := by
      split
      · rfl
      next l => exact (Bool.eq_false_iff.mpr l).symm
    rw [latched]
    generalize (if (s.fns[f]).fault.latched = true then (s.fns[f]).fault else FaultCode.stopped) = code
    have slot : (s.act (fun t => (t.toIdle .rest f).onFn f (fun y => { y with fault := code }))).slot f =
        ((s.fns[f]).rested code (s.grantGone f), Drive.off) := by
      rw [slot_act, State.slot, State.onFn_same, State.onFn_drive]
      have idle := toIdle_slot .rest f s
      rw [if_pos (Motion.claims_of_moving moves)] at idle
      rw [show (s.toIdle .rest f).fns[f] = _ from congrArg Prod.fst idle,
        show (s.toIdle .rest f).drive[f] = _ from congrArg Prod.snd idle]
      rfl
    have active : (s.act (fun t => (t.toIdle .rest f).onFn f (fun y => { y with fault := code }))).isActive = s.isActive := by
      rw [act_isActive]
      rfl
    rw [active]
    generalize s.act (fun t => _) = u at slot
    split
    · rw [slot_act, State.slot, State.onFn_same, State.onFn_drive, show u.fns[f] = _ from congrArg Prod.fst slot,
        show u.drive[f] = _ from congrArg Prod.snd slot]
    · exact slot
  next still =>
    split
    next waits => exact toIdle_withdraws (by rw [waits]; rfl)
    · rfl

theorem Turn.stoppedNow {active : Bool} {away : Prop} (gone : Bool) (x : Fn) (d : Drive) :
    Turn active away (x, d) (x.stoppedNow active gone d) := by
  have reads : (if x.fault.latched = true then x.fault else .stopped) = .transducer → x.fault = .transducer ∨ away := by
    split
    · exact .inl
    · exact nofun
  unfold Fn.stoppedNow
  split
  next moves =>
    have claims := Motion.claims_of_moving moves
    refine .given (fun l => .idle ?_ rfl rfl (.inl claims) reads) (fun _ => claims) (fun m => ?_) reads
    · show (if (x.fault.latched && active) = true then Motion.heldFault else .rest) =
        if (if x.fault.latched = true then x.fault else FaultCode.stopped).latched = true then .heldFault else .rest
      rw [l.claimed claims, Bool.and_true]
      cases e : x.fault.latched
      · rfl
      · simp [e]
    · revert m
      show (if (x.fault.latched && active) = true then Motion.heldFault else .rest).stoppable = true → _
      split <;> exact nofun
  next =>
    split
    next waits => exact .waitEnds gone waits
    · exact .refl _

theorem Fn.stoppedNow_claims (active gone : Bool) (x : Fn) (d : Drive) :
    (x.stoppedNow active gone d).1.motion.claims = false := by
  unfold Fn.stoppedNow
  split
  · dsimp only
    split <;> rfl
  next still =>
    split
    · rfl
    next waits =>
      rw [Bool.eq_false_iff]
      exact fun claims => (Motion.moving_or_waits claims).elim waits still

/-! ## A C_STOP or LONE (R114, R120) -/

/-- A function after a C_STOP or LONE. -/
def haltsWith (gone : Bool) (a : Fn × Drive) : Fn × Drive :=
  match a.1.motion with
  | .awaitFlow => (a.1.rested a.1.fault gone, Drive.off)
  | .pressurise => stopsWith .stopped gone a
  | .travel => stopsWith .stopped gone a
  | .creep => stopsWith .stopped gone a
  | _ => a

theorem halt_slot (s : State) (f : FnId) : (s.halt f).slot f = haltsWith (s.grantGone f) (s.slot f) := by
  have stopped := enterStopping_stops s f .stopped
  unfold State.halt haltsWith
  rw [show (s.slot f).1 = s.fns[f] from rfl]
  generalize e : (s.fns[f]).motion = m
  cases m with
  | awaitFlow => exact toIdle_withdraws (by rw [e]; rfl)
  | pressurise | travel | creep => exact stopped
  | none | rest | seat | stopping | heldFault => rfl

theorem Turn.halted {active : Bool} {away : Prop} (gone : Bool) (a : Fn × Drive) : Turn active away a (haltsWith gone a) := by
  unfold haltsWith
  generalize e : a.1.motion = m
  cases m with
  | awaitFlow => exact .waitEnds gone e
  | pressurise | travel | creep => exact .stopped gone (by rw [e]; rfl) nofun
  | none | rest | seat | stopping | heldFault => exact .refl a

theorem haltsWith_stoppable (gone : Bool) (a : Fn × Drive) : (haltsWith gone a).1.motion.stoppable = false := by
  have stopped : (stopsWith .stopped gone a).1.motion.stoppable = false := by
    unfold stopsWith
    split <;> rfl
  unfold haltsWith
  generalize e : a.1.motion = m
  cases m with
  | awaitFlow => rfl
  | pressurise | travel | creep => exact stopped
  | none | rest | seat | stopping | heldFault => rw [e]; rfl

end Sys2Proof.Machine
end

section
/-! The functions drift between two events: every operation but a start keeps the laws of each slot, opens no claim, and leaves
the field inputs as they are (R104, R107, R108, R110 to R114, R120 to R125). -/

namespace Sys2Proof.Machine

/-- An operation by which no function leaves REST and no field input changes: the gate closes only where nothing claims after it,
and a trip or LONE comes only where nothing is left to stop. -/
structure Drift (s t : State) : Prop where
  same : (t.life, t.setup, t.field) = (s.life, s.setup, s.field)
  turns : ∀ f : FnId, Turn s.isActive ((s.field.fns[f]).position = Config.noPosition) (s.slot f) (t.slot f)
  gate : ∀ f : FnId, (t.fns[f]).motion.claims = true → s.gateOpen = true → t.gateOpen = true
  hold : s.unit.restartHold = false → t.unit.restartHold = false
  trips : ∀ f : FnId, (t.fns[f]).motion.stoppable = true → s.tripFree = true → t.tripFree = true
  lone : ∀ f : FnId, (t.fns[f]).motion.stoppable = true → s.loop.lone = false → t.loop.lone = false

theorem gateOpen_congr {s t : State} (same : (t.life, t.field, t.unit.trips) = (s.life, s.field, s.unit.trips)) :
    t.gateOpen = s.gateOpen := by
  simp only [Prod.mk.injEq] at same
  obtain ⟨life, field, trips⟩ := same
  unfold State.gateOpen State.isActive State.eStopHeld IntentTrip.classes
  rw [life, field, trips]

theorem tripFree_congr {s t : State} (same : t.unit.trips = s.unit.trips) : t.tripFree = s.tripFree := by
  unfold State.tripFree IntentTrip.classes
  rw [same]

namespace Drift

variable {s t u : State}

/-! ## How drifts compose -/

/-- What the laws of motion take their bearings from, beside the slots. -/
def ground (s : State) : Life × Option Setup × FieldInputs × Vector (Option StopClass) 16 × Bool × Bool :=
  (s.life, s.setup, s.field, s.unit.trips, s.unit.restartHold, s.loop.lone)

theorem of_ground (same : ground t = ground s)
    (turns : ∀ f : FnId, Turn s.isActive ((s.field.fns[f]).position = Config.noPosition) (s.slot f) (t.slot f)) :
    Drift s t := by
  simp only [ground, Prod.mk.injEq] at same
  obtain ⟨life, setup, field, trips, hold, lone⟩ := same
  refine ⟨by rw [life, setup, field], turns, fun _ _ open_ => ?_, by rw [hold]; exact id, fun _ _ free => ?_,
    by rw [lone]; exact fun _ _ => id⟩
  · exact (gateOpen_congr (by rw [life, field, trips])).trans open_
  · exact (tripFree_congr trips).trans free

theorem isActive (h : Drift s t) : t.isActive = s.isActive := by
  have life : t.life = s.life := congrArg Prod.fst h.same
  rw [State.isActive, State.isActive, life]

theorem field (h : Drift s t) : t.field = s.field := congrArg (fun p => p.2.2) h.same

theorem setup (h : Drift s t) : t.setup = s.setup := congrArg (fun p => p.2.1) h.same

/-- A change of what is neither a slot nor ground. -/
theorem kept (same : (ground t, t.fns, t.drive) = (ground s, s.fns, s.drive)) : Drift s t := by
  simp only [Prod.mk.injEq] at same
  obtain ⟨ground, fns, drive⟩ := same
  refine of_ground ground (fun f => ?_)
  rw [State.slot, State.slot, fns, drive]
  exact .refl _

theorem refl (s : State) : Drift s s := kept rfl

theorem trans (h : Drift s t) (k : Drift t u) : Drift s u := by
  have turns := k.turns
  rw [h.isActive, h.field] at turns
  exact ⟨k.same.trans h.same, fun f => (h.turns f).trans (turns f),
    fun f claims open_ => k.gate f claims (h.gate f ((turns f).claims claims) open_), fun free => k.hold (h.hold free),
    fun f stops free => k.trips f stops (h.trips f ((turns f).stops stops) free),
    fun f stops paired => k.lone f stops (h.lone f ((turns f).stops stops) paired)⟩

theorem cause (s : State) : Drift s s.statusCause := kept (by rw [statusCause_eq]; rfl)

/-- The publisher's examination is no matter of the functions. -/
theorem act {op : State → State} (h : Drift s (op s)) : Drift s (s.act op) := by
  unfold State.act
  dsimp only
  split
  · exact h.trans (cause _)
  · exact h

theorem ite {c : Prop} [Decidable c] (a : c → Drift s t) (b : ¬c → Drift s u) : Drift s (if c then t else u) := by
  split
  next h => exact a h
  next h => exact b h

theorem eachFn {op : FnId → State → State} (h : ∀ f s, Drift s (op f s)) (s : State) : Drift s (s.eachFn op) :=
  (((h 0 s).trans (h 1 _)).trans (h 2 _)).trans (h 3 _)

theorem foldl {α : Type} {op : α → State → State} (h : ∀ a s, Drift s (op a s)) (as : List α) :
    ∀ s : State, Drift s (as.foldl (fun t a => op a t) s) := by
  induction as with
  | nil => exact refl
  | cons a as ih => exact fun s => (h a s).trans (ih _)

/-- An operation on one function. -/
theorem one {f : FnId} (h : Moved f s t)
    (own : Turn s.isActive ((s.field.fns[f]).position = Config.noPosition) (s.slot f) (t.slot f)) : Drift s t := by
  refine of_ground (by rw [h.rest]; rfl) (fun g => ?_)
  by_cases same : f = g
  · subst same
    exact own
  · obtain ⟨fn, drive⟩ := h.others g same
    rw [State.slot, State.slot, fn, drive]
    exact .refl _

/-- A change of a controller that leaves its state, its target and its code. -/
theorem timers {f : FnId} {g : Fn → Fn}
    (same : ((g s.fns[f]).motion, (g s.fns[f]).target, (g s.fns[f]).fault) =
      ((s.fns[f]).motion, (s.fns[f]).target, (s.fns[f]).fault)) : Drift s (s.onFn f g) := by
  simp only [Prod.mk.injEq] at same
  obtain ⟨motion, target, fault⟩ := same
  refine one (onFn_moved f g s) ?_
  rw [State.slot, State.slot, State.onFn_same, State.onFn_drive]
  exact .data motion target fault (fun _ => rfl) (fun _ => id)

/-! ## One function moves -/

theorem enterStopping {f : FnId} {code : FaultCode} (m : (s.fns[f]).motion.moving = true)
    (reads : code ≠ .transducer ∨ code = (s.fns[f]).fault) : Drift s (s.enterStopping f code) := by
  refine one (enterStopping_moved f code s) ?_
  rw [enterStopping_stops]
  exact .stopped _ m (fun t => .inl (reads.elim (absurd t) (fun e => e.symm.trans t)))

/-- A function in AWAIT_FLOW returns to REST. -/
theorem waitEnds {f : FnId} (m : (s.fns[f]).motion = .awaitFlow) : Drift s (s.act (State.toIdle .rest f)) := by
  refine one (toIdle_moved _ f s).act ?_
  rw [toIdle_withdraws (by rw [m]; rfl)]
  exact .waitEnds _ m

theorem immediateStop (f : FnId) (s : State) : Drift s (s.immediateStop f) := by
  refine one (immediateStop_moved f s) ?_
  rw [immediateStop_slot]
  exact .stoppedNow _ _ _

theorem halt (f : FnId) (s : State) : Drift s (s.halt f) := by
  refine one (halt_moved f s) ?_
  rw [halt_slot]
  exact .halted _ _

theorem enterPressurise {f : FnId} (m : (s.fns[f]).motion = .awaitFlow) : Drift s (s.enterPressurise f) := by
  refine one (enterPressurise_moved f s) ?_
  rw [enterPressurise_slot]
  have claims : (s.fns[f]).motion.claims = true := by rw [m]; rfl
  have stops : (s.fns[f]).motion.stoppable = true := by rw [m]; rfl
  exact ⟨fun l => ⟨nofun, fun _ => nofun, l.target.trans claims, fun _ => l.claimed claims, fun _ => l.free stops, nofun, nofun⟩,
    fun _ => claims, fun _ => stops, .inl⟩

/-- Entry to TRAVEL, or to CREEP within the creep zone. -/
theorem enterTravel_slot (s : State) (f : FnId) : ∃ y : Fn, (s.enterTravel f).slot f = (y, s.drive[f]) ∧
    (y.motion = .travel ∨ y.motion = .creep) ∧ y.target = (s.fns[f]).target ∧ y.fault = (s.fns[f]).fault := by
  unfold State.enterTravel
  dsimp only
  refine ⟨_, by rw [slot_act, State.slot, State.onFn_same, State.onFn_drive], ?_⟩
  split
  · refine ⟨?_, rfl, rfl⟩
    dsimp only
    split
    · exact .inr rfl
    · exact .inl rfl
  · exact ⟨.inl rfl, rfl, rfl⟩

theorem enterTravel {f : FnId} (m : (s.fns[f]).motion = .pressurise) : Drift s (s.enterTravel f) := by
  obtain ⟨y, slot, motion, target, fault⟩ := enterTravel_slot s f
  have stops : (s.fns[f]).motion.stoppable = true := by rw [m]; rfl
  refine one (enterTravel_moved f s) ?_
  rw [slot]
  refine .moving (by rw [State.slot, m]; rfl) ?_ target id (fun _ => ⟨stops, fault⟩) (fun t => .inl (fault ▸ t))
  rcases motion with e | e <;> rw [e] <;> rfl

theorem endSeat {f : FnId} (m : (s.fns[f]).motion = .seat) : Drift s (s.endSeat f) := by
  refine ite (fun _ => enterStopping (by rw [m]; rfl) (.inr rfl)) (fun unlatched => ?_)
  refine one (toIdle_moved _ f s).act ?_
  rw [toIdle_withdraws (by rw [m]; rfl)]
  exact .rested _ _ (by rw [m]; rfl) (fun _ => Bool.eq_false_iff.mpr unlatched) .inl

theorem enterSeat {f : FnId} (m : (s.fns[f]).motion = .travel ∨ (s.fns[f]).motion = .creep) : Drift s (s.enterSeat f) := by
  have first : Drift s (s.act (State.onFn f (fun x => { x.quiet with motion := .seat, seat := some (s.profile f).seatTime }))) := by
    refine one (onFn_moved f _ s).act ?_
    rw [slot_act, State.slot, State.slot, State.onFn_same, State.onFn_drive]
    exact .moving (by rcases m with m | m <;> rw [m] <;> rfl) rfl rfl id nofun .inl
  refine ite (fun _ => first.trans (endSeat ?_)) (fun _ => first)
  rw [act_fns, State.onFn_same]

theorem permitStop {f : FnId} {d : Dir} (m : (s.fns[f]).motion.moving = true) (e : s.permitStop f d = some t) : Drift s t := by
  unfold State.permitStop at e
  dsimp only at e
  split at e
  · cases e
  · cases e
    refine enterStopping m (.inl ?_)
    rw [Permits.lossCode_eq]
    split <;> exact nofun

theorem demandStop {f : FnId} {d : Dir} (m : (s.fns[f]).motion = .pressurise ∨ (s.fns[f]).motion = .travel ∨
    (s.fns[f]).motion = .creep) (e : s.demandStop f d = some t) : Drift s t := by
  unfold State.demandStop at e
  split at e
  · cases e
  · split at e
    next c =>
      cases e
      rw [Bool.and_eq_true, bne_iff_ne] at c
      exact enterSeat (m.resolve_left c.2)
    · cases e
      exact enterStopping (by rcases m with m | m | m <;> rw [m] <;> rfl) (.inr rfl)

theorem stopFor {f : FnId} {d : Dir} (m : (s.fns[f]).motion = .pressurise ∨ (s.fns[f]).motion = .travel ∨
    (s.fns[f]).motion = .creep) (e : s.stopFor f d = some t) : Drift s t := by
  have moves : (s.fns[f]).motion.moving = true := by rcases m with m | m | m <;> rw [m] <;> rfl
  unfold State.stopFor at e
  split at e <;> rcases Option.or_eq_some_iff.mp e with e | ⟨_, e⟩
  · exact permitStop moves e
  · exact demandStop m e
  · exact demandStop m e
  · exact permitStop moves e

/-- What a controller does about its permits and its demand is a drift, but for leaving REST. -/
theorem react {f : FnId} (e : s.react f = some t) : Drift s t ∨ ∃ d : Dir, s.mayLeave f d = true ∧ t = s.leaveRest f d := by
  unfold State.react at e
  split at e
  · split at e
    next may => cases e; exact .inr ⟨_, may, rfl⟩
    · split at e
      next may => cases e; exact .inr ⟨_, may, rfl⟩
      · cases e
  next d m _ =>
    split at e
    · cases e
    · cases e
      exact .inl (waitEnds m)
  next m _ => exact .inl (stopFor (.inl m) e)
  next m _ => exact .inl (stopFor (.inr (.inl m)) e)
  next m _ => exact .inl (stopFor (.inr (.inr m)) e)
  · cases e

/-- A release test finds the grant held or gone (R111). -/
theorem releaseAt (f : FnId) (s : State) : Drift s (s.releaseAt f) :=
  ite (fun _ => ite (fun _ => timers rfl) (fun _ => ite (fun _ => timers rfl) (fun _ => refl s))) (fun _ => refl s)

theorem pumpNoticeAt (f : FnId) (s : State) : Drift s (s.pumpNoticeAt f) := by
  have stops (m : (s.fns[f]).motion.moving = true) : Drift s (if s.holdsGrant f then s else s.enterStopping f .grantLost) :=
    ite (fun _ => refl s) (fun _ => enterStopping m (.inl nofun))
  unfold State.pumpNoticeAt
  split
  next m => exact ite (fun _ => enterPressurise m) (fun _ => refl s)
  next m => exact stops (by rw [m]; rfl)
  next m => exact stops (by rw [m]; rfl)
  next m => exact stops (by rw [m]; rfl)
  · exact refl s

/-- A latched fault, before it is handed on as a trip cause (R125). -/
theorem faulting {f : FnId} {code : FaultCode} (l : code.latched = true)
    (reads : code = .transducer → (s.field.fns[f]).position = Config.noPosition) : Drift s (s.faulting f code) := by
  refine one (faulting_moved f code s) ?_
  rw [faulting_slot s f l]
  exact .faulted (shownFault_latched _ l) (fun t => (shownFault_reads t).imp_right reads)

theorem evaluate (s : State) : Drift s s.evaluate := ite (fun _ => act (kept rfl)) (fun _ => refl s)

/-! ## Every function stops (R104, R107, R114, R120, R123) -/

/-- After an immediate stop of the station nothing claims. -/
theorem stopNow_slot (s : State) (f : FnId) : s.stopNow.slot f = ((s.fns[f]).stoppedNow s.isActive (s.grantGone f) s.drive[f] |>.1,
    Drive.off) := by
  have stopped : (s.eachFn State.immediateStop).slot f = (s.fns[f]).stoppedNow s.isActive (s.grantGone f) s.drive[f] := by
    refine eachFn_at (op := State.immediateStop) (view := State.slot) (I := fun t => t.isActive = s.isActive ∧
        ∀ g, t.grantGone g = s.grantGone g) (R := fun f a b => b = a.1.stoppedNow s.isActive (s.grantGone f) a.2)
      (fun g t i => ⟨(immediateStop g t).isActive.trans i.1,
        fun h => ((immediateStop_moved g t).grantGone h).trans (i.2 h)⟩)
      (fun g t i => by rw [immediateStop_slot, i.1, i.2]; rfl) (fun g h t _ ne => ?_) ⟨rfl, fun _ => rfl⟩ f
    obtain ⟨fn, drive⟩ := (immediateStop_moved g t).others h ne
    rw [State.slot, fn, drive]
    rfl
  refine Prod.ext (congrArg Prod.fst stopped :) ?_
  show (Vector.replicate 4 Drive.off)[f] = Drive.off
  simp

theorem stopNow_claims (s : State) (f : FnId) : (s.stopNow.fns[f]).motion.claims = false :=
  (congrArg (fun a : Fn × Drive => a.1.motion.claims) (stopNow_slot s f)).trans (Fn.stoppedNow_claims ..)

/-- Where nothing claims, every output is off by the laws already (R112). -/
theorem outputs_off (still : ∀ f : FnId, (s.fns[f]).motion.claims = false) :
    Drift s { s with drive := Vector.replicate 4 Drive.off } := by
  refine of_ground rfl (fun f => .given (fun l => .data rfl rfl rfl (fun m => ?_) (fun m => ?_)) id id .inl)
  · refine Eq.trans ?_ (l.off m).symm
    show (Vector.replicate 4 Drive.off)[f] = Drive.off
    simp
  · cases (still f).symm.trans (Motion.claims_of_moving m)

theorem stopNow (s : State) : Drift s s.stopNow := by
  have still := stopNow_claims s
  unfold State.stopNow at still ⊢
  dsimp only at still ⊢
  exact (eachFn immediateStop s).trans (outputs_off still)

theorem halts_slot (s : State) (f : FnId) : (s.eachFn State.halt).slot f = haltsWith (s.grantGone f) (s.slot f) := by
  refine eachFn_at (op := State.halt) (view := State.slot) (I := fun t => ∀ g, t.grantGone g = s.grantGone g)
    (R := fun f a b => b = haltsWith (s.grantGone f) a) (fun g t i h => ((halt_moved g t).grantGone h).trans (i h))
    (fun g t i => by rw [halt_slot, i]) (fun g h t _ ne => ?_) (fun _ => rfl) f
  obtain ⟨fn, drive⟩ := (halt_moved g t).others h ne
  rw [State.slot, fn, drive]
  rfl

theorem halts_stoppable (s : State) (f : FnId) : ((s.eachFn State.halt).fns[f]).motion.stoppable = false :=
  (congrArg (fun a : Fn × Drive => a.1.motion.stoppable) (halts_slot s f)).trans (haltsWith_stoppable ..)

/-! ## The flow arbiter, notices and requests -/

theorem arbitrate (s : State) : Drift s s.arbitrate := ite (fun _ => act (kept rfl)) (fun _ => refl s)

theorem pumpEnters (p : PumpId) (m : PumpState) (s : State) : Drift s (s.pumpEnters p m) := act (kept rfl)

theorem pumpGateStop (p : PumpId) (s : State) : Drift s (s.pumpGateStop p) :=
  ite (fun _ => pumpEnters p _ s) (fun _ => refl s)

theorem gateEdge (old s : State) : Drift s (State.gateEdge old s) :=
  ite (fun _ => ite (fun _ => ((pumpGateStop .a s).trans (pumpGateStop .b _)).trans (arbitrate _))
    (fun _ => ite (fun _ => arbitrate s) (fun _ => refl s))) (fun _ => refl s)

theorem pumpReset (p : PumpId) (s : State) : Drift s (s.pumpReset p) := ite (fun _ => pumpEnters p _ s) (fun _ => refl s)

theorem idleStop (p : PumpId) (s : State) : Drift s (s.idleStop p) := ite (fun _ => pumpEnters p _ s) (fun _ => refl s)

theorem pumpInputAt (i : InputId) (p : PumpId) (s : State) : Drift s (s.pumpInputAt i p) :=
  ite (fun _ => pumpEnters p _ s) (fun _ => refl s)

theorem pumpInput (i : InputId) (s : State) : Drift s (s.pumpInput i) := by
  have both := (pumpInputAt i .a s).trans (pumpInputAt i .b _)
  exact ite (fun _ => ite (fun _ => both.trans (arbitrate _)) (fun _ => both)) (fun _ => refl s)

theorem releaseNotice (n : StationId) (s : State) : Drift s (s.releaseNotice n) :=
  ite (fun _ => eachFn releaseAt s) (fun _ => refl s)

theorem pumpNotice (n : StationId) (s : State) : Drift s (s.pumpNotice n) :=
  ite (fun _ => foldl (op := fun f t => t.pumpNoticeAt f) pumpNoticeAt _ s) (fun _ => refl s)

theorem claimNotice (n : StationId) (s : State) : Drift s (s.claimNotice n) := ite (fun _ => arbitrate s) (fun _ => refl s)

theorem queueTrip (r : TripReason) (s : State) : Drift s (s.queueTrip r) := ite (fun _ => kept rfl) (fun _ => refl s)

theorem queueIntent (i : IntentKind) (s : State) : Drift s (s.queueIntent i) := ite (fun _ => kept rfl) (fun _ => refl s)

theorem queueAnnounce (ask : Bool) (s : State) : Drift s (s.queueAnnounce ask) := ite (fun _ => kept rfl) (fun _ => refl s)

theorem requeueTrip (s : State) : Drift s s.requeueTrip := by
  unfold State.requeueTrip
  split
  · exact queueTrip _ s
  · exact refl s

theorem panelInput (i : InputId) (s : State) : Drift s (s.panelInput i) := by
  have rearmed : Drift s (s.rearmed i) := kept rfl
  have selected : Drift s (s.rearmed i).select := rearmed.trans (act (kept rfl))
  have pressed : ∀ t : State, Drift t (t.pressReset i) := fun t => ite (fun _ => queueIntent _ t) (fun _ => refl t)
  have held : ∀ (t : State) (g : Panel → Panel), Drift t (t.onPanel g) := fun _ _ => kept rfl
  have formed : ∀ t : State, Drift t t.formHeld := fun t =>
    ite (fun _ => refl t) (fun _ => (held t _).trans (queueIntent _ _))
  exact ite (fun _ => (selected.trans (pressed _)).trans (formed _)) (fun _ => refl s)

/-! ## Trips, RESTART_HOLD and LONE -/

/-- Entries leave the trip list, or RESTART_HOLD ends. -/
theorem eased (same : (t.life, t.setup, t.field, t.fns, t.drive, t.loop.lone) =
      (s.life, s.setup, s.field, s.fns, s.drive, s.loop.lone)) (hold : s.unit.restartHold = false → t.unit.restartHold = false)
    (fewer : ∀ (n : StationId) (c : StopClass), t.unit.trips[n] = some c → s.unit.trips[n] = some c) : Drift s t := by
  simp only [Prod.mk.injEq] at same
  obtain ⟨life, setup, field, fns, drive, lone⟩ := same
  refine ⟨by rw [life, setup, field], fun f => ?_, fun _ _ open_ => ?_, hold, fun _ _ free => ?_, by rw [lone]; exact fun _ _ => id⟩
  · rw [State.slot, State.slot, fns, drive]
    exact .refl _
  · rw [gateOpen_iff] at open_ ⊢
    rw [life, field]
    obtain ⟨active, loop, supply, free⟩ := open_
    exact ⟨active, loop, supply, fun n held => free n (fewer n _ held)⟩
  · rw [tripFree_iff] at free ⊢
    exact fun n => Option.eq_none_iff_forall_ne_some.mpr (fun c held => by cases (free n).symm.trans (fewer n c held))

theorem removeTrip (n : StationId) (s : State) : Drift s (s.removeTrip n) := by
  refine ite (fun _ => eased rfl id (fun m c held => ?_)) (fun _ => refl s)
  by_cases same : n = m
  · subst same
    simp at held
  · rw [← held]
    exact (Vector.getElem_set_ne n.isLt m.isLt (fun e => same (Fin.ext e))).symm

theorem removeTrips (ns : List StationId) (s : State) : Drift s (s.removeTrips ns) :=
  (foldl (op := fun n t => t.removeTrip n) removeTrip ns s).trans (gateEdge s _)

theorem resetFlags (s : State) : Drift s s.resetFlags := by
  have hold : Drift s (s.act (State.onUnit (fun u => { u with restartHold := false }))) :=
    act (eased rfl (fun _ => rfl) (fun _ _ => id))
  exact ite (fun _ => ite (fun _ => hold.trans (act (kept rfl))) (fun _ => hold)) (fun _ => refl s)

end Drift

end Sys2Proof.Machine
end

section
/-! The ends of a function at an accepted change of an input (R95 to R99, R124). -/

namespace Sys2Proof.Machine

/-! ## An operation on the ends of one function -/

/-- Functions and what the field inputs hold for them may change, and a STATUS may be asked for. -/
structure AtEnds (s t : State) : Prop where
  rest : t = { s with
    fns := t.fns, field := { s.field with fns := t.field.fns }
    loop := { s.loop with status := t.loop.status }, pub := { s.pub with deferred := t.pub.deferred } }
  asked : Asked s t

/-- Those of one function. -/
structure AtEnd (f : FnId) (s t : State) : Prop extends AtEnds s t where
  others : ∀ h : FnId, f ≠ h → t.fns[h] = s.fns[h] ∧ t.field.fns[h] = s.field.fns[h]

section
variable {f : FnId} {s t u : State}

theorem AtEnds.refl (s : State) : AtEnds s s := ⟨rfl, .refl s⟩

theorem AtEnds.trans (h : AtEnds s t) (k : AtEnds t u) : AtEnds s u := by
  refine ⟨?_, h.asked.trans k.asked⟩
  have e := h.rest
  have e' := k.rest
  generalize t.fns = a, t.field.fns = b, t.loop.status = x, t.pub.deferred = y at e
  subst e
  generalize u.fns = a', u.field.fns = b', u.loop.status = x', u.pub.deferred = y' at e'
  subst e'
  rfl

theorem AtEnd.refl (f : FnId) (s : State) : AtEnd f s s := ⟨.refl s, fun _ _ => ⟨rfl, rfl⟩⟩

theorem AtEnd.trans (h : AtEnd f s t) (k : AtEnd f t u) : AtEnd f s u :=
  ⟨h.toAtEnds.trans k.toAtEnds, fun g ne => ⟨(k.others g ne).1.trans (h.others g ne).1, (k.others g ne).2.trans (h.others g ne).2⟩⟩

theorem AtEnd.act {op : State → State} (h : AtEnd f s (op s)) : AtEnd f s (s.act op) := by
  refine ⟨⟨?_, h.asked.trans (act_asked op s)⟩, fun g ne => by rw [act_fns, act_field]; exact h.others g ne⟩
  have e := act_eq op s
  have e' := h.rest
  generalize s.act op = v at e ⊢
  generalize v.loop.status = x, v.pub.deferred = y at e ⊢
  generalize (op s).fns = a, (op s).field.fns = b, (op s).loop.status = x', (op s).pub.deferred = y' at e'
  rw [e'] at e
  subst e
  rfl

theorem onInputs_ended (f : FnId) (g : FnField → FnField) (k : Fn → Fn) (s : State) :
    AtEnd f s ((s.onFnField f g).onFn f k) :=
  ⟨⟨rfl, .inl rfl, id⟩, fun _ ne => ⟨State.onFn_other _ _ ne, State.onFnField_other _ _ ne⟩⟩

theorem onFnField_ended (f : FnId) (g : FnField → FnField) (s : State) : AtEnd f s (s.onFnField f g) :=
  ⟨⟨rfl, .inl rfl, id⟩, fun _ ne => ⟨rfl, State.onFnField_other _ _ ne⟩⟩

theorem refreshEnd_ended (f : FnId) (s : State) : AtEnd f s (s.refreshEnd f) := by
  unfold State.refreshEnd
  dsimp only
  split
  · exact .refl f s
  · exact (onInputs_ended f _ _ s).act

/-- What a function becomes when its end state is derived again (R98, R99). -/
def Fn.refreshed (old new : EndState) (x : Fn) : Fn := if new = old then x else x.endChanged old new

theorem refreshEnd_at (s : State) (f : FnId) :
    (s.refreshEnd f).fns[f] = (s.fns[f]).refreshed (s.field.fns[f]).endState (s.endStateNow f) ∧
    (s.refreshEnd f).field.fns[f] = { s.field.fns[f] with endState := s.endStateNow f } := by
  by_cases e : s.endStateNow f = (s.field.fns[f]).endState
  · rw [show s.refreshEnd f = s from if_pos e, Fn.refreshed, if_pos e]
    exact ⟨rfl, by rw [e]⟩
  · rw [show s.refreshEnd f = _ from if_neg e, Fn.refreshed, if_neg e, act_fns, act_field, State.onFn_same,
      State.onFn_field, State.onFnField_same]
    exact ⟨rfl, rfl⟩

/-! ## The pairs (R96) -/

/-- The pair of an end after an accepted change of an input, where it was `p`. -/
def State.pairAfter (s : State) (i : InputId) (f : FnId) (d : Dir) (p : EndPair) : EndPair :=
  match (s.fnSetup f).bind (fun x => (x.sensorB d).map (fun b => (x.sensorA d, b))) with
  | none => p
  | some (a, b) => if a = i ∨ b = i then p.changed s.timing.discrepancy (s.accepted a != s.accepted b) else p

theorem FnField.setEnd_self (d : Dir) (x : FnField) : x.setEnd d (x.endPair d) = x := by cases d <;> rfl

theorem State.onFnField_self {f : FnId} {g : FnField → FnField} (same : g s.field.fns[f] = s.field.fns[f]) :
    s.onFnField f g = s := by
  unfold State.onFnField State.onField
  dsimp only
  rw [same, show s.field.fns.set f s.field.fns[f] = s.field.fns from Vector.set_getElem_self f.isLt]

theorem endInput_eq (i : InputId) (f : FnId) (d : Dir) (s : State) : s.endInput i f d =
    s.onFnField f (fun y => y.setEnd d (s.pairAfter i f d (y.endPair d))) := by
  have unchanged : (∀ p, s.pairAfter i f d p = p) →
      s = s.onFnField f (fun y => y.setEnd d (s.pairAfter i f d (y.endPair d))) := fun same =>
    (State.onFnField_self (by rw [same]; exact FnField.setEnd_self d _)).symm
  unfold State.endInput
  cases c : s.fnSetup f with
  | none => exact unchanged (fun p => by unfold State.pairAfter; rw [c]; rfl)
  | some x =>
    dsimp only
    cases sb : x.sensorB d with
    | none => exact unchanged (fun p => by unfold State.pairAfter; rw [c, Option.bind_some, sb]; rfl)
    | some b =>
      have after : ∀ p, s.pairAfter i f d p = if x.sensorA d = i ∨ b = i then
          p.changed s.timing.discrepancy (s.accepted (x.sensorA d) != s.accepted b) else p := fun p => by
        unfold State.pairAfter
        rw [c, Option.bind_some, sb]
        rfl
      dsimp only
      split
      next named =>
        simp only [after, if_pos named]
        cases d <;> rfl
      next other => exact unchanged (fun p => (after p).trans (if_neg other))

theorem endStateNow_ends {s t : State} {f : FnId} (h : AtEnds s t)
    (pairs : ∀ d : Dir, (t.field.fns[f]).endPair d = (s.field.fns[f]).endPair d) : t.endStateNow f = s.endStateNow f :=
  endStateNow_congr (by rw [h.rest]) (by rw [h.rest]) (pairs .toOpen) (pairs .toClose)

theorem pairAfter_ends (h : AtEnds s t) (i : InputId) (g : FnId) (d : Dir) (p : EndPair) :
    t.pairAfter i g d p = s.pairAfter i g d p := by
  have e := h.rest
  generalize t.fns = a, t.field.fns = b, t.loop.status = x, t.pub.deferred = y at e
  subst e
  rfl

/-- What the field inputs hold for a function after an accepted change: its two pairs, and an end state. -/
def State.endsAfter (s : State) (i : InputId) (f : FnId) (e : EndState) (y : FnField) : FnField :=
  { (y.setEnd .toOpen (s.pairAfter i f .toOpen y.openEnd)).setEnd .toClose (s.pairAfter i f .toClose y.closedEnd) with
    endState := e }

theorem endInputs_ended (i : InputId) (f : FnId) (s : State) : AtEnd f s (s.endInputs i f) := by
  unfold State.endInputs
  rw [endInput_eq, endInput_eq]
  exact ((onFnField_ended f _ s).trans (onFnField_ended f _ _)).trans (refreshEnd_ended f _)

theorem endInputs_at (i : InputId) (f : FnId) (s : State) :
    (s.endInputs i f).fns[f] =
      (s.fns[f]).refreshed (s.field.fns[f]).endState ((s.endInputs i f).endStateNow f) ∧
    (s.endInputs i f).field.fns[f] = s.endsAfter i f ((s.endInputs i f).endStateNow f) s.field.fns[f] := by
  have first := onFnField_ended f (fun y => y.setEnd .toOpen (s.pairAfter i f .toOpen (y.endPair .toOpen))) s
  have eq : s.endInputs i f = ((s.onFnField f (fun y => y.setEnd .toOpen (s.pairAfter i f .toOpen (y.endPair .toOpen)))).onFnField f
      (fun y => y.setEnd .toClose (s.pairAfter i f .toClose (y.endPair .toClose)))).refreshEnd f := by
    unfold State.endInputs
    rw [endInput_eq, endInput_eq]
    simp only [pairAfter_ends first.toAtEnds]
  rw [eq]
  generalize pairs : (s.onFnField f _).onFnField f _ = u
  have fn : u.fns[f] = s.fns[f] := by rw [← pairs]; rfl
  have field : u.field.fns[f] = (s.field.fns[f].setEnd .toOpen (s.pairAfter i f .toOpen s.field.fns[f].openEnd)).setEnd .toClose
      (s.pairAfter i f .toClose s.field.fns[f].closedEnd) := by
    rw [← pairs, State.onFnField_same, State.onFnField_same]
    rfl
  obtain ⟨fnAt, fieldAt⟩ := refreshEnd_at u f
  have now : (u.refreshEnd f).endStateNow f = u.endStateNow f :=
    endStateNow_ends (refreshEnd_ended f u).toAtEnds (fun d => by rw [fieldAt]; cases d <;> rfl)
  rw [fnAt, fieldAt, now, fn, field]
  exact ⟨rfl, rfl⟩

/-- An accepted change at the ends of every function. -/
theorem eachEnd_at (i : InputId) (s : State) : AtEnds s (s.eachFn (State.endInputs i)) ∧ ∀ f : FnId,
    let t := s.eachFn (State.endInputs i)
    t.fns[f] = (s.fns[f]).refreshed (s.field.fns[f]).endState (t.endStateNow f) ∧
    t.field.fns[f] = s.endsAfter i f (t.endStateNow f) s.field.fns[f] := by
  have all : AtEnds s (s.eachFn (State.endInputs i)) :=
    Kept.eachFn (P := AtEnds s) (op := State.endInputs i) (fun f t h => h.trans (endInputs_ended i f t).toAtEnds) (.refl s)
  refine ⟨all, fun f => ?_⟩
  have at_f : ∃ v : State, AtEnds s v ∧ v.field.fns[f] = (s.eachFn (State.endInputs i)).field.fns[f] ∧
      (s.eachFn (State.endInputs i)).fns[f] = (s.fns[f]).refreshed (s.field.fns[f]).endState (v.endStateNow f) ∧
      (s.eachFn (State.endInputs i)).field.fns[f] = s.endsAfter i f (v.endStateNow f) s.field.fns[f] := by
    refine eachFn_at (op := State.endInputs i) (view := fun t g => (t.fns[g], t.field.fns[g])) (I := AtEnds s)
      (R := fun g a b => ∃ v : State, AtEnds s v ∧ v.field.fns[g] = b.2 ∧
        b.1 = a.1.refreshed a.2.endState (v.endStateNow g) ∧ b.2 = s.endsAfter i g (v.endStateNow g) a.2)
      (fun g t h => h.trans (endInputs_ended i g t).toAtEnds) (fun g t h => ?_) (fun g h t _ ne => ?_) (.refl s) f
    · obtain ⟨fn, field⟩ := endInputs_at i g t
      refine ⟨t.endInputs i g, h.trans (endInputs_ended i g t).toAtEnds, rfl, fn, field.trans ?_⟩
      unfold State.endsAfter
      rw [pairAfter_ends h, pairAfter_ends h]
    · obtain ⟨fn, field⟩ := (endInputs_ended i g t).others h ne
      exact Prod.ext fn field
  obtain ⟨v, ends, same, fn, field⟩ := at_f
  have now : (s.eachFn (State.endInputs i)).endStateNow f = v.endStateNow f := by
    refine endStateNow_congr ?_ ?_ ?_ ?_
    · rw [all.rest, ends.rest]
    · rw [all.rest, ends.rest]
    · rw [same]
    · rw [same]
  dsimp only
  rw [now]
  exact ⟨fn, field⟩

end

end Sys2Proof.Machine
end

section
/-! The moves that a station makes: the drifts of its functions, a start, a change of the field inputs with its stops, the
clearing of a fault, and the passages of the life cycle. -/

namespace Sys2Proof.Machine

/-! ## Trips, faults and stages as drifts (R55, R119, R125, R129, R151, R152) -/

namespace Drift

variable {s t u : State}

/-- A trip or LONE comes where nothing is left to stop, and the gate stays open for what still claims. -/
theorem stops (h : Drift u t) (same : (u.life, u.setup, u.field, u.fns, u.drive, u.unit.restartHold) =
      (s.life, s.setup, s.field, s.fns, s.drive, s.unit.restartHold))
    (gate : ∀ f : FnId, (t.fns[f]).motion.claims = true → s.gateOpen = true → u.gateOpen = true)
    (still : ∀ f : FnId, (t.fns[f]).motion.stoppable = false) : Drift s t := by
  simp only [Prod.mk.injEq] at same
  obtain ⟨life, setup, field, fns, drive, hold⟩ := same
  refine ⟨by rw [h.same, life, setup, field], fun f => ?_, fun f claims open_ => h.gate f claims (gate f claims open_),
    fun free => h.hold (hold.trans free), fun f m => ?_, fun f m => ?_⟩
  · have turn := h.turns f
    rw [State.isActive, life, field, State.slot, fns, drive] at turn
    exact turn
  · cases (still f).symm.trans m
  · cases (still f).symm.trans m

theorem enterTrip (n : StationId) (c : StopClass) (s : State) : Drift s (s.enterTrip n c) := by
  have listed : ∀ e, (∀ f : FnId, s.gateOpen = true → e ≠ some .eStop →
      (s.onUnit (fun u => { u with trips := u.trips.set n e })).gateOpen = true) := by
    intro e f open_ other
    rw [gateOpen_iff] at open_ ⊢
    obtain ⟨active, loop, supply, free⟩ := open_
    refine ⟨active, loop, supply, fun m => ?_⟩
    show (s.unit.trips.set n e)[m] ≠ _
    by_cases same : n = m
    · subst same
      simpa using other
    · rw [show (s.unit.trips.set n e)[m] = _ from Vector.getElem_set_ne n.isLt m.isLt (fun e => same (Fin.ext e))]
      exact free m
  unfold State.enterTrip
  dsimp only
  generalize hold : s.unit.trips[n] = held
  have same : ∀ e, held = e → Drift s (s.onUnit (fun u => { u with trips := u.trips.set n e })) := by
    intro e eq
    refine kept ?_
    have trips : s.unit.trips.set n e = s.unit.trips := by
      rw [← eq, ← hold]
      exact Vector.set_getElem_self n.isLt
    simp only [ground, State.onUnit]
    rw [trips]
  have eStop : ∀ e, Drift s (State.tripGained s (some .eStop) (s.onUnit (fun u => { u with trips := u.trips.set n e }))) := by
    intro e
    have still := fun f => stopNow_claims (s.onUnit (fun u => { u with trips := u.trips.set n e })) f
    refine stops (u := s.onUnit (fun u => { u with trips := u.trips.set n e })) ((stopNow _).trans (gateEdge s _)) rfl
      (fun f claims => ?_) (fun f => ?_)
    · rw [show State.tripGained s (some .eStop) _ = State.gateEdge s _ from rfl, gateEdge_fns, still] at claims
      cases claims
    · rw [show State.tripGained s (some .eStop) _ = State.gateEdge s _ from rfl, gateEdge_fns]
      by_contra stoppable
      cases (still f).symm.trans (Motion.claims_of_stoppable (Bool.eq_true_of_not_eq_false stoppable))
  have cStop : Drift s (State.tripGained s (some .cStop) (s.onUnit (fun u => { u with trips := u.trips.set n (some .cStop) }))) :=
    stops (u := s.onUnit (fun u => { u with trips := u.trips.set n (some .cStop) })) (eachFn halt _) rfl
      (fun f _ open_ => listed _ f open_ nofun) (fun f => halts_stoppable _ f)
  cases held with
  | none =>
    cases c with
    | eStop => exact eStop _
    | cStop => exact cStop
  | some h =>
    cases h with
    | eStop => exact same _ rfl
    | cStop =>
      cases c with
      | eStop => exact eStop _
      | cStop => exact same _ rfl

theorem raiseCause (s : State) : Drift s s.raiseCause := by
  refine ite (fun _ => ?_) (fun _ => refl s)
  split
  · exact refl s
  · exact ((act (kept rfl)).trans (enterTrip _ _ _)).trans (queueTrip _ _)

theorem raiseCauses : ∀ (n : Nat) (s : State), Drift s (State.raiseCauses n s)
  | 0, s => refl s
  | n + 1, s => (raiseCause s).trans (raiseCauses n s.raiseCause)

/-- TRANSDUCER is taken where the position is invalid already (R101). -/
theorem takeLatched {f : FnId} {code : FaultCode} (l : code.latched = true)
    (reads : code = .transducer → (s.field.fns[f]).position = Config.noPosition) : Drift s (s.takeLatched f code) := by
  rw [takeLatched_eq]
  exact ite (fun _ => (faulting l reads).trans (raiseCause _)) (fun _ => faulting l reads)

theorem supervise (f : FnId) (s : State) : Drift s (s.supervise f) := by
  refine ite (fun travels => ?_) (fun _ => refl s)
  have stops : (s.fns[f]).motion.stoppable = true := by rcases travels with m | m <;> rw [m] <;> rfl
  split
  · exact refl s
  · refine ite (fun _ => takeLatched rfl nofun) (fun _ => act (one (onFn_moved f _ s) ?_))
    rw [State.slot, State.slot, State.onFn_same, State.onFn_drive]
    refine .moving (by rcases travels with m | m <;> rw [m] <;> rfl) ?_ rfl id (fun _ => ⟨stops, rfl⟩) .inl
    dsimp only
    split <;> rfl

theorem endStopping {f : FnId} (m : (s.fns[f]).motion = .stopping) : Drift s (s.endStopping f) := by
  refine one (endStopping_moved f s) ?_
  unfold State.endStopping
  rw [slot_act, toIdle_slot]
  exact .idle rfl rfl rfl (.inl (by rw [State.slot, m]; rfl)) .inl

theorem driveStages (f : FnId) (s : State) : Drift s (s.driveStages f) := by
  have tripped : Drift s (if s.skewTrips f then s.takeLatched f .skew else s) :=
    ite (fun _ => takeLatched rfl nofun) (fun _ => refl s)
  unfold State.driveStages
  dsimp only
  generalize (if s.skewTrips f then s.takeLatched f .skew else s) = u at tripped
  refine ite (fun moves => ?_) (fun _ => tripped)
  have driven : Drift u (u.onDrive f (fun x => { x with
      level := u.nextLevel f, prop := x.prop.hand s.timing.pwm (u.nextLevel f) })) := by
    refine one (onDrive_moved f _ u) ?_
    rw [State.slot, State.slot, State.onDrive_same, State.onDrive_fns]
    refine .data rfl rfl rfl (fun still => ?_) (fun _ => id)
    cases moves.symm.trans still
  exact ite (fun ends => (tripped.trans driven).trans (endStopping ends.1)) (fun _ => tripped.trans driven)

theorem takePressure (p : Nat) (f : FnId) (s : State) : Drift s (s.takePressure p f) :=
  ite (fun c => enterTravel c.1) (fun _ => refl s)

end Drift

/-! ## The moves -/

/-- The field inputs change with every controller and every end as it was: lines, timers, pressure, the stop loop and the supply,
and positions, which are those of a conversion or, where TRANSDUCER holds, 1023 (R101, R130). -/
structure Sensed (s t : State) : Prop where
  same : (t.life, t.setup, t.unit, t.loop.lone, t.fns, t.drive) = (s.life, s.setup, s.unit, s.loop.lone, s.fns, s.drive)
  accepted : ∀ i : InputId, (t.field.di[i]).accepted = (s.field.di[i]).accepted
  ends : ∀ f : FnId, ((t.field.fns[f]).openEnd, (t.field.fns[f]).closedEnd, (t.field.fns[f]).endState) =
    ((s.field.fns[f]).openEnd, (s.field.fns[f]).closedEnd, (s.field.fns[f]).endState)
  position : ∀ f : FnId, (t.field.fns[f]).position = (s.field.fns[f]).position ∨
    ((t.field.fns[f]).position ≤ 1000 ∧ (s.fns[f]).fault ≠ .transducer) ∨ (t.field.fns[f]).position = Config.noPosition

/-- A RESET arrival clears the code of a function (R126). -/
def State.uncoded (f : FnId) (s : State) : State :=
  s.act (fun t => (t.onFnField f (fun y => { y with
    position := match (s.fns[f]).fault, y.lastRaw with
      | .transducer, some p => clampPosition p
      | _, _ => y.position })).onFn f (fun y => { y with motion := .rest, fault := .none }))

/-- One move of a station. -/
inductive Move : State → State → Prop
  | drift {s t : State} (h : Drift s t) : Move s t
  | leave {s : State} {f : FnId} {d : Dir} (may : s.mayLeave f d = true) : Move s (s.leaveRest f d)
  | sense {s t : State} (h : Sensed s t) (gate : s.gateOpen = true → t.gateOpen = true) : Move s t
  | stop {s t : State} (h : Sensed s t) : Move s t.stopNow
  | level (i : InputId) (s : State) : Move s ((s.acceptLevel i).eachFn (State.endInputs i))
  | disagree (f : FnId) (e : Dir) (s : State) :
      Move s ((s.onFnField f (FnField.setEnd e { state := .disagreed, discrepancy := none })).refreshEnd f)
  | clear {s : State} {f : FnId} (idle : (s.fns[f]).motion = .heldFault ∨ (s.fns[f]).motion = .rest) : Move s (s.uncoded f)
  | reset (cause : ResetCause) (s : State) : Move s { State.reset with
      pending := s.pending, choice := s.choice, resetCause := cause, field := FieldInputs.afterReset s.field.lines }
  | cycle {s t : State} (before : s.isActive = false) (after : t.isActive = false)
      (running : t.running = false → s.running = false)
      (same : (t.setup, t.field, t.fns, t.drive) = (s.setup, s.field, s.fns, s.drive)) : Move s t
  | load {s : State} (c : Setup) (lines : FieldLines) (l : s.life = .loading) : Move s (s.goodLoad c lines)
  | activate {s : State} (l : s.life = .joining) : Move s s.holding
  | withdraw {s : State} (running : s.running = true) : Move s s.enterWithdrawn

/-! ## The laws of motion at each move -/

section Motion
variable {s t : State}

theorem Drift.motion (h : Drift s t) (laws : MotionLaws s) : MotionLaws t := by
  rw [motionLaws_iff] at laws ⊢
  obtain ⟨own, gate, free⟩ := laws
  refine ⟨fun f => ?_, fun f claims => ?_, fun f stops => ?_⟩
  · rw [h.isActive]
    exact (h.turns f).law (own f)
  · obtain ⟨open_, unheld⟩ := gate f ((h.turns f).claims claims)
    exact ⟨h.gate f claims open_, h.hold unheld⟩
  · obtain ⟨empty, paired⟩ := free f ((h.turns f).stops stops)
    exact ⟨h.trips f stops empty, h.lone f stops paired⟩

/-- Outside ACTIVE no function claims, none is in HELD_FAULT, and every output is off. -/
theorem MotionLaws.inactive (laws : MotionLaws s) (out : s.isActive = false) (f : FnId) :
    (s.fns[f]).motion.claims = false ∧ (s.fns[f]).motion ≠ .heldFault ∧ (s.fns[f]).target = none ∧ s.drive[f] = Drive.off := by
  obtain ⟨own, -, -⟩ := (motionLaws_iff s).mp laws
  have still : (s.fns[f]).motion.claims = false := by
    by_contra claims
    cases out.symm.trans ((own f).claimed (Bool.eq_true_of_not_eq_false claims))
  refine ⟨still, fun held => ?_, ?_, (laws f).off ?_⟩
  · cases out.symm.trans ((own f).held held).1
  · have target := (laws f).target
    rw [still] at target
    exact Option.isNone_iff_eq_none.mp (by simpa using target)
  · by_contra moves
    cases still.symm.trans (Motion.claims_of_moving (Bool.eq_true_of_not_eq_false moves))

/-- So a station on which nothing claims keeps the laws by three facts at each slot. -/
theorem motionLaws_of_still (still : ∀ f : FnId, (t.fns[f]).motion.claims = false)
    (idle : ∀ f : FnId, (t.fns[f]).target = none ∧ t.drive[f] = Drive.off)
    (held : ∀ f : FnId, (t.fns[f]).motion = .heldFault → t.isActive = true ∧ (t.fns[f]).fault.latched = true)
    (rest : ∀ f : FnId, (t.fns[f]).motion = .rest → t.isActive = true → (t.fns[f]).fault.latched = false) : MotionLaws t := by
  refine fun f => ⟨fun _ => (idle f).2, fun m => ?_, ?_, fun m => ?_, fun m => ?_, held f, rest f⟩
  · cases (still f).symm.trans (Motion.claims_of_moving m)
  · rw [(idle f).1, still f]
    rfl
  · cases (still f).symm.trans m
  · cases (still f).symm.trans (Motion.claims_of_stoppable m)

theorem motionLaws_cycle (laws : MotionLaws s) (before : s.isActive = false) (after : t.isActive = false)
    (same : (t.fns, t.drive) = (s.fns, s.drive)) : MotionLaws t := by
  obtain ⟨fns, drive⟩ := Prod.mk.inj same
  have out := laws.inactive before
  refine motionLaws_of_still ?_ ?_ ?_ (fun f _ active => by cases after.symm.trans active) <;> rw [fns]
  · exact fun f => (out f).1
  · rw [drive]
    exact fun f => (out f).2.2
  · exact fun f held => absurd held (out f).2.1

theorem motionLaws_leaveRest {f : FnId} {d : Dir} (laws : MotionLaws s) (may : s.mayLeave f d = true) :
    MotionLaws (s.leaveRest f d) := by
  obtain ⟨rest, active, -, -, lone, hold, trips, loop, supply, unlatched, -⟩ := (mayLeave_iff s f d).mp may
  have moved := leaveRest_moved f d s
  obtain ⟨own, gate, free⟩ := (motionLaws_iff s).mp laws
  have open_ : s.gateOpen = true := by
    rw [gateOpen_iff]
    exact ⟨(isActive_iff s).mp active, loop, supply, fun n held => by cases (trips n).symm.trans held⟩
  have gateAfter : (s.leaveRest f d).gateOpen = s.gateOpen := gateOpen_congr (by rw [moved.rest])
  have freeAfter : (s.leaveRest f d).tripFree = s.tripFree := tripFree_congr (by rw [moved.rest])
  have unit : (s.leaveRest f d).unit = s.unit := by rw [moved.rest]
  have loneAfter : (s.leaveRest f d).loop.lone = s.loop.lone := by rw [moved.rest]
  have activeAfter : (s.leaveRest f d).isActive = s.isActive := by rw [State.isActive, moved.rest]; rfl
  rw [motionLaws_iff, gateAfter, freeAfter, unit, loneAfter, activeAfter]
  refine ⟨fun g => ?_, fun g _ => ⟨open_, hold⟩, fun g _ => ⟨(tripFree_iff s).mpr trips, lone⟩⟩
  by_cases same : f = g
  · subst same
    have slot : ∃ y : Fn, (s.leaveRest f d).slot f = (y, s.drive[f]) ∧ y.motion = .awaitFlow ∧ y.target = some d ∧
        y.fault = if (s.fns[f]).fault.latched then (s.fns[f]).fault else .none :=
      ⟨_, by unfold State.leaveRest; rw [slot_act, State.slot, State.onFn_same, State.onFn_drive], rfl, rfl, rfl⟩
    obtain ⟨y, slot, motion, target, fault⟩ := slot
    rw [slot]
    rw [unlatched] at fault
    refine ⟨fun _ => (own f).off (by rw [State.slot, rest]; rfl), ?_, ?_, fun _ => active, fun _ => ?_, ?_, ?_⟩
    · rw [motion]; exact nofun
    · rw [target, motion]; rfl
    · rw [fault]; rfl
    · rw [motion]; exact nofun
    · rw [motion]; exact nofun
  · obtain ⟨fn, drive⟩ := moved.others g same
    rw [State.slot, fn, drive]
    exact own g

/-- A change of the field inputs alone. -/
theorem Sensed.slots (h : Sensed s t) (laws : MotionLaws s) : ∀ f, SlotLaw t.isActive (t.slot f) := by
  have same := h.same
  simp only [Prod.mk.injEq] at same
  obtain ⟨life, -, -, -, fns, drive⟩ := same
  rw [State.isActive, life]
  intro f
  rw [State.slot, fns, drive]
  exact ((motionLaws_iff s).mp laws).1 f

theorem Sensed.motion (h : Sensed s t) (gate : s.gateOpen = true → t.gateOpen = true) (laws : MotionLaws s) : MotionLaws t := by
  have same := h.same
  simp only [Prod.mk.injEq] at same
  obtain ⟨life, -, unit, lone, fns, drive⟩ := same
  obtain ⟨-, open_, free⟩ := (motionLaws_iff s).mp laws
  rw [motionLaws_iff]
  refine ⟨h.slots laws, ?_, ?_⟩ <;> rw [fns]
  · rw [unit]
    exact fun f claims => ⟨gate (open_ f claims).1, (open_ f claims).2⟩
  · rw [lone, tripFree_congr (congrArg IntentTrip.trips unit)]
    exact free

theorem Sensed.stopped (h : Sensed s t) (laws : MotionLaws s) : MotionLaws t.stopNow := by
  have still := Drift.stopNow_claims t
  rw [motionLaws_iff]
  refine ⟨fun f => ?_, fun f claims => ?_, fun f stops => ?_⟩
  · rw [(Drift.stopNow t).isActive]
    exact ((Drift.stopNow t).turns f).law (h.slots laws f)
  · cases (still f).symm.trans claims
  · cases (still f).symm.trans (Motion.claims_of_stoppable stops)

/-! ## The ends of a function -/

/-- A change of its end state gives a function END_LOST at most, and takes that code away at most (R99, R124). -/
theorem Fn.endChanged_data (old new : EndState) (x : Fn) : (x.endChanged old new).motion = x.motion ∧
    (x.endChanged old new).target = x.target ∧ ((x.endChanged old new).fault = x.fault ∨
      x.fault.latched = false ∧ (x.endChanged old new).fault.latched = false) := by
  unfold Fn.endChanged
  extract_lets lost back
  split
  · refine ⟨rfl, rfl, ?_⟩
    dsimp only
    split
    · exact .inl rfl
    next l => exact .inr ⟨Bool.eq_false_iff.mpr l, rfl⟩
  · split
    · refine ⟨rfl, rfl, ?_⟩
      dsimp only
      split
      next e => exact .inr ⟨by rw [e]; rfl, rfl⟩
      · exact .inl rfl
    · exact ⟨rfl, rfl, .inl rfl⟩

theorem Turn.endChanged {active : Bool} {away : Prop} (old new : EndState) (x : Fn) (d : Drive) :
    Turn active away (x, d) (x.endChanged old new, d) := by
  obtain ⟨motion, target, fault⟩ := x.endChanged_data old new
  rcases fault with fault | ⟨before, after⟩
  · exact .data motion target fault (fun _ => rfl) (fun _ => id)
  · refine ⟨fun l => ⟨?_, ?_, ?_, ?_, fun _ => after, ?_, fun _ _ => after⟩, ?_, ?_, fun t => ?_⟩
    · rw [motion]; exact l.off
    · rw [motion]; exact l.on
    · rw [motion, target]; exact l.target
    · rw [motion]; exact l.claimed
    · rw [motion]
      exact fun held => by cases before.symm.trans (l.held held).2
    · rw [motion]; exact id
    · rw [motion]; exact id
    · rw [t] at after
      cases after

/-- Functions turn while the field inputs change, but for the stop loop and the supply. -/
theorem motionLaws_turned (same : (t.life, t.field.stopLoopClosed, t.field.supplyOk, t.unit, t.loop.lone) =
      (s.life, s.field.stopLoopClosed, s.field.supplyOk, s.unit, s.loop.lone))
    (turns : ∀ f : FnId, Turn s.isActive False (s.slot f) (t.slot f)) (laws : MotionLaws s) : MotionLaws t := by
  simp only [Prod.mk.injEq] at same
  obtain ⟨life, loop, supply, unit, lone⟩ := same
  obtain ⟨own, gate, free⟩ := (motionLaws_iff s).mp laws
  rw [motionLaws_iff, State.isActive, life, unit, lone, tripFree_congr (congrArg IntentTrip.trips unit)]
  refine ⟨fun f => (turns f).law (own f), fun f claims => ?_, fun f stops => free f ((turns f).stops stops)⟩
  obtain ⟨open_, hold⟩ := gate f ((turns f).claims claims)
  rw [gateOpen_iff] at open_ ⊢
  rw [life, loop, supply, unit]
  exact ⟨open_, hold⟩

theorem Turn.refreshed {active : Bool} {away : Prop} (old new : EndState) (x : Fn) (d : Drive) :
    Turn active away (x, d) (x.refreshed old new, d) := by
  unfold Fn.refreshed
  split
  · exact .refl _
  · exact .endChanged old new x d

/-- Functions whose end states are derived again. -/
theorem AtEnds.motion (h : AtEnds s t) (fns : ∀ f : FnId, ∃ old new, t.fns[f] = (s.fns[f]).refreshed old new)
    (laws : MotionLaws s) : MotionLaws t := by
  refine motionLaws_turned (by rw [h.rest]) (fun f => ?_) laws
  obtain ⟨old, new, fn⟩ := fns f
  rw [State.slot, State.slot, fn, show t.drive = s.drive by rw [h.rest]]
  exact .refreshed old new _ _

theorem motionLaws_acceptLevel (i : InputId) (laws : MotionLaws s) : MotionLaws (s.acceptLevel i) := by
  refine motionLaws_turned (s := s) (t := s.acceptLevel i) ?_ (fun f => ?_) laws
  · unfold State.acceptLevel
    rw [act_eq]
    rfl
  · unfold State.acceptLevel
    rw [slot_act]
    exact .refl _

theorem motionLaws_uncoded {f : FnId} (idle : (s.fns[f]).motion = .heldFault ∨ (s.fns[f]).motion = .rest)
    (laws : MotionLaws s) : MotionLaws (s.uncoded f) := by
  refine motionLaws_turned (s := s) (t := s.uncoded f) ?_ (fun g => ?_) laws
  · unfold State.uncoded
    rw [act_eq]
    rfl
  · unfold State.uncoded
    rw [slot_act]
    by_cases same : f = g
    · subst same
      rw [State.slot, State.slot, State.onFn_same, State.onFn_drive]
      have still : (s.fns[f]).motion.claims = false := by rcases idle with m | m <;> rw [m] <;> rfl
      refine ⟨fun l => ⟨fun _ => l.off ?_, nofun, l.target.trans still, nofun, nofun, nofun, fun _ _ => rfl⟩, nofun, nofun, nofun⟩
      show (s.fns[f]).motion.moving = false
      rcases idle with m | m <;> rw [m] <;> rfl
    · rw [State.slot, State.slot, State.onFn_other _ _ same]
      exact .refl _

/-! ## The passages of the life cycle -/

theorem motionLaws_resetState (cause : ResetCause) (s : State) : MotionLaws { State.reset with
    pending := s.pending, choice := s.choice, resetCause := cause, field := FieldInputs.afterReset s.field.lines } :=
  motionLaws_cycle motionLaws_reset rfl rfl rfl

/-- A good load puts the configured functions into REST (R108, R128). -/
theorem motionLaws_goodLoad {c : Setup} {lines : FieldLines} (l : s.life = .loading) (laws : MotionLaws s) :
    MotionLaws (s.goodLoad c lines) := by
  have out := laws.inactive (by rw [State.isActive, l]; rfl)
  obtain ⟨t, first⟩ : ∃ t, (s.loadedWith c).firsts lines = t := ⟨_, rfl⟩
  obtain ⟨whole, -, slot⟩ := firsts_eq first
  have drive : t.drive = s.drive := by rw [whole]; rfl
  have fn : ∀ f : FnId, (t.fns[f]).target = none ∧ ((t.fns[f]).motion = .rest ∨ (t.fns[f]).motion = (s.fns[f]).motion) := by
    intro f
    obtain ⟨-, -, none, -⟩ := out f
    have at_f := slot f
    split at at_f
    · rw [at_f.1]
      exact ⟨none, .inr rfl⟩
    · rw [at_f.1]
      exact ⟨none, .inl rfl⟩
  rw [goodLoad_of first, enterJoining_eq]
  refine motionLaws_of_still (fun f => ?_) (fun f => ⟨(fn f).1, ?_⟩) (fun f held => ?_) (fun f _ => nofun)
  · show (t.fns[f]).motion.claims = false
    rcases (fn f).2 with m | m <;> rw [m]
    · rfl
    · exact (out f).1
  · show t.drive[f] = Drive.off
    obtain ⟨-, -, -, off⟩ := out f
    rw [drive]
    exact off
  · change (t.fns[f]).motion = .heldFault at held
    rcases (fn f).2 with m | m <;> rw [m] at held
    · cases held
    · exact absurd held (out f).2.1

/-- What the entry to ACTIVE makes of a function (R125, R127). -/
theorem holdLatched_slot (s : State) (f : FnId) : (s.holdLatched f).slot f =
    if (s.fns[f]).motion = .rest ∧ (s.fns[f]).fault.latched = true then
      ({ (s.fns[f]).quiet with motion := .heldFault, target := none }, Drive.off) else s.slot f := by
  unfold State.holdLatched
  split
  next c =>
    rw [slot_act, toIdle_slot, c.1]
    rfl
  · rfl

theorem holding_slot (s : State) (f : FnId) : s.holding.slot f =
    if (s.fns[f]).motion = .rest ∧ (s.fns[f]).fault.latched = true then
      ({ (s.fns[f]).quiet with motion := .heldFault, target := none }, Drive.off) else s.slot f := by
  have before : s.activated.statusCause.slot f = s.slot f := by
    rw [statusCause_eq]
    rfl
  have at_f := eachFn_at (op := State.holdLatched) (view := State.slot) (I := fun _ => True)
    (R := fun _ a b => b = if a.1.motion = .rest ∧ a.1.fault.latched = true then
      ({ a.1.quiet with motion := .heldFault, target := none }, Drive.off) else a) (fun _ _ _ => trivial)
    (fun g t _ => holdLatched_slot t g) (fun g h t _ ne => by
      obtain ⟨fn, drive⟩ := (holdLatched_moved g t).others h ne
      rw [State.slot, fn, drive]
      rfl) (s := s.activated.statusCause) trivial f
  rw [before] at at_f
  exact at_f

theorem holding_isActive (s : State) : s.holding.isActive = true := by
  rw [State.isActive, (holding_noticed s).rest, statusCause_eq]
  rfl

theorem motionLaws_holding (l : s.life = .joining) (laws : MotionLaws s) : MotionLaws s.holding := by
  have out := laws.inactive (by rw [State.isActive, l]; rfl)
  have slot := holding_slot s
  have at_f : ∀ f : FnId, (s.holding.fns[f], s.holding.drive[f]) = _ := slot
  refine motionLaws_of_still (fun f => ?_) (fun f => ?_) (fun f held => ⟨holding_isActive s, ?_⟩) (fun f rest _ => ?_)
  all_goals
    obtain ⟨still, free, target, drive⟩ := out f
    have e := at_f f
    split at e
    all_goals obtain ⟨fn, off⟩ := Prod.mk.inj e
  · rw [fn]; rfl
  · rw [fn]; exact still
  · rw [fn, off]; exact ⟨rfl, rfl⟩
  · rw [fn, off]; exact ⟨target, drive⟩
  next c =>
    rw [fn]
    exact c.2
  · rw [fn] at held
    exact absurd held free
  · rw [fn] at rest
    cases rest
  next c =>
    rw [fn] at rest ⊢
    exact Bool.eq_false_iff.mpr (fun latched => c ⟨rest, latched⟩)

/-- A function whose station withdraws is at rest with no target (R15, R123). -/
theorem withdrawFn_target {f : FnId} (idle : (s.fns[f]).motion.claims = false → (s.fns[f]).target = none) :
    ((s.withdrawFn f).fns[f]).target = none := by
  unfold State.withdrawFn
  split
  next held =>
    rw [State.onFn_same]
    exact idle (by rw [held]; rfl)
  · have fn : (s.immediateStop f).fns[f] = ((s.fns[f]).stoppedNow s.isActive (s.grantGone f) s.drive[f]).1 :=
      congrArg Prod.fst (immediateStop_slot s f)
    rw [fn]
    unfold Fn.stoppedNow
    split
    · rfl
    next still =>
      split
      · rfl
      next waits => exact idle (Bool.eq_false_iff.mpr (fun claims => (Motion.moving_or_waits claims).elim waits still))

theorem motionLaws_enterWithdrawn (laws : MotionLaws s) : MotionLaws s.enterWithdrawn := by
  have target : ∀ f : FnId, (s.enterWithdrawn.fns[f]).target = none := by
    intro f
    have stopped := eachFn_at (op := State.withdrawFn) (view := fun t h => t.fns[h])
      (R := fun _ x y => (x.motion.claims = false → x.target = none) → y.target = none) (I := fun _ => True)
      (fun _ _ _ => trivial) (fun f _ _ idle => withdrawFn_target idle) (fun _ _ t _ ne => withdrawFn_other t ne)
      (s := { s with life := .withdrawn, joinWindow := none, goodFrames := 0 }) trivial f
    unfold State.enterWithdrawn
    dsimp only
    refine stopped (fun idle => ?_)
    have law := (laws f).target
    rw [show (s.fns[f]).motion.claims = false from idle] at law
    exact Option.isNone_iff_eq_none.mp (by simpa using law)
  have withdraws := enterWithdrawn_fn s
  obtain ⟨fns, eq⟩ := enterWithdrawn_eq s
  have out : s.enterWithdrawn.isActive = false := by rw [eq]; rfl
  refine motionLaws_of_still (fun f => (withdraws f).claims) (fun f => ⟨target f, ?_⟩) (fun f held => absurd held (withdraws f).held)
    (fun f _ active => by cases out.symm.trans active)
  rw [eq]
  simp

/-- Every move keeps the laws of motion. -/
theorem Move.motion (h : Move s t) (laws : MotionLaws s) : MotionLaws t := by
  cases h with
  | drift h => exact h.motion laws
  | leave may => exact motionLaws_leaveRest laws may
  | sense h gate => exact h.motion gate laws
  | stop h => exact h.stopped laws
  | level i =>
    obtain ⟨ends, slot⟩ := eachEnd_at i (s.acceptLevel i)
    exact ends.motion (fun f => ⟨_, _, (slot f).1⟩) (motionLaws_acceptLevel i laws)
  | disagree f e =>
    have placed := onFnField_ended f (FnField.setEnd e { state := .disagreed, discrepancy := none }) s
    have fresh := refreshEnd_ended f (s.onFnField f (FnField.setEnd e { state := .disagreed, discrepancy := none }))
    refine (placed.trans fresh).toAtEnds.motion (fun g => ?_) laws
    by_cases same : f = g
    · subst same
      exact ⟨_, _, (refreshEnd_at _ f).1⟩
    · exact ⟨.unknown, .unknown, ((placed.trans fresh).others g same).1⟩
  | clear idle => exact motionLaws_uncoded idle laws
  | reset cause => exact motionLaws_resetState cause s
  | cycle before after _ same =>
    simp only [Prod.mk.injEq] at same
    obtain ⟨-, -, fns, drive⟩ := same
    exact motionLaws_cycle laws before after (Prod.ext fns drive)
  | load c lines l => exact motionLaws_goodLoad l laws
  | activate l => exact motionLaws_holding l laws
  | withdraw => exact motionLaws_enterWithdrawn laws

end Motion

end Sys2Proof.Machine
end

section
/-! The laws of the field inputs at each move (R96, R98, R100, R101, R130). -/

namespace Sys2Proof.Machine

variable {s t : State}

/-- Where the field inputs stay, the laws ask only where TRANSDUCER may be shown. -/
theorem fieldLaws_kept (same : (t.setup, t.field) = (s.setup, s.field)) (running : t.running = false → s.running = false)
    (reads : ∀ f : FnId, (t.fns[f]).fault = .transducer →
      (s.fns[f]).fault = .transducer ∨ (s.field.fns[f]).position = Config.noPosition) (laws : FieldLaws s) : FieldLaws t := by
  obtain ⟨setup, field⟩ := Prod.mk.inj same
  intro f
  obtain ⟨unloaded, endState, opens, closes, invalid, range⟩ := laws f
  refine ⟨fun out => setup.trans (unloaded (running out)), ?_, ?_, ?_, fun shown => ?_, ?_⟩
  · rw [field, endState]
    exact (endStateNow_congr setup (by rw [field]) (by rw [field]) (by rw [field])).symm
  · rw [field]; exact opens
  · rw [field]; exact closes
  · rw [field]
    exact (reads f shown).elim invalid id
  · rw [field]; exact range

theorem Drift.fields (h : Drift s t) (laws : FieldLaws s) : FieldLaws t := by
  refine fieldLaws_kept (congrArg Prod.snd h.same) (fun out => ?_) (fun f shown => (h.turns f).reads shown) laws
  rwa [State.running, show t.life = s.life from congrArg Prod.fst h.same] at out

/-- The end state that the ends give reads the accepted levels only. -/
theorem endStateNow_accepted {f : FnId} (setup : t.setup = s.setup) (accepted : ∀ i : InputId, t.accepted i = s.accepted i)
    (opens : (t.field.fns[f]).openEnd = (s.field.fns[f]).openEnd)
    (closes : (t.field.fns[f]).closedEnd = (s.field.fns[f]).closedEnd) : t.endStateNow f = s.endStateNow f := by
  have own : t.fnSetup f = s.fnSetup f := by rw [State.fnSetup, State.fnSetup, State.cfg, State.cfg, setup]
  have made : ∀ d : Dir, t.made f d = s.made f d := by
    intro d
    unfold State.made FnField.endPair
    rw [own]
    cases d
    · simp only [opens, accepted]
    · simp only [closes, accepted]
  unfold State.endStateNow
  rw [made, made, own, opens, closes]

theorem Sensed.fields (h : Sensed s t) (laws : FieldLaws s) : FieldLaws t := by
  have same := h.same
  simp only [Prod.mk.injEq] at same
  obtain ⟨life, setup, -, -, fns, -⟩ := same
  intro f
  have ends := h.ends f
  simp only [Prod.mk.injEq] at ends
  obtain ⟨openEnd, closedEnd, endState⟩ := ends
  obtain ⟨unloaded, now, opens, closes, invalid, range⟩ := laws f
  refine ⟨fun out => ?_, ?_, by rw [openEnd]; exact opens, by rw [closedEnd]; exact closes, fun shown => ?_, ?_⟩
  · rw [State.running, life] at out
    exact setup.trans (unloaded out)
  · rw [endState, now]
    exact (endStateNow_accepted setup (fun i => by rw [State.accepted, State.accepted, h.accepted]) openEnd closedEnd).symm
  · rw [fns] at shown
    rcases h.position f with p | ⟨-, free⟩ | p
    · exact p.trans (invalid shown)
    · exact absurd shown free
    · exact p
  · rcases h.position f with p | ⟨p, -⟩ | p
    · rw [p]; exact range
    · exact .inl p
    · exact .inr p

/-! ## The ends -/

/-- The discrepancy timer of an end runs in PENDING (R96). -/
def EndPair.timed (p : EndPair) : Prop := p.discrepancy.isSome = (p.state == .pending)

theorem EndPair.changed_timed {p : EndPair} (n : Nat) (differ : Bool) (h : p.timed) : (p.changed n differ).timed := by
  unfold EndPair.changed
  split
  next => rfl
  next => exact h
  next => exact h
  next => rfl
  next => exact h
  next => rfl

theorem pairAfter_timed {p : EndPair} (i : InputId) (f : FnId) (d : Dir) (h : p.timed) : (s.pairAfter i f d p).timed := by
  unfold State.pairAfter
  split
  · exact h
  · split
    · exact EndPair.changed_timed _ _ h
    · exact h

/-- A refreshed function shows no new TRANSDUCER. -/
theorem Fn.refreshed_reads {old new : EndState} {x : Fn} (h : (x.refreshed old new).fault = .transducer) :
    x.fault = .transducer :=
  ((Turn.refreshed (active := true) (away := False) old new x Drive.off).reads h).elim id False.elim

theorem fieldLaws_level (i : InputId) (laws : FieldLaws s) : FieldLaws ((s.acceptLevel i).eachFn (State.endInputs i)) := by
  obtain ⟨ends, slot⟩ := eachEnd_at i (s.acceptLevel i)
  have before : (s.acceptLevel i).life = s.life ∧ (s.acceptLevel i).setup = s.setup ∧ (s.acceptLevel i).fns = s.fns ∧
      (s.acceptLevel i).field.fns = s.field.fns := by
    unfold State.acceptLevel
    rw [act_eq]
    exact ⟨rfl, rfl, rfl, rfl⟩
  obtain ⟨life, setup, fns, fields⟩ := before
  generalize s.acceptLevel i = u at *
  dsimp only at slot
  generalize u.eachFn (State.endInputs i) = t at *
  intro f
  obtain ⟨unloaded, -, opens, closes, invalid, range⟩ := laws f
  obtain ⟨fn, field⟩ := slot f
  rw [fns] at fn
  rw [fields] at field
  refine ⟨fun out => ?_, by rw [field]; rfl, ?_, ?_, fun shown => ?_, ?_⟩
  · have runs : t.running = s.running := by
      rw [State.running, State.running, show t.life = s.life by rw [ends.rest]; exact life]
    rw [ends.rest]
    exact setup.trans (unloaded (runs.symm.trans out))
  · rw [field]
    exact pairAfter_timed i f .toOpen opens
  · rw [field]
    exact pairAfter_timed i f .toClose closes
  · rw [field]
    rw [fn] at shown
    exact invalid (Fn.refreshed_reads shown)
  · rw [field]
    exact range

theorem fieldLaws_disagree (f : FnId) (e : Dir) (laws : FieldLaws s) :
    FieldLaws ((s.onFnField f (FnField.setEnd e { state := .disagreed, discrepancy := none })).refreshEnd f) := by
  have placed := onFnField_ended f (FnField.setEnd e { state := .disagreed, discrepancy := none }) s
  have own : (s.onFnField f (FnField.setEnd e { state := .disagreed, discrepancy := none })).field.fns[f] =
      (s.field.fns[f]).setEnd e { state := .disagreed, discrepancy := none } := State.onFnField_same _ _ _
  have fns : (s.onFnField f (FnField.setEnd e { state := .disagreed, discrepancy := none })).fns = s.fns := rfl
  generalize s.onFnField f (FnField.setEnd e { state := .disagreed, discrepancy := none }) = u at *
  have fresh := refreshEnd_ended f u
  obtain ⟨fn, field⟩ := refreshEnd_at u f
  have now : (u.refreshEnd f).endStateNow f = u.endStateNow f :=
    endStateNow_ends fresh.toAtEnds (fun d => by rw [field]; cases d <;> rfl)
  have all := (placed.trans fresh)
  generalize u.refreshEnd f = t at *
  intro g
  obtain ⟨unloaded, endState, opens, closes, invalid, range⟩ := laws g
  have out : t.running = false → t.setup = none := by
    rw [State.running, all.rest]
    exact unloaded
  by_cases same : f = g
  · subst same
    rw [own] at field
    rw [fns] at fn
    refine ⟨out, by rw [field, now], ?_, ?_, fun shown => ?_, ?_⟩
    · rw [field]
      cases e
      · rfl
      · exact opens
    · rw [field]
      cases e
      · exact closes
      · rfl
    · rw [fn] at shown
      rw [field]
      cases e <;> exact invalid (Fn.refreshed_reads shown)
    · rw [field]
      cases e <;> exact range
  · obtain ⟨fn', field'⟩ := all.others g same
    refine ⟨out, ?_, by rw [field']; exact opens, by rw [field']; exact closes, by rw [field', fn']; exact invalid,
      by rw [field']; exact range⟩
    rw [field', endState]
    exact (endStateNow_congr (by rw [all.rest]) (by rw [all.rest]) (by rw [field']) (by rw [field'])).symm

/-! ## Positions and the life cycle -/

theorem endStateNow_unconfigured {f : FnId} (c : s.fnSetup f = none) : s.endStateNow f = .unknown := by
  unfold State.endStateNow
  rw [c]
  rfl

theorem endStateNow_unloaded (c : s.setup = none) (f : FnId) : s.endStateNow f = .unknown := by
  refine endStateNow_unconfigured ?_
  rw [State.fnSetup, State.cfg, c]
  simp [Setup.blank, OwnSection.blank]

theorem clampPosition_range (p : Int) : clampPosition p ≤ 1000 := Nat.min_le_right _ _

theorem fieldLaws_uncoded (f : FnId) (laws : FieldLaws s) : FieldLaws (s.uncoded f) := by
  have moved : AtEnd f s (s.uncoded f) := (onInputs_ended f _ _ s).act
  have own : ((s.uncoded f).fns[f]).fault = .none ∧ ∃ p : Nat, (s.uncoded f).field.fns[f] = { s.field.fns[f] with position := p } ∧
      (p = (s.field.fns[f]).position ∨ p ≤ 1000) := by
    unfold State.uncoded
    rw [act_fns, act_field, State.onFn_same, State.onFn_field, State.onFnField_same]
    refine ⟨rfl, _, rfl, ?_⟩
    split
    · exact .inr (clampPosition_range _)
    · exact .inl rfl
  obtain ⟨fault, p, field, place⟩ := own
  generalize s.uncoded f = t at *
  intro g
  obtain ⟨unloaded, endState, opens, closes, invalid, range⟩ := laws g
  have out : t.running = false → t.setup = none := by
    rw [State.running, moved.rest]
    exact unloaded
  have now (same : (t.field.fns[g]).openEnd = (s.field.fns[g]).openEnd ∧ (t.field.fns[g]).closedEnd = (s.field.fns[g]).closedEnd) :
      t.endStateNow g = s.endStateNow g := endStateNow_congr (by rw [moved.rest]) (by rw [moved.rest]) same.1 same.2
  by_cases same : f = g
  · subst same
    rw [field] at now
    refine ⟨out, by rw [field, now ⟨rfl, rfl⟩]; exact endState, by rw [field]; exact opens, by rw [field]; exact closes,
      fun shown => ?_, ?_⟩
    · cases fault.symm.trans shown
    rw [field]
    rcases place with e | le
    · dsimp only
      rw [e]
      exact range
    · exact .inl le
  · obtain ⟨fn', field'⟩ := moved.others g same
    rw [field'] at now
    exact ⟨out, by rw [field', now ⟨rfl, rfl⟩]; exact endState, by rw [field']; exact opens, by rw [field']; exact closes,
      by rw [field', fn']; exact invalid, by rw [field']; exact range⟩

theorem fieldLaws_resetState (cause : ResetCause) (s : State) : FieldLaws { State.reset with
    pending := s.pending, choice := s.choice, resetCause := cause, field := FieldInputs.afterReset s.field.lines } := by
  have fn : ∀ f : FnId, (FieldInputs.afterReset s.field.lines).fns[f] = FnField.atReset := fun f => by
    simp [FieldInputs.afterReset]
  refine fun f => ⟨fun _ => rfl, ?_, ?_, ?_, fun shown => ?_, ?_⟩
  · rw [endStateNow_unloaded rfl, fn]; rfl
  · rw [fn]; rfl
  · rw [fn]; rfl
  · rw [show State.reset.fns[f] = _ from reset_fns f] at shown
    cases shown
  · rw [fn]
    exact .inr rfl

/-- The fault code that a conversion leaves stands beside the position it leaves (R101). -/
theorem converted_law {p : Int} {held : FaultCode} {y : FnField} (invalid : held = .transducer → y.position = Config.noPosition)
    (range : y.position ≤ 1000 ∨ y.position = Config.noPosition) :
    (FaultCode.converted p held = .transducer → (FnField.converted p held y).position = Config.noPosition) ∧
    ((FnField.converted p held y).position ≤ 1000 ∨ (FnField.converted p held y).position = Config.noPosition) := by
  unfold FaultCode.converted FnField.converted
  dsimp only
  by_cases k : held = .transducer
  · rw [if_pos k]
    exact ⟨fun _ => invalid k, range⟩
  · rw [if_neg k]
    split
    · exact ⟨fun shown => absurd shown k, .inl (clampPosition_range p)⟩
    · exact ⟨fun _ => rfl, .inr rfl⟩

theorem fieldLaws_goodLoad {c : Setup} {lines : FieldLines} (l : s.life = .loading) (laws : FieldLaws s) :
    FieldLaws (s.goodLoad c lines) := by
  obtain ⟨t, first⟩ : ∃ t, (s.loadedWith c).firsts lines = t := ⟨_, rfl⟩
  obtain ⟨whole, -, slot⟩ := firsts_eq first
  have setup : t.setup = some c := by rw [whole]; rfl
  rw [goodLoad_of first, enterJoining_eq]
  refine fieldLaws_kept (s := t) rfl nofun (fun f shown => .inl shown) (fun f => ?_)
  obtain ⟨unloaded, endState, opens, closes, invalid, range⟩ := laws f
  have bare : s.setup = none := unloaded (by rw [State.running, l])
  have life : t.life = .joining := by rw [whole]; rfl
  have at_f := slot f
  cases own : c.own.fns[f] with
  | none =>
    rw [own] at at_f
    obtain ⟨fn, field⟩ := at_f
    refine ⟨fun out => ?_, ?_, by rw [field]; exact opens, by rw [field]; exact closes, by rw [fn, field]; exact invalid,
      by rw [field]; exact range⟩
    · rw [State.running, life] at out
      cases out
    · rw [field, endState, endStateNow_unloaded bare, endStateNow_unconfigured]
      rw [State.fnSetup, State.cfg, setup]
      exact own
  | some x =>
    rw [own] at at_f
    obtain ⟨fn, field⟩ := at_f
    obtain ⟨openEnd, closedEnd, now⟩ := firstField_ends x lines.ai[f] (t.endStateNow f) (s.fns[f]).fault s.field.fns[f]
    have placed : ((t.fns[f]).fault = .transducer → (t.field.fns[f]).position = Config.noPosition) ∧
        ((t.field.fns[f]).position ≤ 1000 ∨ (t.field.fns[f]).position = Config.noPosition) := by
      rw [fn, field]
      unfold FnSetup.firstFn FnSetup.firstField
      dsimp only
      split
      · exact converted_law (y := { s.field.fns[f] with endState := t.endStateNow f }) invalid range
      · exact ⟨invalid, range⟩
    refine ⟨fun out => ?_, by rw [field]; exact now, by rw [field, openEnd]; exact opens, by rw [field, closedEnd]; exact closes,
      placed.1, placed.2⟩
    rw [State.running, life] at out
    cases out

theorem fieldLaws_holding (laws : FieldLaws s) : FieldLaws s.holding := by
  have field : s.holding.field = s.field := (holding_rest s).2.2
  have setup : s.holding.setup = s.setup := by
    rw [(holding_noticed s).rest, statusCause_eq]
    rfl
  have running : s.holding.running = true := running_of (.inr ((isActive_iff _).mp (holding_isActive s)))
  have slot := holding_slot s
  generalize s.holding = t at *
  refine fieldLaws_kept (Prod.ext setup field) (fun out => ?_) (fun f shown => .inl ?_) laws
  · cases running.symm.trans out
  · have at_f : (t.fns[f], t.drive[f]) = _ := slot f
    split at at_f
    all_goals
      rw [(Prod.mk.inj at_f).1] at shown
      exact shown

theorem fieldLaws_enterWithdrawn (laws : FieldLaws s) : FieldLaws s.enterWithdrawn := by
  have withdraws := enterWithdrawn_fn s
  obtain ⟨fns, eq⟩ := enterWithdrawn_eq s
  refine fieldLaws_kept (by rw [eq]) (fun out => ?_) (fun f shown => .inl ?_) laws
  · rw [eq] at out
    cases out
  · rw [(withdraws f).fault] at shown
    split at shown
    · cases shown
    · exact shown

/-- Every move keeps the laws of the field inputs. -/
theorem Move.fields (h : Move s t) (laws : FieldLaws s) : FieldLaws t := by
  cases h with
  | drift h => exact h.fields laws
  | leave =>
    rename_i f d may
    have moved := leaveRest_moved f d s
    refine fieldLaws_kept (by rw [moved.rest]) (fun out => ?_) (fun g shown => .inl ?_) laws
    · rw [State.running, moved.rest] at out
      exact out
    · by_cases same : f = g
      · subst same
        unfold State.leaveRest at shown
        rw [act_fns, State.onFn_same] at shown
        dsimp only at shown
        split at shown
        · exact shown
        · cases shown
      · rw [(moved.others g same).1] at shown
        exact shown
  | sense h _ => exact h.fields laws
  | stop h => exact (Drift.stopNow _).fields (h.fields laws)
  | level i => exact fieldLaws_level i laws
  | disagree f e => exact fieldLaws_disagree f e laws
  | clear _ => exact fieldLaws_uncoded _ laws
  | reset cause => exact fieldLaws_resetState cause s
  | cycle _ _ running same =>
    simp only [Prod.mk.injEq] at same
    obtain ⟨setup, field, fns, -⟩ := same
    exact fieldLaws_kept (Prod.ext setup field) running (fun f shown => .inl (fns ▸ shown)) laws
  | load c lines l => exact fieldLaws_goodLoad l laws
  | activate => exact fieldLaws_holding laws
  | withdraw => exact fieldLaws_enterWithdrawn laws

end Sys2Proof.Machine
end

section
/-! Every event is a run of moves, so that what each move keeps the station keeps: the laws of motion and of the field inputs. -/

namespace Sys2Proof.Machine

/-- A run of moves. -/
def Moves (s t : State) : Prop := Relation.ReflTransGen Move s t

theorem Drift.moves {s t : State} (h : Drift s t) : Moves s t := .single (.drift h)

namespace Moves

variable {s t u : State}

theorem refl (s : State) : Moves s s := Relation.ReflTransGen.refl

theorem trans (h : Moves s t) (k : Moves t u) : Moves s u := Relation.ReflTransGen.trans h k

theorem thus (h : Moves s t) (k : Drift t u) : Moves s u := h.trans k.moves

/-- A change of what no law speaks of. -/
theorem kept (same : (Drift.ground t, t.fns, t.drive) = (Drift.ground s, s.fns, s.drive)) : Moves s t := (Drift.kept same).moves

theorem act {op : State → State} (h : Moves s (op s)) : Moves s (s.act op) := by
  unfold State.act
  dsimp only
  split
  · exact h.thus (.cause _)
  · exact h

theorem ite {c : Prop} [Decidable c] (a : c → Moves s t) (b : ¬c → Moves s u) : Moves s (if c then t else u) := by
  split
  next h => exact a h
  next h => exact b h

theorem eachFn {op : FnId → State → State} (h : ∀ f s, Moves s (op f s)) (s : State) : Moves s (s.eachFn op) :=
  (((h 0 s).trans (h 1 _)).trans (h 2 _)).trans (h 3 _)

/-- A predicate that every move keeps. -/
theorem keep {P : State → Prop} (move : ∀ {s t : State}, Move s t → P s → P t) (h : Moves s t) (first : P s) : P t := by
  induction h with
  | refl => exact first
  | tail _ last ih => exact move last ih

/-! ## Evaluations (R86, R87) and what a change of LONE brings (R36) -/

theorem reacts {f : FnId} (e : s.react f = some t) : Moves s t := by
  rcases Drift.react e with drift | ⟨d, may, rfl⟩
  · exact drift.moves
  · exact .single (.leave may)

theorem settle (s : State) : Moves s s.settle :=
  settle_keeps (P := Moves s) (fun h => h.thus (.evaluate _)) (fun e h => h.trans (reacts e)) (refl s)

end Moves

/-- What of R110 the station itself does not give: LONE, RESTART_HOLD, a trip, or a part of the gate that is closed. -/
def State.barred (s : State) : Prop :=
  s.loop.lone = true ∨ s.unit.restartHold = true ∨ s.tripFree = false ∨ s.field.stopLoopClosed = false ∨ s.field.supplyOk = false

theorem barred_congr {s t : State} (same : Drift.ground t = Drift.ground s) (h : s.barred) : t.barred := by
  simp only [Drift.ground, Prod.mk.injEq] at same
  obtain ⟨-, -, field, trips, hold, lone⟩ := same
  unfold State.barred
  rw [lone, hold, tripFree_congr trips, field]
  exact h

theorem mayLeave_barred {s : State} (h : s.barred) (f : FnId) (d : Dir) : s.mayLeave f d = false := by
  rw [Bool.eq_false_iff, Ne, mayLeave_iff, ← tripFree_iff]
  rintro ⟨-, -, -, -, lone, hold, trips, loop, supply, -⟩
  rcases h with e | e | e | e | e
  · cases lone.symm.trans e
  · cases hold.symm.trans e
  · cases trips.symm.trans e
  · cases loop.symm.trans e
  · cases supply.symm.trans e

/-- There nothing leaves REST, so that an evaluation is a drift. -/
theorem Drift.settle {s : State} (barred : s.barred) : Drift s s.settle := by
  refine (settle_keeps (P := fun t => Drift s t ∧ t.barred) (fun ⟨h, b⟩ => ⟨h.trans (.evaluate _), ?_⟩)
    (fun {t u f} e ⟨h, b⟩ => ?_) ⟨.refl s, barred⟩).1
  · exact barred_congr (by rw [(evaluate_settled _).rest]; rfl) b
  · obtain ⟨moved, -⟩ := react_moved e
    rcases Drift.react e with drift | ⟨d, may, -⟩
    · exact ⟨h.trans drift, barred_congr (by rw [moved.rest]; rfl) b⟩
    · cases (mayLeave_barred b f d).symm.trans may

namespace Moves

variable {s t u : State}

theorem loneChanged {b : Bool} (s : State) :
    Moves s ((s.act (State.onLoop (fun x => { x with lone := b }))).loneChanged) := by
  have same : ∀ x : State, x = s.act (State.onLoop (fun x => { x with lone := b })) → (x.life, x.setup, x.field, x.fns, x.drive,
      x.unit, x.loop.lone) = (s.life, s.setup, s.field, s.fns, s.drive, s.unit, b) := by
    intro x e
    rw [e, act_eq]
    rfl
  obtain ⟨v, e⟩ : ∃ v, s.act (State.onLoop (fun x => { x with lone := b })) = v := ⟨_, rfl⟩
  have same := same v e.symm
  rw [e]
  simp only [Prod.mk.injEq] at same
  obtain ⟨life, setup, field, fns, drive, unit, lone⟩ := same
  unfold State.loneChanged
  dsimp only
  cases b with
  | false =>
    have paired : Drift s v := by
      refine ⟨by rw [life, setup, field], fun f => ?_, fun _ _ open_ => ?_, by rw [unit]; exact id,
        fun _ _ free => (tripFree_congr (congrArg IntentTrip.trips unit)).trans free, fun _ _ _ => lone⟩
      · rw [State.slot, State.slot, fns, drive]
        exact .refl _
      · exact (gateOpen_congr (by rw [life, field, unit])).trans open_
    have first : Moves s (if v.choice.guardFirst then v.settle else v) :=
      ite (fun _ => paired.moves.trans (settle v)) (fun _ => paired.moves)
    have second : Moves s (if (if v.choice.guardFirst then v.settle else v).loop.lone then
        (if v.choice.guardFirst then v.settle else v).eachFn State.halt else (if v.choice.guardFirst then v.settle else v)) :=
      ite (fun _ => first.thus (.eachFn Drift.halt _)) (fun _ => first)
    exact (second.thus (.arbitrate _)).trans (settle _)
  | true =>
    have first : Drift v (if v.choice.guardFirst then v.settle else v) := .ite (fun _ => .settle (.inl lone)) (fun _ => .refl v)
    have kept : (if v.choice.guardFirst then v.settle else v).loop.lone = true := by
      split
      · rw [(settle_settled v).rest]
        exact lone
      · exact lone
    generalize (if v.choice.guardFirst then v.settle else v) = w at first kept
    rw [if_pos kept]
    have halted : Drift s (w.eachFn State.halt) :=
      .stops (first.trans (.eachFn Drift.halt w)) (by rw [life, setup, field, fns, drive, unit])
        (fun _ _ open_ => (gateOpen_congr (by rw [life, field, unit])).trans open_) (Drift.halts_stoppable w)
    exact (halted.trans (.arbitrate _)).moves.trans (settle _)

theorem changeNotice (n : StationId) (s : State) : Moves s (s.changeNotice n) := by
  have released := (Drift.releaseNotice n s).moves
  have ready : Moves s (if (s.releaseNotice n).choice.guardFirst then (s.releaseNotice n).settle else s.releaseNotice n) :=
    ite (fun _ => released.trans (settle _)) (fun _ => released)
  exact (ready.thus ((Drift.pumpNotice n _).trans (.claimNotice n _))).trans (settle _)

theorem statusNotice (n : StationId) (s : State) : Moves s (s.statusNotice n) :=
  (Drift.removeTrips [n] s).moves.trans (settle _)

/-! ## The field inputs (chapter 6) -/

/-- A change of lines, timers, the pressure and the supervision, and not of what the inputs hold of a function. -/
theorem sensed {s t : State} (rest : t = { s with field := t.field }) (fns : t.field.fns = s.field.fns)
    (accepted : ∀ i : InputId, (t.field.di[i]).accepted = (s.field.di[i]).accepted) : Sensed s t :=
  ⟨by rw [rest], accepted, fun f => by rw [fns], fun f => .inl (by rw [fns])⟩

/-- Where neither the stop loop nor the supply comes to close the gate. -/
theorem onField {g : FieldInputs → FieldInputs} (fns : (g s.field).fns = s.field.fns)
    (accepted : ∀ i : InputId, ((g s.field).di[i]).accepted = (s.field.di[i]).accepted)
    (loop : s.field.stopLoopClosed = true → (g s.field).stopLoopClosed = true)
    (supply : s.field.supplyOk = true → (g s.field).supplyOk = true) : Moves s (s.onField g) := by
  refine .single (.sense (sensed rfl fns accepted) (fun open_ => ?_))
  rw [gateOpen_iff] at open_ ⊢
  obtain ⟨active, closed, ok, free⟩ := open_
  exact ⟨active, loop closed, supply ok, free⟩

/-- Lines and timers. -/
theorem lines {g : FieldInputs → FieldInputs} (same : ((g s.field).fns, (g s.field).di, (g s.field).stopLoopClosed,
    (g s.field).supplyOk) = (s.field.fns, s.field.di, s.field.stopLoopClosed, s.field.supplyOk)) : Moves s (s.onField g) := by
  simp only [Prod.mk.injEq] at same
  obtain ⟨fns, di, loop, supply⟩ := same
  exact onField fns (fun i => by rw [di]) (by rw [loop]; exact id) (by rw [supply]; exact id)

theorem inputLevelChange (i : InputId) (high : Bool) (s : State) : Leads (Moves s) (execInputLevelChange i high s) := by
  have read : Moves s (s.onField (fun x => { x with lines := lineInput x.lines i high })) := lines rfl
  have followed : ∀ t : State, Moves t (t.followInput i) := fun t => by
    refine onField rfl (fun j => ?_) id id
    by_cases same : i = j
    · subst same
      simp
    · exact congrArg Discrete.accepted (Vector.getElem_set_ne i.isLt j.isLt (fun e => same (Fin.ext e)))
  exact .ite (fun _ => .done (read.trans (followed _))) (fun _ => .done read)

theorem acceptedChange (i : InputId) (s : State) : Moves s (s.acceptedChange i) := by
  have level : Moves s ((s.acceptLevel i).eachFn (State.endInputs i)) := .single (.level i s)
  exact ((level.thus (.pumpInput i _)).thus (.panelInput i _)).trans (settle _)

theorem takeLatched (f : FnId) (code : FaultCode) (l : code.latched = true) (other : code ≠ .transducer) (s : State) :
    Moves s (s.takeLatched f code) := (Drift.takeLatched l (fun e => absurd e other)).moves

theorem discrepancyExpiry (f : FnId) (e : Dir) (s : State) : Leads (Moves s) (execDiscrepancyExpiry f e s) := by
  have disagreed : Moves s ((s.onFnField f (FnField.setEnd e { state := .disagreed, discrepancy := none })).refreshEnd f) :=
    .single (.disagree f e s)
  have taken (t : State) : Moves t (t.takeLatched f .sensorDisagree) := takeLatched f .sensorDisagree rfl nofun t
  exact .ite (fun _ => .done ((disagreed.trans (taken _)).trans (settle _))) (fun _ => .done (refl s))

/-- The stop loop opens or the supply is LOW: a stop in ACTIVE, and nothing outside it. -/
theorem stationStop (old : State) {v : State} (first : Moves s v) {g : FieldInputs → FieldInputs}
    (fns : (g v.field).fns = v.field.fns) (di : (g v.field).di = v.field.di) :
    Moves s (State.stationStop old (v.act (State.onField g))) := by
  have closed : Sensed v (v.act (State.onField g)) := by
    have eq : (v.act (State.onField g)).field = g v.field := act_field _ _
    refine ⟨by rw [act_eq]; rfl, fun i => by rw [eq, di], fun f => by rw [eq, fns], fun f => .inl (by rw [eq, fns])⟩
  have active : (v.act (State.onField g)).isActive = v.isActive := act_isActive _ _
  unfold State.stationStop
  generalize v.act (State.onField g) = u at closed active
  split
  · have stopped : Moves v u.stopNow := .single (.stop closed)
    exact (((first.trans stopped).thus (.gateEdge old _)).thus (.raiseCause _)).trans (settle _)
  next out =>
    refine first.trans (.single (.sense closed (fun open_ => ?_)))
    rw [gateOpen_inactive (active.symm.trans (Bool.eq_false_iff.mpr out))] at open_
    cases open_

theorem stopLoopOpening (s : State) : Leads (Moves s) (execStopLoopOpening s) := by
  have read : Moves s (s.onField (fun x => { x with lines := { x.lines with stopLoopClosed := false } })) := lines rfl
  exact .ite (fun _ => .ite (fun _ => .done (stationStop s read rfl rfl)) (fun _ => .done (read.trans (lines rfl))))
    (fun _ => .done read)

theorem stopLoopReadsClosed (s : State) : Leads (Moves s) (execStopLoopReadsClosed s) := by
  have read : Moves s (s.onField (fun x => { x with lines := { x.lines with stopLoopClosed := true } })) := lines rfl
  exact .ite (fun _ => .done (read.trans (lines rfl))) (fun _ => .done read)

theorem stopLoopClosingExpiry (s : State) : Leads (Moves s) (execStopLoopClosingExpiry s) := by
  have closed : Moves s (s.act (State.onField (fun x => { x with stopLoopClosed := true, closing := none }))) :=
    act (onField rfl (fun _ => rfl) (fun _ => rfl) id)
  exact .ite (fun _ => .done ((closed.thus (.gateEdge s _)).trans (settle _))) (fun _ => .done (refl s))

theorem supplyBand (b : SupplyBand) (s : State) : Moves s (s.supplyBand b) := lines rfl

theorem supplyFallsBelow19V (s : State) : Leads (Moves s) (execSupplyFallsBelow19V s) := by
  have crossed := supplyBand .below19 s
  exact .ite (fun _ => .ite (fun _ => .done (crossed.trans (lines rfl))) (fun _ => .done (crossed.trans (lines rfl))))
    (fun _ => .done crossed)

theorem supplyBackAt19V (s : State) : Leads (Moves s) (execSupplyBackAt19V s) := by
  have crossed := supplyBand .from19to20 s
  exact .ite (fun _ => .ite (fun _ => .done (crossed.trans (lines rfl))) (fun _ => .done crossed)) (fun _ => .done (refl s))

theorem supplyRisesTo20V (s : State) : Leads (Moves s) (execSupplyRisesTo20V s) := by
  have crossed := supplyBand .from20 s
  exact .ite (fun _ => .ite (fun _ => .done (crossed.trans (lines rfl))) (fun _ => .done (crossed.trans (lines rfl))))
    (fun _ => .done crossed)

theorem supplyFallsBelow20V (s : State) : Leads (Moves s) (execSupplyFallsBelow20V s) := by
  have crossed := supplyBand .from19to20 s
  exact .ite (fun _ => .ite (fun _ => .done (crossed.trans (lines rfl))) (fun _ => .done crossed)) (fun _ => .done (refl s))

theorem lowTimerExpiry (s : State) : Leads (Moves s) (execLowTimerExpiry s) :=
  .ite (fun _ => .done (stationStop s (refl s) rfl rfl)) (fun _ => .done (refl s))

theorem recoveryTimerExpiry (s : State) : Leads (Moves s) (execRecoveryTimerExpiry s) := by
  have well : Moves s (s.act (State.onField (fun x => { x with supplyOk := true, recovery := none }))) :=
    act (onField rfl (fun _ => rfl) id (fun _ => rfl))
  exact .ite (fun _ => .done ((well.thus (.gateEdge s _)).trans (settle _))) (fun _ => .done (refl s))

/-! ## Positions, motion and the valve drive (chapters 7 and 8) -/

/-- A reading, or a position that its conversion gives, is kept for a function. -/
theorem onFnField {f : FnId} {g : FnField → FnField} (ends : ((g s.field.fns[f]).openEnd, (g s.field.fns[f]).closedEnd,
      (g s.field.fns[f]).endState) = ((s.field.fns[f]).openEnd, (s.field.fns[f]).closedEnd, (s.field.fns[f]).endState))
    (position : (g s.field.fns[f]).position = (s.field.fns[f]).position ∨
      ((g s.field.fns[f]).position ≤ 1000 ∧ (s.fns[f]).fault ≠ .transducer) ∨ (g s.field.fns[f]).position = Config.noPosition) :
    Moves s (s.onFnField f g) := by
  refine .single (.sense ⟨rfl, fun _ => rfl, fun h => ?_, fun h => ?_⟩ id)
  · by_cases same : f = h
    · subst same
      rw [State.onFnField_same]
      exact ends
    · rw [State.onFnField_other _ _ same]
  · by_cases same : f = h
    · subst same
      rw [State.onFnField_same]
      exact position
    · rw [State.onFnField_other _ _ same]
      exact .inl rfl

/-- A position out of band is taken with TRANSDUCER (R101). -/
theorem transducer (f : FnId) (s : State) :
    Moves s ((s.act (State.onFnField f (fun y => { y with position := Config.noPosition }))).takeLatched f .transducer) := by
  have placed : Moves s (s.act (State.onFnField f (fun y => { y with position := Config.noPosition }))) :=
    act (onFnField rfl (.inr (.inr rfl)))
  refine placed.thus (.takeLatched rfl (fun _ => ?_))
  rw [act_field, State.onFnField_same]

theorem convert (f : FnId) (x : FnSetup) (raw : Reading) (s : State) : Moves s (s.convert f x raw) := by
  have read : Moves s (s.onFnField f (fun y => { y with lastRaw := some (unclamped x raw) })) := onFnField rfl (.inl rfl)
  refine ite (fun _ => read) (fun free => ite (fun _ => read.trans (transducer f _)) (fun _ => ite (fun _ => read) (fun _ => ?_)))
  have placed : Moves s ((s.onFnField f (fun y => { y with lastRaw := some (unclamped x raw) })).act
      (State.onFnField f (fun y => { y with position := clampPosition (unclamped x raw) }))) := by
    refine read.trans (act (onFnField rfl (.inr (.inl ⟨?_, free⟩))))
    exact clampPosition_range _
  exact placed.thus (.supervise f _)

theorem controlPeriod (f : FnId) (raw : Reading) (s : State) : Leads (Moves s) (execControlPeriod f raw s) := by
  unfold execControlPeriod
  split
  next x _ =>
    have read : Moves s (s.onField (fun y => { y with lines := lineReading y.lines f raw })) := lines rfl
    exact .ite (fun _ => .done ((((read.trans (convert f x raw _)).trans (settle _)).thus (.driveStages f _)).trans (settle _)))
      (fun _ => .done (refl s))
  · exact .done (refl s)

theorem pressureConversion (raw : Reading) (s : State) : Leads (Moves s) (execPressureConversion raw s) := by
  have read : Moves s (s.onField (fun x => { x with pressure := some (bar raw) })) := lines rfl
  exact .ite (fun _ => .done ((read.thus (.eachFn (Drift.takePressure (bar raw)) _)).trans (settle _)))
    (fun _ => .done (refl s))

theorem fault (f : FnId) (code : FaultCode) (l : code.latched = true) (other : code ≠ .transducer) {c : Prop} [Decidable c]
    (s : State) : Leads (Moves s) (if c then done ((s.takeLatched f code).settle) else done s) :=
  .ite (fun _ => .done ((takeLatched f code l other s).trans (settle _))) (fun _ => .done (refl s))

theorem seatTimerExpiry (f : FnId) (s : State) : Leads (Moves s) (execSeatTimerExpiry f s) :=
  .ite (fun c => .done ((Drift.endSeat c.1).moves.trans (settle _))) (fun _ => .done (refl s))

/-- A drive that is off by the laws has no timer of peak-and-hold to expire. -/
theorem onDrive {f : FnId} {g : Drive → Drive} (off : g Drive.off = Drive.off ∨ g s.drive[f] = s.drive[f] ∨ s.drive[f] ≠ Drive.off)
    (on : (s.drive[f]).phase ≠ .off → (g s.drive[f]).phase ≠ .off) : Moves s (s.onDrive f g) := by
  refine (Drift.one (onDrive_moved f g s) ?_).moves
  rw [State.slot, State.slot, State.onDrive_same, State.onDrive_fns]
  refine .given (fun l => .data rfl rfl rfl (fun still => ?_) (fun _ => on)) id id .inl
  have rests : s.drive[f] = Drive.off := l.off still
  rcases off with e | e | e
  · show g s.drive[f] = s.drive[f]
    rw [rests, e]
  · exact e
  · exact absurd rests e

theorem pullInExpiry (f : FnId) (s : State) : Leads (Moves s) (execPullInExpiry f s) := by
  refine .ite (fun runs => .done (onDrive (.inr (.inr (fun off => ?_))) (fun _ => nofun))) (fun _ => .done (refl s))
  rw [off] at runs
  cases runs

theorem pulseTimeExpiry (g : Generator) (s : State) : Leads (Moves s) (execPulseTimeExpiry g s) := by
  cases g with
  | proportional f => exact .done (onDrive (.inl rfl) id)
  | solenoid f => exact .done (onDrive (.inl rfl) id)

/-! ## Panels, intents, RESET arrivals and pumps (chapters 9 and 10) -/

theorem retake (f : FnId) (s : State) : Moves s (s.retake f) := by
  have taken : Moves s (if s.outOfBand f then
      (s.act (State.onFnField f (fun y => { y with position := Config.noPosition }))).takeLatched f .transducer else s) :=
    ite (fun _ => transducer f s) (fun _ => refl s)
  exact ite (fun _ => taken.trans (takeLatched f .sensorDisagree rfl nofun _)) (fun _ => taken)

theorem clearFault (f : FnId) (s : State) : Moves s (s.clearFault f) := by
  refine ite (fun c => ?_) (fun _ => refl s)
  have cleared : Moves s (s.uncoded f) := .single (.clear c.1)
  exact cleared.trans (retake f _)

theorem resetArrival (s : State) : Moves s s.resetArrival := by
  have cleared := eachFn clearFault s
  have flags := (((cleared.thus (.pumpReset .a _)).thus (.pumpReset .b _)).thus (.resetFlags _))
  have window : ∀ (t : State) (w : Timer), Moves t (t.onUnit (fun u => { u with resetWindow := w })) := fun _ _ => kept rfl
  have computed : ∀ (o t : State), Moves t (if arbiterEvent o t then t.arbitrate else t) := fun _ t =>
    ite (fun _ => (Drift.arbitrate t).moves) (fun _ => refl t)
  exact (((flags.trans (window _ _)).trans (computed s _)).thus (.removeTrips stations _)).trans (settle _)

theorem writeIntent (n : StationId) (e : Option IntentEntry) (s : State) : Moves s ((s.writeIntent n e).settle) := by
  have written : Moves s (s.writeIntent n e) := kept rfl
  exact written.trans (settle _)

theorem takeIntent (n : StationId) (i : IntentFrame) (s : State) : Moves s (s.takeIntent n i) := by
  unfold State.takeIntent
  extract_lets e
  split
  · exact refl s
  · split
    · split
      · exact writeIntent n none s
      · exact resetArrival s
      · exact writeIntent n _ s
    · exact refl s

theorem intentRefreshExpiry (s : State) : Leads (Moves s) (execIntentRefreshExpiry s) := by
  have stopped : Drift s (s.onPanel (fun p => { p with refresh := none, refreshKind := none })) := .kept rfl
  refine .ite (fun _ => ?_) (fun _ => .done (refl s))
  dsimp only
  split
  · exact .ite (fun _ => .done (stopped.trans (.queueIntent _ _)).moves) (fun _ => .done stopped.moves)
  · exact .done stopped.moves

theorem intentLeaseExpiry (n : StationId) (s : State) : Leads (Moves s) (execIntentLeaseExpiry n s) :=
  .ite (fun _ => .done (writeIntent n none s)) (fun _ => .done (refl s))

theorem runUpExpiry (p : PumpId) (s : State) : Leads (Moves s) (execRunUpExpiry p s) :=
  .ite (fun _ => .done (((Drift.pumpEnters p _ s).trans (.arbitrate _)).moves.trans (settle _))) (fun _ => .done (refl s))

theorem idleTimerExpiry (s : State) : Leads (Moves s) (execIdleTimerExpiry s) := by
  have stopped : Drift s (s.onFlow (fun x => { x with idle := none })) := .kept rfl
  exact .ite (fun _ => .done ((((stopped.trans (.idleStop .a _)).trans (.idleStop .b _)).trans (.arbitrate _)).moves.trans
    (settle _))) (fun _ => .done (refl s))

/-! ## Arrivals, the image and the publisher (chapters 2 to 4) -/

theorem statusDelivered (f : Frame) (s : State) : Moves s (s.statusDelivered f) := by
  have entered : ∀ (n : StationId) (g : Entry → Entry), Drift s (s.onEntry n g) := fun _ _ => .kept rfl
  unfold State.statusDelivered
  split
  next b r _ =>
    refine ite (fun _ => ?_) (fun _ => refl s)
    have unverified := (entered f.station (fun e => { e with state := .unverified, age := some s.timing.stale })).trans
      (.queueAnnounce true _)
    have absorbed := (entered f.station (Entry.absorb s.timing.stale b
      (if s.cfg.subscription.contains f.station then some r else none))).moves
    have changed := (absorbed.trans (changeNotice f.station _)).trans (statusNotice f.station _)
    unfold State.takeStatus
    extract_lets e kept
    split
    · exact unverified.moves
    · exact unverified.moves
    · exact changed
    · exact changed
    · exact ite (fun _ => absorbed.trans (statusNotice f.station _)) (fun _ => changed)
    · exact refl s
  · exact refl s

theorem announceDelivered (f : Frame) (s : State) : Moves s (s.announceDelivered f) := by
  unfold State.announceDelivered
  split
  next a _ =>
    have written : Drift s (s.onEntry f.station (fun _ => Entry.announced (s.refuses f.station a) a.role)) := .kept rfl
    unfold State.takeAnnounce
    extract_lets e s1 s2
    have answered : Moves s s2 := ite (fun _ => (written.trans (.queueAnnounce false _)).moves) (fun _ => written.moves)
    exact ite (fun _ => answered) (fun _ => answered.trans (changeNotice f.station _))
  · exact refl s

theorem intentDelivered (f : Frame) (s : State) : Moves s (s.intentDelivered f) := by
  unfold State.intentDelivered
  split
  · exact takeIntent _ _ s
  · exact refl s

theorem tripDelivered (f : Frame) (s : State) : Moves s (s.tripDelivered f) := by
  unfold State.tripDelivered
  split
  · exact (Drift.enterTrip _ _ s).moves.trans (settle _)
  · exact refl s

theorem frameEnd (w : Wave) (s : State) : Moves s (s.frameEnd w) := kept rfl

/-- Entry to JOINING from WITHDRAWN (R13, R16). -/
theorem rejoin (l : s.life = .withdrawn) : Moves s s.enterJoining := by
  refine .single (.cycle (by rw [State.isActive, l]; rfl) ?_ (fun out => ?_) ?_)
  · rw [enterJoining_eq]; rfl
  · rw [enterJoining_eq] at out
    cases out
  · rw [enterJoining_eq]

theorem countGood (s : State) : Moves s s.countGood :=
  ite (fun l => ite (fun _ => kept rfl) (fun _ => rejoin l)) (fun _ => refl s)

theorem arrival (kind : FrameKind) {deliver : Frame → State → State} (delivered : ∀ f s, Moves s (deliver f s)) (w : Wave)
    (s : State) : Moves s (s.arrival kind deliver w) := by
  unfold State.arrival
  split
  · exact refl s
  · exact ite (fun _ => ite (fun _ => ((frameEnd w s).trans (delivered _ _)).trans (countGood _)) (fun _ => frameEnd w s))
      (fun _ => refl s)

theorem ageExpiry (n : StationId) (s : State) : Leads (Moves s) (execAgeExpiry n s) := by
  have entered : ∀ g : Entry → Entry, Moves s (s.onEntry n g) := fun _ => kept rfl
  refine .ite (fun _ => ?_) (fun _ => .done (refl s))
  split
  · exact .done ((entered _).trans (changeNotice n _))
  · exact .done (entered _)
  · exact .done (refl s)

theorem refreshExpiry (s : State) : Leads (Moves s) (execRefreshExpiry s) := by
  have stopped : Moves s (s.onPub (fun p => { p with refresh := none })) := kept rfl
  exact .ite (fun _ => .done (stopped.thus (.cause _))) (fun _ => .done (refl s))

theorem tripRepeatExpiry (s : State) : Leads (Moves s) (execTripRepeatExpiry s) := by
  have stopped : Moves s (s.onUnit (fun u => { u with tripRepeat := none })) := kept rfl
  exact .ite (fun _ => .ite (fun _ => .done (stopped.thus (.requeueTrip _))) (fun _ => .done stopped)) (fun _ => .done (refl s))

theorem changeInhibitExpiry (s : State) : Leads (Moves s) (execChangeInhibitExpiry s) := by
  have ended : Moves s (s.onPub (fun p => { p with inhibitTimer := none, inhibit := false, deferred := false })) := kept rfl
  have asked : ∀ t : State, Moves t t.requestStatus := fun _ => kept rfl
  exact .ite (fun _ => .ite (fun _ => .done (ended.trans (asked _))) (fun _ => .done ended)) (fun _ => .done (refl s))

/-! ## The line and own sends (chapter 2) -/

/-- A change of the loop interface but for LONE. -/
theorem onLoop {g : Loop → Loop} (lone : (g s.loop).lone = s.loop.lone) : Moves s (s.onLoop g) :=
  kept (by simp only [Drift.ground, State.onLoop, lone])

theorem statusLost (s : State) : Moves s s.statusLost := by
  unfold State.statusLost
  split
  · exact ite (fun _ => kept rfl) (fun _ => refl s)
  · exact refl s

theorem stick (s : State) : Moves s s.stick := kept rfl

theorem abort (s : State) : Moves s s.abort := by
  have lost : Moves s (s.statusLost.onLoop (fun x => { x.giveBack with aborts := min (x.aborts + 1) Config.abortLimit })) :=
    (statusLost s).trans (onLoop rfl)
  exact ite (fun c => lost.trans (.single (.withdraw (running_of c.2)))) (fun _ => lost)

theorem lineIdle (n : Nat) (s : State) : Leads (Moves s) (execLineIdle n s) := by
  have idle : Moves s (s.onLoop (fun x => { x with line := some .idle, idleRule := .noFrame })) := onLoop rfl
  exact .ite (fun _ => .ite (fun _ => .done (idle.thus (.queueAnnounce false _))) (fun _ => .done idle)) (fun _ => .done (refl s))

theorem lineStuck (n : Nat) (s : State) : Leads (Moves s) (execLineStuck n s) :=
  .ite (fun _ => .ite (fun _ => .done ((stick s).trans (abort _))) (fun _ => .done (stick s))) (fun _ => .done (refl s))

theorem frameDropped (w : Wave) (s : State) : Leads (Moves s) (execFrameDropped w s) := by
  unfold execFrameDropped
  split
  · exact .ite (fun _ => .done (onLoop rfl)) (fun _ => .done (refl s))
  · exact .done (refl s)

theorem undeliveredGoodFrame (w : Wave) (s : State) : Leads (Moves s) (execUndeliveredGoodFrame w s) := by
  unfold execUndeliveredGoodFrame
  split
  · exact .ite (fun _ => .done ((frameEnd w s).trans (countGood _))) (fun _ => .done (refl s))
  · exact .done (refl s)

theorem start_lone (n : Nat) (x : Loop) : (x.start n).lone = x.lone := by
  unfold Loop.start
  dsimp only
  split <;> rfl

theorem idCellStart (s : State) : Leads (Moves s) (execIdCellStart s) := by
  unfold execIdCellStart
  split
  next m _ =>
    have fixed : Moves s (s.onLoop (fun x => { x with send := some (s.fixed m) })) := onLoop rfl
    have inhibited : ∀ t : State, Moves t (t.onPub (fun p => { p with inhibit := true })) := fun _ => kept rfl
    exact .ite (fun _ => .ite (fun _ => .done (fixed.trans (inhibited _))) (fun _ => .done fixed)) (fun _ => .done (refl s))
  · exact .done (refl s)

theorem arbitrationLoss (j : Fin 8) (s : State) : Leads (Moves s) (execArbitrationLoss j s) := by
  unfold execArbitrationLoss
  split
  · exact .ite (fun _ => .done ((statusLost s).trans (onLoop rfl))) (fun _ => .done (refl s))
  · exact .done (refl s)

theorem sendAbort (c : AbortCause) (s : State) : Leads (Moves s) (execSendAbort c s) := by
  have dropped : Moves s (s.onLoop (fun x => { x with follow := .nothing })) := onLoop rfl
  unfold execSendAbort
  split
  · exact .done (refl s)
  · cases c with
    | bitError => exact .ite (fun _ => .done (abort s)) (fun _ => .done (refl s))
    | selfDrop r => exact .ite (fun _ => .done (dropped.trans (abort _))) (fun _ => .done (refl s))
    | stuck => exact .done ((stick s).trans (abort _))

theorem notified (m : Send) (s : State) : Moves s (s.notified m) := by
  have onPanel : ∀ g : Panel → Panel, Moves s (s.onPanel g) := fun _ => kept rfl
  unfold State.notified
  split
  · exact kept rfl
  · unfold State.announceCompleted
    split
    · exact ite (fun _ => kept rfl) (fun _ => refl s)
    · exact kept rfl
    · exact refl s
  · exact ite (fun _ => kept rfl) (fun _ => refl s)
  · unfold State.intentCompleted
    split
    · exact refl s
    · exact (onPanel _).trans (takeIntent _ _ _)

theorem unheardUpdate (heard : Bool) (s : State) : Moves s (s.unheardUpdate heard) := by
  have counted : Moves s (if s.running then s.onLoop (Loop.count heard) else s) := ite (fun _ => onLoop rfl) (fun _ => refl s)
  have lone : ∀ t : State, Moves t ((t.act (State.onLoop (fun x => { x with lone := x.loneAfter heard }))).loneChanged) :=
    fun t => loneChanged (b := t.loop.loneAfter heard) t
  exact ite (fun _ => counted.trans (lone _)) (fun _ => counted)

theorem sendComplete (heard : Bool) (s : State) : Leads (Moves s) (execSendComplete heard s) := by
  have completed : Moves s (s.onLoop Loop.complete) := onLoop rfl
  unfold execSendComplete
  split
  · exact .ite (fun _ => .done ((completed.trans (notified _ _)).trans (unheardUpdate heard _))) (fun _ => .done (refl s))
  · exact .done (refl s)

/-! ## The life cycle (chapter 1) -/

theorem enterConfigFault (r : FaultReport) (l : s.life = .loading) : Moves s (s.enterConfigFault r) :=
  .single (.cycle (by rw [State.isActive, l]; rfl) rfl (fun _ => by rw [State.running, l]) rfl)

theorem headerReadComplete (bytes : List Byte) (s : State) : Leads (Moves s) (execHeaderReadComplete bytes s) :=
  .ite (fun c => .ite (fun _ => .done (kept rfl)) (fun _ => .done (enterConfigFault _ c.1))) (fun _ => .done (refl s))

theorem imageReadComplete (bytes : List Byte) (lines : FieldLines) (s : State) :
    Leads (Moves s) (execImageReadComplete bytes lines s) := by
  unfold execImageReadComplete
  split
  next l _ =>
    dsimp only
    split
    · exact .done (.single (.load _ lines l))
    · exact .done (enterConfigFault _ l)
  · exact .done (refl s)

theorem configFaultAnnounceTimer (s : State) : Leads (Moves s) (execConfigFaultAnnounceTimer s) := by
  have ended : Moves s { s with announceTimer := none } := kept rfl
  exact .ite (fun _ => .done (ended.thus (.queueAnnounce false _))) (fun _ => .done (refl s))

theorem enterActive (l : s.life = .joining) : Moves s s.enterActive := by
  have held : Moves s s.holding := .single (.activate l)
  have requeued : Moves s s.requeued := by
    rw [requeued_eq]
    exact ite (fun _ => held.thus (.requeueTrip _)) (fun _ => held)
  rw [enterActive_eq]
  exact ((requeued.thus (.raiseCauses _ _)).thus (.arbitrate _)).trans (settle _)

theorem leaveReset (st : StationId) (br : BrPin) (s : State) : Leads (Moves s) (execLeaveReset st br s) := by
  refine .ite (fun l => .done (.single (.cycle ?_ rfl (fun _ => ?_) rfl))) (fun _ => .done (refl s))
  · rw [State.isActive, l]; rfl
  · rw [State.running, l]

/-! ## Every command -/

/-- Every command is a run of moves, and the end of its event. -/
theorem exec (c : Instr) (s : State) : Leads (Moves s) (Machine.exec c s) := by
  cases c with
  | resetCondition r => exact .done (.single (.reset r s))
  | leaveReset n b => exact leaveReset n b s
  | headerReadComplete b => exact headerReadComplete b s
  | imageReadComplete b l => exact imageReadComplete b l s
  | configFaultAnnounceTimer => exact configFaultAnnounceTimer s
  | joinWindowExpiry => exact .ite (fun c => .done (enterActive c.1)) (fun _ => .done (refl s))
  | withdrawnIdleTimeout => exact .ite (fun c => .done (rejoin c.1)) (fun _ => .done (refl s))
  | lineBusy => exact .ite (fun _ => .done (onLoop rfl)) (fun _ => .done (refl s))
  | lineIdle n => exact lineIdle n s
  | lineStuck n => exact lineStuck n s
  | stuckEnd n => exact .ite (fun _ => .done (onLoop rfl)) (fun _ => .done (refl s))
  | frameDropped w => exact frameDropped w s
  | undeliveredGoodFrame w => exact undeliveredGoodFrame w s
  | statusArrival w => exact .done (arrival .status statusDelivered w s)
  | announceArrival w => exact .done (arrival .announce announceDelivered w s)
  | intentArrival w => exact .done (arrival .intent intentDelivered w s)
  | tripArrival w => exact .done (arrival .trip tripDelivered w s)
  | sendStart => exact .ite (fun _ => .done (onLoop (start_lone _ _))) (fun _ => .done (refl s))
  | lateStart a b => exact .ite (fun _ => .done (onLoop (start_lone _ _))) (fun _ => .done (refl s))
  | idCellStart => exact idCellStart s
  | arbitrationLoss j => exact arbitrationLoss j s
  | sendAbort a => exact sendAbort a s
  | sendComplete b => exact sendComplete b s
  | sendWaitEnd n => exact .ite (fun _ => .done (onLoop rfl)) (fun _ => .done (refl s))
  | changeInhibitExpiry => exact changeInhibitExpiry s
  | refreshExpiry => exact refreshExpiry s
  | tripRepeatExpiry => exact tripRepeatExpiry s
  | ageExpiry n => exact ageExpiry n s
  | flashTimerExpiry => exact .done (kept rfl)
  | inputLevelChange i b => exact inputLevelChange i b s
  | debounceExpiry i => exact .ite (fun _ => .done (acceptedChange i s)) (fun _ => .done (refl s))
  | discrepancyExpiry f e => exact discrepancyExpiry f e s
  | controlPeriod f r => exact controlPeriod f r s
  | pressureConversion r => exact pressureConversion r s
  | stopLoopOpening => exact stopLoopOpening s
  | stopLoopReadsClosed => exact stopLoopReadsClosed s
  | stopLoopClosingExpiry => exact stopLoopClosingExpiry s
  | supplyFallsBelow19V => exact supplyFallsBelow19V s
  | supplyBackAt19V => exact supplyBackAt19V s
  | supplyRisesTo20V => exact supplyRisesTo20V s
  | supplyFallsBelow20V => exact supplyFallsBelow20V s
  | lowTimerExpiry => exact lowTimerExpiry s
  | recoveryTimerExpiry => exact recoveryTimerExpiry s
  | grantWaitExpiry f => exact fault f .noFlow rfl nofun s
  | pressuriseTimeout f => exact fault f .noPressure rfl nofun s
  | strokeTimeout f => exact fault f .strokeTimeout rfl nofun s
  | stallWindowExpiry f => exact fault f .stall rfl nofun s
  | seatTimerExpiry f => exact seatTimerExpiry f s
  | pullInExpiry f => exact pullInExpiry f s
  | intentRefreshExpiry => exact intentRefreshExpiry s
  | intentLeaseExpiry n => exact intentLeaseExpiry n s
  | resetWindowExpiry => exact .done (kept rfl)
  | runUpExpiry p => exact runUpExpiry p s
  | idleTimerExpiry => exact idleTimerExpiry s
  | pulseTimeExpiry g => exact pulseTimeExpiry g s

/-- A step keeps what every move keeps. -/
theorem step {P : State → Prop} (move : ∀ {s t : State}, Move s t → P s → P t) {s t : State} (e : step s = .next t)
    (h : P s) : P t := by
  have finish : ∀ u : State, Move u u.finish := fun u => .drift (.kept rfl)
  unfold Machine.step at e
  split at e
  · cases e; exact h
  next rest _ =>
    have front : Move s { s with pending := rest } := .drift (.kept rfl)
    obtain ⟨u, end_, run⟩ := exec _ { s with pending := rest }
    rw [end_] at e
    cases e
    exact move (finish u) (run.keep move (move front h))

end Moves

/-- Settles O41: every step is a run of moves, and every move keeps the laws of motion. -/
theorem motionLawsKept : Obligations.MotionLawsKept := by
  unfold Obligations.MotionLawsKept
  exact fun s t laws e => Moves.step Move.motion e laws

/-- Settles O48: every step is a run of moves, and every move keeps the laws of the field inputs. -/
theorem fieldLawsKept : Obligations.FieldLawsKept := by
  unfold Obligations.FieldLawsKept
  exact fun s t laws e => Moves.step Move.fields e laws

end Sys2Proof.Machine
end

section
/-! A discrepancy that lasts (R97, R98, R125). -/

namespace Sys2Proof.Machine

/-! ## A latched fault, and the evaluation after it -/

/-- What R125 makes of a function depends on its slot, the life cycle state and its grant. -/
theorem faulted_congr {s t : State} {f : FnId} (slot : t.slot f = s.slot f) (active : t.isActive = s.isActive)
    (gone : t.grantGone f = s.grantGone f) (code : FaultCode) : t.faulted f code = s.faulted f code := by
  have fn : t.fns[f] = s.fns[f] := congrArg Prod.fst slot
  have drive : t.drive[f] = s.drive[f] := congrArg Prod.snd slot
  unfold State.faulted
  rw [fn, drive, active, gone]

theorem faulted_fault (s : State) (f : FnId) {code : FaultCode} (l : code.latched = true) :
    (s.faulted f code).1.fault = code := by
  rcases (s.fns[f]).motion.fault_cases s.isActive with m | m | ⟨m, rest⟩
  · rw [faulted_held _ m]
  · rw [faulted_stops l m]
    unfold stopsWith
    split <;> rfl
  · rw [faulted_kept _ m rest]

/-- In ACTIVE a function that has taken a latched fault is one that no evaluation moves (R87). -/
theorem faulted_steady {s : State} (f : FnId) {code : FaultCode} (l : code.latched = true) (active : s.isActive = true) :
    (s.faulted f code).1.motion.steady = true := by
  rcases (s.fns[f]).motion.fault_cases s.isActive with m | m | ⟨m, rest⟩
  · rw [faulted_held _ m]
    rfl
  · rw [faulted_stops l m]
    unfold stopsWith
    rw [if_pos l]
    split <;> rfl
  · rw [faulted_kept _ m rest]
    show (s.fns[f]).motion.steady = true
    generalize (s.fns[f]).motion = k at m rest
    cases k with
    | rest => cases active.symm.trans (rest rfl)
    | awaitFlow | pressurise | travel | creep => cases m
    | none | seat | stopping | heldFault => rfl

/-- So the evaluation of its event leaves it as it is. -/
theorem settle_faulted {s t : State} {f : FnId} {code : FaultCode} (l : code.latched = true)
    (slot : t.slot f = s.faulted f code) (active : t.isActive = s.isActive) : t.settle.slot f = t.slot f := by
  have settled := settle_settled t
  by_cases a : s.isActive = true
  · obtain ⟨fn, drive⟩ := settled.steady f (by
      rw [show t.fns[f] = _ from congrArg Prod.fst slot]
      exact faulted_steady f l a)
    rw [State.slot, State.slot, fn, drive]
  · rw [settle_idle (active.trans (Bool.eq_false_iff.mpr a))]

/-! ## The end of a discrepancy -/

/-- A change to UNKNOWN neither loses an end nor gives one back (R99). -/
theorem Fn.refreshed_unknown (old : EndState) (x : Fn) : x.refreshed old .unknown = x := by
  unfold Fn.refreshed Fn.endChanged
  cases old <;> simp

theorem shownFault_disagree (held : FaultCode) :
    shownFault held .sensorDisagree = if held = .transducer then .transducer else .sensorDisagree := by
  cases held <;> rfl

/-- The end is DISAGREED and the end state UNKNOWN; no function is touched by it. -/
theorem disagree_at {s : State} {f : FnId} (e : Dir) (configured : (s.fnSetup f).isSome = true) :
    let u := (s.onFnField f (FnField.setEnd e { state := .disagreed, discrepancy := none })).refreshEnd f
    AtEnd f s u ∧ u.fns[f] = s.fns[f] ∧
    u.field.fns[f] = { (s.field.fns[f]).setEnd e { state := .disagreed, discrepancy := none } with endState := .unknown } := by
  have placed := onFnField_ended f (FnField.setEnd e { state := .disagreed, discrepancy := none }) s
  have own : (s.onFnField f (FnField.setEnd e { state := .disagreed, discrepancy := none })).field.fns[f] =
      (s.field.fns[f]).setEnd e { state := .disagreed, discrepancy := none } := State.onFnField_same _ _ _
  obtain ⟨fn, field⟩ := refreshEnd_at (s.onFnField f (FnField.setEnd e { state := .disagreed, discrepancy := none })) f
  have unknown : (s.onFnField f (FnField.setEnd e { state := .disagreed, discrepancy := none })).endStateNow f = .unknown := by
    unfold State.endStateNow
    rw [if_neg, own, if_pos]
    · cases e
      · exact .inl rfl
      · exact .inr rfl
    · rw [State.onFnField_fnSetup, Bool.not_eq_true, Option.isNone_eq_false_iff]
      exact configured
  refine ⟨placed.trans (refreshEnd_ended f _), ?_, ?_⟩
  · rw [fn, unknown, Fn.refreshed_unknown]
    rfl
  · rw [field, unknown, own]

/-- Settles O27: the end and the end state first, then the fault by R125, which the evaluation leaves as it is. -/
theorem discrepancyDisagrees : Obligations.DiscrepancyDisagrees := by
  unfold Obligations.DiscrepancyDisagrees
  intro f e s running configured pending timed
  obtain ⟨ended, fn, field⟩ := disagree_at e configured
  have ends : exec (.discrepancyExpiry f e) s = .next (State.finish (State.settle (State.takeLatched f .sensorDisagree
      ((s.onFnField f (FnField.setEnd e { state := .disagreed, discrepancy := none })).refreshEnd f)))) :=
    if_pos ⟨running, configured, pending, timed⟩
  generalize (s.onFnField f (FnField.setEnd e { state := .disagreed, discrepancy := none })).refreshEnd f = u at *
  have slot : u.slot f = s.slot f := Prod.ext fn (show u.drive[f] = s.drive[f] by rw [ended.rest])
  have active : u.isActive = s.isActive := by rw [State.isActive, ended.rest]; rfl
  have gone : u.grantGone f = s.grantGone f := (grants_same (by rw [ended.rest]) (.inr (by rw [ended.rest])) f).1
  have moved : Moved f u (u.takeLatched f .sensorDisagree) := takeLatched_moved f rfl u
  have taken : (u.takeLatched f .sensorDisagree).slot f =
      s.faulted f (if (s.fns[f]).fault = .transducer then .transducer else .sensorDisagree) := by
    rw [takeLatched_eq, if_neg nofun, faulting_slot u f rfl, fn, shownFault_disagree, faulted_congr slot active gone]
  generalize u.takeLatched f .sensorDisagree = v at *
  have still : v.settle.slot f = v.slot f := by
    refine settle_faulted ?_ taken ?_
    · split <;> rfl
    · rw [State.isActive, moved.rest]
      exact active
  have settled := settle_settled v
  have same : v.settle.field = u.field := by rw [settled.rest, moved.rest]
  refine ⟨_, ends, ?_, ?_, still.trans taken, fun h ne => ?_, ?_, ?_, ?_, ?_⟩
  · show (v.settle.field.fns[f]).endPair e = _
    rw [same, field]
    cases e <;> rfl
  · show (v.settle.field.fns[f]).endState = _
    rw [same, field]
  · show v.settle.field.fns[h] = _
    rw [same]
    exact (ended.others h (Ne.symm ne)).2
  · show v.settle.field.di = _
    rw [same, ended.rest]
  · show v.settle.image = _
    rw [settled.rest, moved.rest, ended.rest]
  · show v.settle.unit = _
    rw [settled.rest, moved.rest, ended.rest]
  · show v.settle.flow = _
    rw [settled.rest, moved.rest, ended.rest]

end Sys2Proof.Machine
end

section
/-! The position stage of a control period (R100, R101, R119, R125, R129, R130, R136, R152). -/

namespace Sys2Proof.Machine

/-! ## What a conversion does -/

theorem supervise_tripped (f : FnId) (s : State) : Tripped s (s.supervise f) := by
  unfold State.supervise
  dsimp only
  split
  · split
    · exact .refl s
    · split
      · exact takeLatched_tripped f _ s
      · exact (onFn_moved f _ s).act.noticed.tripped
  · exact .refl s

theorem driveStages_tripped (f : FnId) (s : State) : Tripped s (s.driveStages f) := by
  have first : Tripped s (if s.skewTrips f then s.takeLatched f .skew else s) := by
    split
    · exact takeLatched_tripped f _ s
    · exact .refl s
  unfold State.driveStages
  dsimp only
  generalize (if s.skewTrips f then s.takeLatched f .skew else s) = u at first
  split
  · split
    · exact first.trans ((onDrive_moved f _ u).trans (endStopping_moved f _)).noticed.tripped
    · exact first.trans (onDrive_moved f _ u).noticed.tripped
  · exact first

/-- The station with a reading and the position it gives, before anything follows from it. -/
def State.converted (f : FnId) (p : Int) (s : State) : State := s.onFnField f (FnField.converted p (s.fns[f]).fault)

/-- The same, once the publisher has examined it. -/
def State.placed (f : FnId) (p : Int) (s : State) : State :=
  (s.onFnField f (fun y => { y with lastRaw := some p })).act
    (State.onFnField f (fun y => { y with position := (FnField.converted p (s.fns[f]).fault y).position }))

theorem placed_noticed (f : FnId) (p : Int) (s : State) : Noticed (s.converted f p) (s.placed f p) := by
  have same : (s.onFnField f (fun y => { y with lastRaw := some p })).onFnField f (fun y => { y with
      position := (FnField.converted p (s.fns[f]).fault y).position }) = s.converted f p := by
    rw [onFnField_onFnField]
    rfl
  have asked := act_asked (State.onFnField f (fun y => { y with position := (FnField.converted p (s.fns[f]).fault y).position }))
    (s.onFnField f (fun y => { y with lastRaw := some p }))
  have e := act_eq (State.onFnField f (fun y => { y with position := (FnField.converted p (s.fns[f]).fault y).position }))
    (s.onFnField f (fun y => { y with lastRaw := some p }))
  rw [same] at asked e
  unfold State.placed
  generalize State.act _ _ = u at asked e ⊢
  refine ⟨?_, asked⟩
  generalize u.loop.status = x, u.pub.deferred = y at e ⊢
  subst e
  rfl

theorem placed_slot (f : FnId) (p : Int) (s : State) (g : FnId) : (s.placed f p).slot g = s.slot g := slot_act _ _ _

theorem placed_same (f : FnId) (p : Int) (s : State) : let t := s.placed f p
    (t.unit, t.flow, t.image, t.setup, t.station, t.life, t.loop.trip) =
      (s.unit, s.flow, s.image, s.setup, s.station, s.life, s.loop.trip) := by
  unfold State.placed
  rw [act_eq]
  rfl

/-- What a conversion does beside the position: nothing, TRANSDUCER, or the tests of a moving function (R101, R119). -/
theorem convert_eq (f : FnId) (x : FnSetup) (raw : Reading) (s : State) : s.convert f x raw =
    if (s.fns[f]).fault = .transducer then s.converted f (unclamped x raw)
    else if inBand (unclamped x raw) = false then (s.placed f (unclamped x raw)).takeLatched f .transducer
    else if clampPosition (unclamped x raw) = (s.field.fns[f]).position then s.converted f (unclamped x raw)
    else (s.placed f (unclamped x raw)).supervise f := by
  unfold State.convert State.placed State.converted
  generalize unclamped x raw = p
  have read : (FnField.converted p (s.fns[f]).fault s.field.fns[f]).position = (s.field.fns[f]).position →
      s.onFnField f (fun y => { y with lastRaw := some p }) = s.onFnField f (FnField.converted p (s.fns[f]).fault) := by
    intro place
    unfold State.onFnField State.onField
    dsimp only
    rw [show FnField.converted p (s.fns[f]).fault s.field.fns[f] = { s.field.fns[f] with lastRaw := some p } from ?_]
    unfold FnField.converted at place ⊢
    dsimp only at place ⊢
    rw [place]
  by_cases held : (s.fns[f]).fault = .transducer
  · rw [if_pos held, if_pos held]
    exact read (if_pos held)
  · have position : ∀ y : FnField, (FnField.converted p (s.fns[f]).fault y).position =
        if inBand p = true then clampPosition p else Config.noPosition := fun y => if_neg held
    rw [if_neg held, if_neg held]
    simp only [position]
    cases band : inBand p with
    | false => rfl
    | true =>
      by_cases same : clampPosition p = (s.field.fns[f]).position
      · simp only [same]
        exact read ((position _).trans (by rw [band]; exact same))
      · simp only [same]
        rfl

theorem convert_tripped (f : FnId) (x : FnSetup) (raw : Reading) (s : State) :
    Tripped (s.converted f (unclamped x raw)) (s.convert f x raw) := by
  have placed := (placed_noticed f (unclamped x raw) s).tripped
  rw [convert_eq]
  split
  · exact .refl _
  · split
    · exact placed.trans (takeLatched_tripped f _ _)
    · split
      · exact .refl _
      · exact placed.trans (supervise_tripped f _)

/-! ## The drive stages of a function that neither travels nor creeps (R129, R136) -/

/-- What one ramp step leaves of a function and its drive (R122, R129, R136). -/
def State.ramped (s : State) (f : FnId) : Fn × Drive :=
  let lo := s.nextLevel f
  if (s.fns[f]).motion.moving = true then
    if (s.fns[f]).motion = .stopping ∧ lo = 0 then
      ({ (s.fns[f]).quiet with
          motion := if (s.fns[f]).fault.latched then .heldFault else .rest, target := none, released := s.grantGone f }, Drive.off)
    else (s.fns[f], { s.drive[f] with level := lo, prop := (s.drive[f]).prop.hand s.timing.pwm lo })
  else s.slot f

theorem driveStages_ramped {s : State} {f : FnId} (travel : (s.fns[f]).motion ≠ .travel) (creep : (s.fns[f]).motion ≠ .creep) :
    Moved f s (s.driveStages f) ∧ (s.driveStages f).slot f = s.ramped f := by
  have even : s.skewTrips f = false := by
    unfold State.skewTrips
    rw [beq_eq_false_iff_ne.mpr travel, beq_eq_false_iff_ne.mpr creep]
    rfl
  unfold State.driveStages State.ramped
  dsimp only
  rw [even, if_neg Bool.false_ne_true]
  have driven := onDrive_moved f (fun x => { x with
    level := s.nextLevel f, prop := x.prop.hand s.timing.pwm (s.nextLevel f) }) s
  have slot : (s.onDrive f (fun x => { x with level := s.nextLevel f, prop := x.prop.hand s.timing.pwm (s.nextLevel f) })).slot f =
      (s.fns[f], { s.drive[f] with level := s.nextLevel f, prop := (s.drive[f]).prop.hand s.timing.pwm (s.nextLevel f) }) := by
    rw [State.slot, State.onDrive_same, State.onDrive_fns]
  split
  · split
    next ends =>
      refine ⟨driven.trans (endStopping_moved f _), ?_⟩
      unfold State.endStopping
      rw [slot_act, toIdle_slot, driven.grantGone, State.onDrive_fns, ends.1]
      rfl
    · exact ⟨driven, slot⟩
  · exact ⟨.refl f s, rfl⟩

theorem nextLevel_stopping {s : State} {f : FnId} {d : Dir} (m : (s.fns[f]).motion = .stopping)
    (target : (s.fns[f]).target = some d) :
    s.nextLevel f = (s.drive[f]).level - min (s.profile f).stopRamp (s.drive[f]).level := by
  unfold State.nextLevel rampStep
  dsimp only
  rw [m, target]
  dsimp only
  rw [if_neg (Nat.not_lt_zero _), Nat.sub_zero]

theorem nextLevel_seat {s : State} {f : FnId} {d : Dir} (m : (s.fns[f]).motion = .seat) (target : (s.fns[f]).target = some d) :
    s.nextLevel f = if (s.drive[f]).level < (s.profile f).creepLevel
      then (s.drive[f]).level + min (s.profile f).ramp ((s.profile f).creepLevel - (s.drive[f]).level)
      else (s.drive[f]).level - min (s.profile f).ramp ((s.drive[f]).level - (s.profile f).creepLevel) := by
  unfold State.nextLevel rampStep
  dsimp only
  rw [m, target]

/-- After a ramp step in ACTIVE a function that no evaluation moves is one still (R87). -/
theorem ramped_steady {s : State} {f : FnId} (steady : (s.fns[f]).motion.steady = true)
    (latched : (s.fns[f]).fault.latched = true) : (s.ramped f).1.motion.steady = true := by
  unfold State.ramped
  dsimp only
  rw [if_pos latched]
  split
  · split
    · rfl
    · exact steady
  · exact steady

theorem ramped_fault (s : State) (f : FnId) : (s.ramped f).1.fault = (s.fns[f]).fault := by
  unfold State.ramped
  dsimp only
  split
  · split <;> rfl
  · rfl

/-! ## Outside ACTIVE the stages touch their function only -/

theorem takeLatched_alone {s : State} (f : FnId) (code : FaultCode) (out : s.isActive = false) :
    Moved f s (s.takeLatched f code) := by
  have moved := faulting_moved f code s
  have after : (s.faulting f code).isActive = false := by
    rw [State.isActive, moved.rest]
    exact out
  rw [takeLatched_eq]
  split
  · unfold State.raiseCause
    rw [if_neg (by rw [after]; exact nofun)]
    exact moved
  · exact moved

theorem supervise_alone {s : State} (f : FnId) (out : s.isActive = false) : Moved f s (s.supervise f) := by
  unfold State.supervise
  dsimp only
  split
  · split
    · exact .refl f s
    · split
      · exact takeLatched_alone f _ out
      · exact (onFn_moved f _ s).act
  · exact .refl f s

theorem driveStages_alone {s : State} (f : FnId) (out : s.isActive = false) : Moved f s (s.driveStages f) := by
  have first : Moved f s (if s.skewTrips f then s.takeLatched f .skew else s) := by
    split
    · exact takeLatched_alone f _ out
    · exact .refl f s
  unfold State.driveStages
  dsimp only
  generalize (if s.skewTrips f then s.takeLatched f .skew else s) = u at first
  split
  · split
    · exact first.trans ((onDrive_moved f _ u).trans (endStopping_moved f _))
    · exact first.trans (onDrive_moved f _ u)
  · exact first

theorem Moved.isActive {f : FnId} {s t : State} (h : Moved f s t) : t.isActive = s.isActive := by
  rw [State.isActive, h.rest]
  rfl

/-- What a conversion and the stages after it leave alone outside ACTIVE. -/
theorem controlPeriod_alone {s : State} (f : FnId) (x : FnSetup) (raw : Reading) (out : s.isActive = false) :
    let t := (((s.convert f x raw).settle).driveStages f).settle
    t.unit = s.unit ∧ t.flow = s.flow ∧ ∀ h : FnId, f ≠ h → t.fns[h] = s.fns[h] := by
  have same := placed_same f (unclamped x raw) s
  simp only [Prod.mk.injEq] at same
  obtain ⟨unit, flow, -, -, -, life, -⟩ := same
  have placed : ∀ {u : State}, (s.placed f (unclamped x raw)).isActive = false → Moved f (s.placed f (unclamped x raw)) u →
      u.isActive = false ∧ u.unit = s.unit ∧ u.flow = s.flow ∧ ∀ h : FnId, f ≠ h → u.fns[h] = s.fns[h] := by
    intro u i moved
    refine ⟨moved.isActive.trans i, ?_, ?_, fun h ne => (moved.others h ne).1.trans (congrArg Prod.fst (placed_slot f _ s h))⟩
    · rw [moved.rest]; exact unit
    · rw [moved.rest]; exact flow
  have still : (s.placed f (unclamped x raw)).isActive = false := by
    rw [State.isActive, life]
    exact out
  have converted : (s.convert f x raw).isActive = false ∧ (s.convert f x raw).unit = s.unit ∧
      (s.convert f x raw).flow = s.flow ∧ ∀ h : FnId, f ≠ h → (s.convert f x raw).fns[h] = s.fns[h] := by
    rw [convert_eq]
    split
    · exact ⟨out, rfl, rfl, fun _ _ => rfl⟩
    · split
      · exact placed still (takeLatched_alone f _ still)
      · split
        · exact ⟨out, rfl, rfl, fun _ _ => rfl⟩
        · exact placed still (supervise_alone f still)
  obtain ⟨i, unit, flow, fns⟩ := converted
  have moved := driveStages_alone f i
  dsimp only
  rw [settle_idle i, settle_idle (moved.isActive.trans i)]
  refine ⟨?_, ?_, fun h ne => (moved.others h ne).1.trans (fns h ne)⟩
  · rw [moved.rest]; exact unit
  · rw [moved.rest]; exact flow

/-! ## TRANSDUCER (R101, R125) -/

/-- In the states to which a latched fault brings a function its movement has ended or is ending. -/
theorem faulted_motion (s : State) (f : FnId) {code : FaultCode} (l : code.latched = true) :
    (s.faulted f code).1.motion ≠ .travel ∧ (s.faulted f code).1.motion ≠ .creep ∧ (s.faulted f code).1.motion ≠ .pressurise := by
  rcases (s.fns[f]).motion.fault_cases s.isActive with m | m | ⟨m, rest⟩
  · rw [faulted_held _ m]
    exact ⟨nofun, nofun, nofun⟩
  · rw [faulted_stops l m]
    unfold stopsWith
    rw [if_pos l]
    split <;> exact ⟨nofun, nofun, nofun⟩
  · rw [faulted_kept _ m rest]
    refine ⟨fun e => ?_, fun e => ?_, fun e => ?_⟩ <;> rw [show (s.fns[f]).motion = _ from e] at m <;> cases m

/-- A function in STOPPING or SEAT by a fault was moving before, toward the same end. -/
theorem faulted_target {s : State} {f : FnId} {code : FaultCode} (l : code.latched = true)
    (m : (s.faulted f code).1.motion = .stopping ∨ (s.faulted f code).1.motion = .seat) :
    (s.fns[f]).motion.moving = true ∧ (s.faulted f code).1.target = (s.fns[f]).target := by
  rcases (s.fns[f]).motion.fault_cases s.isActive with c | c | ⟨c, rest⟩
  · rw [faulted_held _ c] at m
    rcases m with m | m <;> cases m
  · refine ⟨by rcases c with c | c | c <;> rw [c] <;> rfl, ?_⟩
    rw [faulted_stops l c] at m ⊢
    unfold stopsWith at m ⊢
    rw [if_pos l] at m ⊢
    split at m
    · rcases m with m | m <;> cases m
    next some => rw [if_neg some]; rfl
  · rw [faulted_kept _ c rest] at m ⊢
    refine ⟨?_, rfl⟩
    change (s.fns[f]).motion = .stopping ∨ (s.fns[f]).motion = .seat at m
    rcases m with m | m <;> rw [m] <;> rfl

/-- A ramp step of a function at rest is none. -/
theorem ramped_still {s : State} {f : FnId} (still : (s.fns[f]).motion.moving = false) : s.ramped f = s.slot f := by
  unfold State.ramped
  dsimp only
  rw [still, if_neg Bool.false_ne_true]

theorem Settled.grantGone {s t : State} (h : Settled s t) (f : FnId) : t.grantGone f = s.grantGone f :=
  (grants_same (by rw [h.rest]) (.inr (by rw [h.rest])) f).1

/-- The station after a conversion out of band and the evaluation that follows. -/
theorem transducer_taken {s : State} {f : FnId} {x : FnSetup} {raw : Reading} (free : (s.fns[f]).fault ≠ .transducer)
    (out : inBand (unclamped x raw) = false) : let w := (s.convert f x raw).settle
    w.slot f = s.faulted f .transducer ∧ w.isActive = s.isActive ∧ w.grantGone f = s.grantGone f ∧ w.setup = s.setup := by
  have same := placed_same f (unclamped x raw) s
  simp only [Prod.mk.injEq] at same
  obtain ⟨-, flow, image, setup, station, life, -⟩ := same
  have slot := placed_slot f (unclamped x raw) s f
  have active : (s.placed f (unclamped x raw)).isActive = s.isActive := by rw [State.isActive, life]; rfl
  have gone : (s.placed f (unclamped x raw)).grantGone f = s.grantGone f :=
    (grants_same (by rw [image, setup, station, life]) (.inr (by rw [flow])) f).1
  have moved := takeLatched_moved f (c := .transducer) rfl (s.placed f (unclamped x raw))
  have taken : ((s.placed f (unclamped x raw)).takeLatched f .transducer).slot f = s.faulted f .transducer := by
    rw [takeLatched_eq, if_neg nofun, faulting_slot _ f rfl, shownFault_transducer, faulted_congr slot active gone]
  dsimp only
  rw [convert_eq, if_neg free, if_pos out]
  have settled := settle_settled ((s.placed f (unclamped x raw)).takeLatched f .transducer)
  refine ⟨(settle_faulted rfl taken (moved.isActive.trans active)).trans taken,
    settled.isActive.trans (moved.isActive.trans active), (settled.grantGone f).trans ((moved.grantGone f).trans gone), ?_⟩
  rw [settled.rest, moved.rest]
  exact setup

/-- Then the ramp step, and an evaluation that leaves the function as it is. -/
theorem transducer_ramped {s w : State} {f : FnId} (slot : w.slot f = s.faulted f .transducer) (active : w.isActive = s.isActive) :
    ((w.driveStages f).settle).slot f = w.ramped f := by
  have fn : w.fns[f] = (s.faulted f .transducer).1 := congrArg Prod.fst slot
  obtain ⟨travel, creep, -⟩ := faulted_motion s f (code := .transducer) rfl
  obtain ⟨moved, ramped⟩ := driveStages_ramped (s := w) (f := f) (by rw [fn]; exact travel) (by rw [fn]; exact creep)
  refine Eq.trans ?_ ramped
  by_cases a : s.isActive = true
  · have steady : ((w.driveStages f).fns[f]).motion.steady = true := by
      rw [show (w.driveStages f).fns[f] = _ from congrArg Prod.fst ramped]
      refine ramped_steady ?_ ?_ <;> rw [fn]
      · exact faulted_steady f rfl a
      · rw [faulted_fault s f rfl]
        rfl
    obtain ⟨fn', drive'⟩ := (settle_settled (w.driveStages f)).steady f steady
    rw [State.slot, State.slot, fn', drive']
  · rw [settle_idle (moved.isActive.trans (active.trans (Bool.eq_false_iff.mpr a)))]

/-! ## WRONG_DIRECTION and its trip (R119, R151, R152) -/

theorem haltsWith_still {gone : Bool} {a : Fn × Drive} (still : a.1.motion.stoppable = false) : haltsWith gone a = a := by
  unfold haltsWith
  generalize a.1.motion = m at still
  cases m with
  | awaitFlow | pressurise | travel | creep => cases still
  | none | rest | seat | stopping | heldFault => rfl

theorem eachFn_flow {op : FnId → State → State} (moved : ∀ f s, Moved f s (op f s)) (s : State) : (s.eachFn op).flow = s.flow :=
  Kept.eachFn (P := fun u => u.flow = s.flow) (op := op) (fun f u h => by rw [(moved f u).rest]; exact h) rfl

/-- The entry of an own C_STOP: it stops every function where it is gained, and leaves one that nothing stops. -/
theorem enterTrip_halts (n : StationId) (s : State) :
    (∀ f : FnId, (s.fns[f]).motion.stoppable = false → (s.enterTrip n .cStop).slot f = s.slot f) ∧
    (s.unit.trips[n] = none → ∀ f : FnId, ((s.enterTrip n .cStop).fns[f]).motion.stoppable = false) ∧
    (s.enterTrip n .cStop).flow = s.flow := by
  have flow : ∀ t : State, (t.eachFn State.halt).flow = t.flow := eachFn_flow halt_moved
  have halted : ∀ (e : Option StopClass) (f : FnId), (s.fns[f]).motion.stoppable = false →
      (State.eachFn State.halt (s.onUnit (fun u => { u with trips := u.trips.set n e }))).slot f = s.slot f := fun e f still => by
    rw [Drift.halts_slot]
    exact haltsWith_still still
  unfold State.enterTrip
  dsimp only
  cases s.unit.trips[n] with
  | none => exact ⟨halted _, fun _ => Drift.halts_stoppable _, flow _⟩
  | some h => cases h <;> exact ⟨fun _ _ => rfl, nofun, rfl⟩

theorem queueTrip_slot (r : TripReason) (s : State) : (∀ f, (s.queueTrip r).slot f = s.slot f) ∧ (s.queueTrip r).flow = s.flow := by
  unfold State.queueTrip
  split <;> exact ⟨fun _ => rfl, rfl⟩

/-- A cause that is no opening of the stop loop rises. -/
theorem raiseCause_halts {s : State} {r : TripReason} (active : s.isActive = true) (cause : s.tripCause = some r)
    (soft : r ≠ .stopLoopOpen) : (∀ f : FnId, (s.fns[f]).motion.stoppable = false → s.raiseCause.slot f = s.slot f) ∧
    (s.unit.trips[s.station] = none → ∀ f : FnId, ((s.raiseCause).fns[f]).motion.stoppable = false) ∧
    s.raiseCause.flow = s.flow := by
  have cls : r.cls = .cStop := by cases r <;> first | rfl | exact absurd rfl soft
  have first : ∀ f : FnId, (s.act (State.onUnit (fun u => { u with tripAsserted := true }))).slot f = s.slot f :=
    fun f => slot_act _ s f
  have trips : (s.act (State.onUnit (fun u => { u with tripAsserted := true }))).unit.trips = s.unit.trips := by
    rw [act_unit]; rfl
  obtain ⟨kept, halted, flow⟩ := enterTrip_halts s.station (s.act (State.onUnit (fun u => { u with tripAsserted := true })))
  rw [trips] at halted
  rw [act_flow] at flow
  rw [raiseCause_eq active cause, cls, queueTrip_fns]
  obtain ⟨queued, queuedFlow⟩ := queueTrip_slot r
    (State.enterTrip s.station .cStop (s.act (State.onUnit (fun u => { u with tripAsserted := true }))))
  refine ⟨fun f still => (queued f).trans ((kept f ?_).trans (first f)), halted, queuedFlow.trans flow⟩
  rw [show (State.act _ s).fns[f] = s.fns[f] from congrArg Prod.fst (first f)]
  exact still

/-- A function of an ACTIVE station has taken a fault that is a trip cause and has not been handed on yet. -/
structure Struck (f : FnId) (code : FaultCode) (s v : State) : Prop where
  slot : v.slot f = stopsWith code (s.grantGone f) (s.slot f)
  others : ∀ g : FnId, f ≠ g → v.fns[g] = s.fns[g]
  same : (v.unit, v.station, v.setup, v.life, v.loop.trip, v.field.stopLoopClosed, v.field.supplyOk) =
    (s.unit, s.station, s.setup, s.life, s.loop.trip, s.field.stopLoopClosed, s.field.supplyOk)
  gone : v.grantGone f = s.grantGone f

theorem faulting_struck {s u : State} {f : FnId} {code : FaultCode} (latched : code.latched = true) (unlatched : (s.fns[f]).fault.latched = false)
    (travels : (s.fns[f]).motion = .travel ∨ (s.fns[f]).motion = .creep) (slots : ∀ g, u.slot g = s.slot g)
    (same : (u.unit, u.flow, u.image, u.setup, u.station, u.life, u.loop.trip) =
      (s.unit, s.flow, s.image, s.setup, s.station, s.life, s.loop.trip))
    (supervised : (u.field.stopLoopClosed, u.field.supplyOk) = (s.field.stopLoopClosed, s.field.supplyOk)) :
    Struck f code s (u.faulting f code) := by
  simp only [Prod.mk.injEq] at same supervised
  obtain ⟨unit, flow, image, setup, station, life, trip⟩ := same
  obtain ⟨closed, supply⟩ := supervised
  have gone : u.grantGone f = s.grantGone f :=
    (grants_same (by rw [image, setup, station, life]) (.inr (by rw [flow])) f).1
  have activeU : u.isActive = s.isActive := by rw [State.isActive, life]; rfl
  have shown : shownFault (s.fns[f]).fault code = code := by
    unfold shownFault
    rw [unlatched, if_neg (fun c => Bool.false_ne_true c.1)]
  have fns : ∀ g : FnId, u.fns[g] = s.fns[g] := fun g => congrArg Prod.fst (slots g)
  have moved := faulting_moved f code u
  refine ⟨?_, fun g ne => (moved.others g ne).1.trans (fns g), ?_, (moved.grantGone f).trans gone⟩
  · rw [faulting_slot u f latched, fns f, shown, faulted_congr (slots f) activeU gone, faulted_stops latched (.inr travels)]
  · rw [moved.rest]
    simp only [unit, setup, station, life, trip, closed, supply]

section
variable {s v : State} {f : FnId} {code : FaultCode}

/-- The function is in STOPPING, or in HELD_FAULT where its level was 0 already. -/
theorem Struck.fn (h : Struck f code s v) (latched : code.latched = true) : (v.fns[f]).fault = code ∧
    ((v.fns[f]).motion = .stopping ∨ (v.fns[f]).motion = .heldFault) := by
  rw [show v.fns[f] = _ from congrArg Prod.fst h.slot]
  unfold stopsWith
  rw [if_pos latched]
  split
  · exact ⟨rfl, .inr rfl⟩
  · exact ⟨rfl, .inl rfl⟩

theorem Struck.cause (h : Struck f code s v) (trips : code.raisesTrip = true) (latched : code.latched = true)
    (loop : s.field.stopLoopClosed = true) : ∃ r, v.tripCause = some r ∧ r ≠ .stopLoopOpen ∧
      (s.field.supplyOk = true → (∀ g : FnId, g < f → (s.fns[g]).fault.raisesTrip = false) → r = .functionFault f) := by
  have same := h.same
  simp only [Prod.mk.injEq] at same
  obtain ⟨-, -, -, -, -, closed, supply⟩ := same
  have raises : (v.fns[f]).fault.raisesTrip = true := by rw [(h.fn latched).1]; exact trips
  cases e : s.field.supplyOk with
  | false => exact ⟨.fieldSupplyLow, tripCause_supply (closed.trans loop) (supply.trans e), nofun, nofun⟩
  | true =>
    rw [tripCause_fault (closed.trans loop) (supply.trans e)]
    cases found : slots.find? (fun g => (v.fns[g]).fault.raisesTrip) with
    | none => exact absurd raises (List.find?_eq_none.mp found f (mem_slots f))
    | some g =>
      refine ⟨.functionFault g, rfl, nofun, fun _ before => ?_⟩
      have first := find_slot (p := fun g => (v.fns[g]).fault.raisesTrip) raises
        (fun g less => by rw [h.others g (ne_of_gt less)]; exact before g less)
      rw [found] at first
      rw [Option.some.inj first]

/-- What the ramp step of the same control period leaves of it (R122, R136). -/
theorem ramped_stopped {w : State} {x : FnSetup} {d : Dir} (slot : w.slot f = stopsWith code (s.grantGone f) (s.slot f))
    (latched : code.latched = true) (configured : s.fnSetup f = some x) (target : (s.fns[f]).target = some d)
    (setup : w.setup = s.setup) (gone : w.grantGone f = s.grantGone f) : w.ramped f =
      if (s.drive[f]).level ≤ (x.profile d).stopRamp then
        ({ (s.fns[f]).quiet with motion := .heldFault, target := none, fault := code, released := s.grantGone f }, Drive.off)
      else ({ (s.fns[f]).quiet with motion := .stopping, fault := code }, { s.drive[f] with
        level := (s.drive[f]).level - (x.profile d).stopRamp
        prop := (s.drive[f]).prop.hand s.timing.pwm ((s.drive[f]).level - (x.profile d).stopRamp) }) := by
  unfold stopsWith at slot
  rw [if_pos latched] at slot
  by_cases zero : (s.drive[f]).level = 0
  · rw [if_pos (show (s.slot f).2.level = 0 from zero)] at slot
    rw [if_pos (by rw [zero]; exact Nat.zero_le _), ramped_still (by rw [show w.fns[f] = _ from congrArg Prod.fst slot]; rfl), slot]
    rfl
  · rw [if_neg (show (s.slot f).2.level ≠ 0 from zero)] at slot
    have fn : w.fns[f] = { (s.fns[f]).quiet with motion := .stopping, fault := code } := congrArg Prod.fst slot
    have drive : w.drive[f] = s.drive[f] := congrArg Prod.snd slot
    have profile : w.profile f = x.profile d := by
      rw [profile_congr (s := s) setup (by rw [fn]; rfl), State.profile, configured, target]
    have level : w.nextLevel f = (s.drive[f]).level - min (x.profile d).stopRamp (s.drive[f]).level := by
      rw [nextLevel_stopping (d := d) (by rw [fn]) (by rw [fn]; exact target), profile, drive]
    have timing : w.timing = s.timing := by rw [State.timing, State.timing, State.cfg, State.cfg, setup]
    unfold State.ramped
    dsimp only
    rw [level, timing, gone, fn, drive, if_pos (show Motion.moving .stopping = true from rfl)]
    by_cases low : (s.drive[f]).level ≤ (x.profile d).stopRamp
    · have ends : Motion.stopping = .stopping ∧ (s.drive[f]).level - min (x.profile d).stopRamp (s.drive[f]).level = 0 :=
        ⟨rfl, by omega⟩
      rw [if_pos ends, if_pos low]
      simp only [latched, if_true]
      rfl
    · have goes : ¬(Motion.stopping = .stopping ∧ (s.drive[f]).level - min (x.profile d).stopRamp (s.drive[f]).level = 0) :=
        fun c => low (by omega)
      rw [if_neg goes, if_neg low, Nat.min_eq_left (by omega)]

/-- The fault has been handed on: TRIP_ASSERTED, the own entry of the trip list, the stops and the TRIP of it (R55, R152). -/
structure Raised (f : FnId) (code : FaultCode) (s u : State) : Prop where
  slot : u.slot f = stopsWith code (s.grantGone f) (s.slot f)
  gone : u.grantGone f = s.grantGone f
  setup : u.setup = s.setup
  asserted : u.unit.tripAsserted = true
  own : u.unit.trips[s.station] = some ((s.unit.trips[s.station]).getD .cStop)
  halted : s.unit.trips[s.station] = none → ∀ g : FnId, (u.fns[g]).motion.stoppable = false
  queued : s.role = .motion → s.field.supplyOk = true → (∀ g : FnId, g < f → (s.fns[g]).fault.raisesTrip = false) →
    u.loop.trip = s.loop.trip.request (.functionFault f)

theorem Struck.raised (h : Struck f code s v) (trips : code.raisesTrip = true) (latched : code.latched = true)
    (active : s.isActive = true) (loop : s.field.stopLoopClosed = true) : Raised f code s v.raiseCause := by
  obtain ⟨r, cause, soft, first⟩ := h.cause trips latched loop
  have same := h.same
  simp only [Prod.mk.injEq] at same
  obtain ⟨unit, station, setup, life, trip, -, -⟩ := same
  obtain ⟨-, rests⟩ := h.fn latched
  have activeV : v.isActive = true := by rw [State.isActive, life]; exact active
  have roleV : v.role = s.role := by rw [State.role, State.role, State.cfg, State.cfg, setup]
  have tripped := raiseCause_tripped v
  obtain ⟨kept, halted, flow⟩ := raiseCause_halts activeV cause soft
  obtain ⟨asserted, own⟩ := raiseCause_unit activeV cause
  simp only [station, unit] at own halted
  refine ⟨(kept f (by rcases rests with m | m <;> rw [m] <;> rfl)).trans h.slot,
    (grants_same (s := v) (by rw [tripped.rest]) (.inr (by rw [flow])) f).1.trans h.gone, ?_, asserted, ?_, halted,
    fun m supply before => ?_⟩
  · rw [tripped.rest]
    exact setup
  · rw [own]
    simp only [soft, or_false]
    generalize s.unit.trips[s.station] = e
    rcases e with - | - | - <;> simp
  · rw [(raiseCause_queued activeV cause (roleV.trans m)).1, trip, first supply before]

/-- With an entry in the trip list nothing leaves REST (R110). -/
theorem Raised.barred {u w : State} (h : Raised f code s u) (same : w.unit = u.unit) : w.barred := by
  refine .inr (.inr (.inl ?_))
  rw [Bool.eq_false_iff, Ne, tripFree_iff]
  intro none
  have held := none s.station
  rw [same, h.own] at held
  cases held

/-- A function that a latched fault stops is one that no evaluation moves (R87). -/
theorem Raised.steady {u : State} (h : Raised f code s u) (latched : code.latched = true) :
    (u.fns[f]).motion.steady = true ∧ (u.fns[f]).fault.latched = true := by
  rw [show u.fns[f] = _ from congrArg Prod.fst h.slot]
  unfold stopsWith
  rw [if_pos latched]
  split <;> exact ⟨rfl, latched⟩

/-- The rest of the control period: evaluation, ramp step, evaluation (R129). -/
theorem Raised.ramps {u : State} (h : Raised f code s u) (latched : code.latched = true) :
    let t := ((u.settle).driveStages f).settle
    t.slot f = u.settle.ramped f ∧ t.unit = u.unit ∧ t.loop.trip = u.loop.trip ∧ Drift u t := by
  obtain ⟨steady, held⟩ := h.steady latched
  have first := settle_settled u
  have fn := (first.steady f steady).1
  have unit : u.settle.unit = u.unit := by rw [first.rest]
  have trip : u.settle.loop.trip = u.loop.trip := by rw [first.rest]
  have drift := (Drift.settle (h.barred rfl)).trans (Drift.driveStages f u.settle)
  rw [← fn] at steady held
  obtain ⟨moved, slot⟩ := driveStages_ramped (s := u.settle) (f := f) (fun e => by rw [e] at steady; cases steady)
    (fun e => by rw [e] at steady; cases steady)
  have after := ramped_steady steady held
  have unitY : (u.settle.driveStages f).unit = u.unit := by rw [moved.rest]; exact unit
  have tripY : (u.settle.driveStages f).loop.trip = u.loop.trip := by rw [moved.rest]; exact trip
  dsimp only
  generalize u.settle.driveStages f = y at *
  have last := settle_settled y
  obtain ⟨fnY, driveY⟩ := last.steady f (by rw [show y.fns[f] = _ from congrArg Prod.fst slot]; exact after)
  refine ⟨(Prod.ext fnY driveY : y.settle.slot f = y.slot f).trans slot, ?_, ?_, drift.trans (Drift.settle (h.barred unitY))⟩
  · rw [last.rest]
    exact unitY
  · rw [last.rest]
    exact tripY

/-- The fault is handed on, and the ramp step of the same control period follows: all that it does (R55, R119, R151, R152). -/
theorem Struck.takesTrip {x : FnSetup} {d : Dir} (h : Struck f code s v) (trips : code.raisesTrip = true)
    (latched : code.latched = true) (active : s.isActive = true) (loop : s.field.stopLoopClosed = true)
    (configured : s.fnSetup f = some x) (target : (s.fns[f]).target = some d) :
    TakesTrip f code (x.profile d).stopRamp s (((v.raiseCause.settle).driveStages f).settle) := by
  have raised := h.raised trips latched active loop
  generalize v.raiseCause = u at raised
  have settled := settle_settled u
  obtain ⟨fn, drive⟩ := settled.steady f (raised.steady latched).1
  have ramp := ramped_stopped ((Prod.ext fn drive : u.settle.slot f = u.slot f).trans raised.slot) latched configured target
    (by rw [settled.rest]; exact raised.setup) ((settled.grantGone f).trans raised.gone)
  obtain ⟨slot, unit, trip, drift⟩ := raised.ramps latched
  rw [ramp] at slot
  generalize ((u.settle).driveStages f).settle = t at *
  refine ⟨?_, ?_, ?_, ?_, fun none g => ?_, fun m supply before => trip.trans (raised.queued m supply before)⟩
  · rw [show t.fns[f] = _ from congrArg Prod.fst slot]
    split <;> rfl
  · rw [show t.drive[f] = _ from congrArg Prod.snd slot]
    split <;> rfl
  · rw [unit]
    exact raised.asserted
  · rw [unit]
    exact raised.own
  · have still : (t.fns[g]).motion.stoppable = false := by
      by_contra stops
      cases (raised.halted none g).symm.trans ((drift.turns g).stops (Bool.eq_true_of_not_eq_false stops))
    refine ⟨fun e => ?_, fun e => ?_, fun e => ?_, fun e => ?_⟩ <;> rw [e] at still <;> cases still

end

/-! ## A whole control period (R129) -/

section
variable {s : State} {f : FnId} {x : FnSetup} {raw : Reading}

theorem controlPeriod_runs (running : s.running = true) (configured : s.fnSetup f = some x) (positioned : x.kind = .positioned) :
    exec (.controlPeriod f raw) s = .next (State.finish ((((State.convert f x raw
      (s.onField (fun y => { y with lines := lineReading y.lines f raw }))).settle).driveStages f).settle)) := by
  show execControlPeriod f raw s = _
  unfold execControlPeriod
  rw [configured]
  exact if_pos ⟨running, positioned⟩

/-- The stages after a conversion change what a trip may change. -/
theorem controlPeriod_tripped (s : State) (f : FnId) (x : FnSetup) (raw : Reading) :
    Tripped (s.converted f (unclamped x raw)) (State.finish ((((s.convert f x raw).settle).driveStages f).settle)) :=
  ((((convert_tripped f x raw s).trans (settle_settled _).noticed.tripped).trans (driveStages_tripped f _)).trans
    (settle_settled _).noticed.tripped).trans (Tripped.finish _)

/-- TRANSDUCER by motion state, then what the ramp step leaves (R101, R125, R136). -/
theorem transducer_period (s : State) (free : (s.fns[f]).fault ≠ .transducer) (out : inBand (unclamped x raw) = false) :
    ∃ w : State, w.slot f = s.faulted f .transducer ∧ w.grantGone f = s.grantGone f ∧ w.setup = s.setup ∧
      ((((s.convert f x raw).settle).driveStages f).settle).slot f = w.ramped f := by
  obtain ⟨slot, active, gone, setup⟩ := transducer_taken free out
  exact ⟨_, slot, gone, setup, transducer_ramped slot active⟩

/-- The ramp step of a function in STOPPING or SEAT by TRANSDUCER, and of any other (R125, R136). -/
theorem ramped_transducer {w : State} (slot : w.slot f = s.faulted f .transducer) (gone : w.grantGone f = s.grantGone f)
    (setup : w.setup = s.setup) (target : (s.fns[f]).motion.moving = true → (s.fns[f]).target.isSome = true) :
    let y := (s.faulted f .transducer).1
    let drive := (s.faulted f .transducer).2
    let lo := drive.level
    let q := s.profile f
    let level := if y.motion = .stopping then lo - min q.stopRamp lo
      else if lo < q.creepLevel then lo + min q.ramp (q.creepLevel - lo) else lo - min q.ramp (lo - q.creepLevel)
    (y.motion = .stopping → level = 0 →
      w.ramped f = ({ y.quiet with motion := .heldFault, target := none, released := s.grantGone f }, Drive.off)) ∧
    (y.motion = .seat ∨ (y.motion = .stopping ∧ level ≠ 0) →
      w.ramped f = (y, { drive with level := level, prop := drive.prop.hand s.timing.pwm level })) ∧
    (y.motion ≠ .seat → y.motion ≠ .stopping → w.ramped f = (y, drive)) := by
  have latched : (s.faulted f .transducer).1.fault = .transducer := faulted_fault s f rfl
  obtain ⟨travel, creep, pressurise⟩ := faulted_motion s f (code := .transducer) rfl
  have aims : ∀ m, (s.faulted f .transducer).1.motion = m → m = .stopping ∨ m = .seat →
      ∃ d, w.profile f = s.profile f ∧ (s.faulted f .transducer).1.target = some d := fun m e c => by
    obtain ⟨moving, same⟩ := faulted_target (s := s) (f := f) (code := .transducer) rfl (by rw [e]; exact c)
    obtain ⟨d, aim⟩ := Option.isSome_iff_exists.mp (target moving)
    refine ⟨d, profile_congr setup ?_, same.trans aim⟩
    rw [show w.fns[f] = _ from congrArg Prod.fst slot, same]
  have timing : w.timing = s.timing := by rw [State.timing, State.timing, State.cfg, State.cfg, setup]
  have fn : w.fns[f] = (s.faulted f .transducer).1 := congrArg Prod.fst slot
  have drive : w.drive[f] = (s.faulted f .transducer).2 := congrArg Prod.snd slot
  generalize (s.faulted f .transducer).1 = y at *
  generalize (s.faulted f .transducer).2 = d at *
  dsimp only
  refine ⟨fun stopping zero => ?_, fun ramps => ?_, fun seat stopping => ?_⟩
  · obtain ⟨e, profile, aim⟩ := aims _ stopping (.inl rfl)
    have level := nextLevel_stopping (s := w) (by rw [fn]; exact stopping) (by rw [fn]; exact aim)
    rw [if_pos stopping] at zero
    rw [drive, profile, zero] at level
    unfold State.ramped
    dsimp only
    rw [level, fn, stopping, latched, gone, if_pos (show Motion.moving .stopping = true from rfl), if_pos ⟨rfl, rfl⟩]
    rfl
  · have moves : y.motion.moving = true := by rcases ramps with m | ⟨m, -⟩ <;> rw [m] <;> rfl
    have level : w.nextLevel f = if y.motion = .stopping then d.level - min (s.profile f).stopRamp d.level
        else if d.level < (s.profile f).creepLevel then d.level + min (s.profile f).ramp ((s.profile f).creepLevel - d.level)
        else d.level - min (s.profile f).ramp (d.level - (s.profile f).creepLevel) := by
      rcases ramps with m | ⟨m, -⟩
      · obtain ⟨e, profile, aim⟩ := aims _ m (.inr rfl)
        rw [nextLevel_seat (s := w) (by rw [fn]; exact m) (by rw [fn]; exact aim), if_neg (show ¬y.motion = .stopping by rw [m]; nofun), drive,
          profile]
      · obtain ⟨e, profile, aim⟩ := aims _ m (.inl rfl)
        rw [nextLevel_stopping (s := w) (by rw [fn]; exact m) (by rw [fn]; exact aim), if_pos m, drive, profile]
    unfold State.ramped
    dsimp only
    rw [level, fn, drive, timing, if_pos moves]
    refine if_neg fun ends => ?_
    rcases ramps with m | ⟨-, some⟩
    · cases m.symm.trans ends.1
    · exact some ends.2
  · have still : y.motion.moving = false := by
      clear latched fn aims slot
      generalize y.motion = m at *
      cases m with
      | none | rest | awaitFlow | heldFault => rfl
      | pressurise | travel | creep | seat | stopping => contradiction
    rw [ramped_still (by rw [fn]; exact still), State.slot, fn, drive]

/-- The station with its reading and the position that follows, field by field (R100, R101). -/
theorem converted_field (s : State) (f : FnId) (raw : Reading) (p : Int) :
    ({ s with field := { s.field with
        lines := { s.field.lines with ai := s.field.lines.ai.set f raw }
        fns := s.field.fns.set f { s.field.fns[f] with
          lastRaw := some p
          position := if (s.fns[f]).fault = .transducer then (s.field.fns[f]).position
            else if -30 ≤ p ∧ p ≤ 1030 then min p.toNat 1000 else 1023 } } } : State) =
      (s.onField (fun y => { y with lines := lineReading y.lines f raw })).converted f p := by
  unfold State.converted State.onFnField State.onField FnField.converted
  dsimp only
  simp only [inBand_iff]
  rfl

theorem supervise_wrongWay {u : State} {d : Dir} {reference : Nat} (travels : (u.fns[f]).motion = .travel ∨ (u.fns[f]).motion = .creep)
    (target : (u.fns[f]).target = some d) (far : (u.fns[f]).wrongRef = some reference)
    (away : reference + 20 < distance d (u.field.fns[f]).position) : u.supervise f = u.takeLatched f .wrongDirection := by
  unfold State.supervise
  dsimp only
  rw [if_pos travels, target, far]
  exact if_pos (decide_eq_true away)

/-- What the examined station holds for the function's position and for the gate. -/
theorem placed_field (f : FnId) (p : Int) (s : State) :
    ((s.placed f p).field.fns[f]).position = (FnField.converted p (s.fns[f]).fault s.field.fns[f]).position ∧
    ((s.placed f p).field.stopLoopClosed, (s.placed f p).field.supplyOk) = (s.field.stopLoopClosed, s.field.supplyOk) := by
  unfold State.placed
  rw [act_field]
  rw [onFnField_onFnField, State.onFnField_same]
  exact ⟨rfl, rfl⟩

/-- A conversion to a position in the wrong direction (R119). -/
theorem convert_wrongWay {d : Dir} {reference : Nat} (target : (s.fns[f]).target = some d)
    (unlatched : (s.fns[f]).fault.latched = false) (travels : (s.fns[f]).motion = .travel ∨ (s.fns[f]).motion = .creep)
    (far : (s.fns[f]).wrongRef = some reference) (band : inBand (unclamped x raw) = true)
    (moved : clampPosition (unclamped x raw) ≠ (s.field.fns[f]).position)
    (away : reference + 20 < distance d (clampPosition (unclamped x raw))) :
    ∃ v : State, Struck f .wrongDirection s v ∧ s.convert f x raw = v.raiseCause := by
  have free : (s.fns[f]).fault ≠ .transducer := fun e => by rw [e] at unlatched; cases unlatched
  obtain ⟨position, gate⟩ := placed_field f (unclamped x raw) s
  have fn : (s.placed f (unclamped x raw)).fns[f] = s.fns[f] := congrArg Prod.fst (placed_slot f _ s f)
  refine ⟨_, faulting_struck rfl unlatched travels (placed_slot f (unclamped x raw) s) (placed_same f _ s) gate, ?_⟩
  rw [convert_eq, if_neg free, if_neg (by rw [band]; nofun), if_neg moved,
    supervise_wrongWay (d := d) (by rw [fn]; exact travels) (by rw [fn]; exact target) (by rw [fn]; exact far) ?_, takeLatched_eq]
  · exact if_pos rfl
  · rw [position, FnField.converted_in free band]
    exact away

/-- Settles O30: the conversion by the four outcomes of `convert_eq`, then the stages of the same control period. -/
theorem controlPeriodConverts : Obligations.ControlPeriodConverts := by
  unfold Obligations.ControlPeriodConverts
  refine ⟨fun f raw x s running configured positioned => ?_,
    fun f raw x d reference s active configured positioned target unlatched travels far loop above below moved away => ?_⟩
  · have runs := controlPeriod_runs (raw := raw) running configured positioned
    have field := converted_field s f raw (unclamped x raw)
    obtain ⟨r, isRead⟩ : ∃ r, r = s.onField (fun y => { y with lines := lineReading y.lines f raw }) := ⟨_, rfl⟩
    rw [← isRead] at runs field
    have tripped := controlPeriod_tripped r f x raw
    rw [← field] at tripped
    have free : (s.fns[f]).fault ≠ .transducer → (r.fns[f]).fault ≠ .transducer := by rw [isRead]; exact id
    have out : unclamped x raw < -30 ∨ 1030 < unclamped x raw → inBand (unclamped x raw) = false := fun c => by
      rw [Bool.eq_false_iff, Ne, inBand_iff]
      omega
    obtain ⟨sameSlot, sameGone, sameSetup⟩ : r.faulted f .transducer = s.faulted f .transducer ∧
        r.grantGone f = s.grantGone f ∧ r.setup = s.setup := by
      rw [isRead]
      exact ⟨faulted_congr rfl rfl rfl _, rfl, rfl⟩
    have faults := fun c b => transducer_period (x := x) (raw := raw) r (free c) (out b)
    have alone : s.life ≠ .active → _ := fun idle => controlPeriod_alone (s := r) f x raw (by
      rw [isRead]
      exact beq_eq_false_iff_ne.mpr idle)
    have before : r.unit = s.unit ∧ r.flow = s.flow ∧ r.fns = s.fns := by rw [isRead]; exact ⟨rfl, rfl, rfl⟩
    dsimp only at alone
    generalize (((r.convert f x raw).settle).driveStages f).settle = z at runs tripped faults alone
    refine ⟨_, runs, tripped.field, fun c b => ?_, tripped, fun c b aimed => ?_, fun idle => ?_⟩
    · obtain ⟨w, slot, -, -, ramped⟩ := faults c b
      show (z.fns[f]).fault = _
      rw [show z.fns[f] = _ from congrArg Prod.fst ramped, ramped_fault,
        show w.fns[f] = _ from congrArg Prod.fst slot, faulted_fault r f rfl]
    · obtain ⟨w, slot, gone, setup, ramped⟩ := faults c b
      have ends := ramped_transducer (s := s) (slot.trans sameSlot) (gone.trans sameGone) (setup.trans sameSetup) aimed
      rw [← ramped] at ends
      obtain ⟨stops, ramps, stays⟩ := ends
      exact ⟨fun m zero => ⟨congrArg Prod.snd (stops m zero), congrArg Prod.fst (stops m zero)⟩,
        fun m => ⟨congrArg Prod.fst (ramps m), congrArg Prod.snd (ramps m)⟩,
        fun a b => ⟨congrArg Prod.fst (stays a b), congrArg Prod.snd (stays a b)⟩⟩
    · obtain ⟨unit, flow, fns⟩ := alone idle
      obtain ⟨unit', flow', fns'⟩ := before
      exact ⟨unit.trans unit', flow.trans flow', fun h ne => (fns h (Ne.symm ne)).trans (by rw [fns'])⟩
  · have running : s.running = true := by
      rw [State.isActive, beq_iff_eq] at active
      rw [State.running, active]
    have band := (inBand_iff (unclamped x raw)).mpr ⟨above, below⟩
    have far' : reference + 20 < distance d (clampPosition (unclamped x raw)) := by cases d <;> exact away
    obtain ⟨v, struck, taken⟩ := convert_wrongWay (s := s.onField (fun y => { y with lines := lineReading y.lines f raw }))
      target unlatched travels far band moved far'
    have runs := controlPeriod_runs (raw := raw) running configured positioned
    have trips := Struck.takesTrip struck rfl rfl active loop configured target
    rw [← taken] at trips
    generalize State.settle _ = z at runs trips
    obtain ⟨fn, drive, asserted, own, stopped, queued⟩ := trips
    exact ⟨_, runs, fn, drive, asserted, own, stopped, queued⟩

end

end Sys2Proof.Machine
end

section
/-! A station-wide stop: every function and every machine at once (R104, R107, R123, R152, R159, R160, R165). -/

namespace Sys2Proof.Machine

/-! ## The grant computation at a capacity of 0 (R160, R162, R164 to R166) -/

theorem shownClaims_units {s : State} {c : Claim} (shown : c ∈ s.shownClaims) : 0 < c.units := by
  unfold State.shownClaims at shown
  obtain ⟨n, -, shown⟩ := List.mem_flatMap.mp shown
  obtain ⟨f, -, shown⟩ := List.mem_filterMap.mp shown
  cases record : s.peerFn n f with
  | none => rw [record] at shown; cases shown
  | some r =>
    rw [record] at shown
    dsimp only at shown
    split at shown
    next units => cases shown; exact units
    · cases shown

theorem mem_insertClaim {c d : Claim} {q : List Claim} : d ∈ insertClaim c q ↔ d = c ∨ d ∈ q := by
  induction q with
  | nil => simp [insertClaim]
  | cons x xs ih =>
    unfold insertClaim
    split
    · exact List.mem_cons
    · rw [List.mem_cons, ih, List.mem_cons]
      tauto

/-- Claims enter a queue and none leaves it (R162). -/
theorem mem_enterClaims {shown q : List Claim} {d : Claim} (mem : d ∈ q) : d ∈ enterClaims shown q := by
  induction shown generalizing q with
  | nil => exact mem
  | cons c cs ih =>
    unfold enterClaims
    split
    · exact ih mem
    · split
      · exact ih (mem_insertClaim.mpr (.inr mem))
      · exact ih mem

theorem of_mem_enterClaims {shown q : List Claim} {d : Claim} (mem : d ∈ enterClaims shown q) : d ∈ shown ∨ d ∈ q := by
  induction shown generalizing q with
  | nil => exact .inr mem
  | cons c cs ih =>
    unfold enterClaims at mem
    split at mem
    · exact (ih mem).imp_left (List.mem_cons_of_mem c)
    · split at mem
      · rcases ih mem with m | m
        · exact .inl (List.mem_cons_of_mem c m)
        · exact (mem_insertClaim.mp m).imp_left (fun e : d = c => e ▸ List.mem_cons_self)
      · exact (ih mem).imp_left (List.mem_cons_of_mem c)

/-- What the align step leaves: claims that are shown, and grants of claims of the queue (R162). -/
theorem align_shown (s : State) : (∀ c ∈ (s.flow.align s.shownClaims).queue, 0 < c.units) ∧
    ∀ g ∈ (s.flow.align s.shownClaims).grants, 0 < unitsOf (s.flow.align s.shownClaims).queue g := by
  have units : ∀ c ∈ (s.flow.align s.shownClaims).queue, 0 < c.units := fun c mem => by
    rcases of_mem_enterClaims mem with shown | stays
    · exact shownClaims_units shown
    · exact shownClaims_units (List.contains_iff_mem.mp (List.mem_filter.mp stays).2)
  refine ⟨units, fun g mem => ?_⟩
  obtain ⟨-, claimed⟩ := List.mem_filter.mp mem
  obtain ⟨c, stays, is⟩ := List.any_eq_true.mp claimed
  unfold unitsOf
  cases found : claimOf (s.flow.align s.shownClaims).queue g with
  | none => exact absurd is (List.find?_eq_none.mp found c (mem_enterClaims stays))
  | some d => exact units d (List.mem_of_find?_eq_some found)

theorem victim_mem {queue : List Claim} {gs : List (StationId × FnId)} {v : StationId × FnId} (h : victim queue gs = some v) :
    v ∈ gs := by
  induction gs generalizing v with
  | nil => cases h
  | cons g gs ih =>
    unfold victim at h
    split at h
    · cases h
      exact List.mem_cons_self
    next found =>
      split at h <;> cases h
      · exact List.mem_cons_self
      · exact List.mem_cons_of_mem g (ih found)

/-- The revoke step ends within the capacity where every grant may go (R165). -/
theorem revoke_within (queue : List Claim) (capacity : Nat) {n : Nat} {gs : List (StationId × FnId)} (fuel : gs.length ≤ n) :
    grantedUnits queue (revoke queue capacity n gs) ≤ capacity := by
  induction n generalizing gs with
  | zero =>
    rw [List.length_eq_zero_iff.mp (Nat.le_zero.mp fuel)]
    exact Nat.zero_le _
  | succ n ih =>
    unfold revoke
    split
    · assumption
    · split
      next more _ none =>
        cases gs with
        | nil => exact absurd (Nat.zero_le _) more
        | cons g gs =>
          unfold victim at none
          split at none
          · cases none
          · split at none <;> cases none
      next found =>
        have gone := List.length_erase_of_mem (victim_mem found)
        exact ih (by omega)

theorem mem_of_mem_revoke {queue : List Claim} {capacity n : Nat} {gs : List (StationId × FnId)} {g : StationId × FnId}
    (mem : g ∈ revoke queue capacity n gs) : g ∈ gs := by
  induction n generalizing gs with
  | zero => exact mem
  | succ n ih =>
    unfold revoke at mem
    split at mem
    · exact mem
    · split at mem
      · exact mem
      · exact List.mem_of_mem_erase (ih mem)

/-- Grants of claims with units do not fit a capacity of 0 (R165). -/
theorem revoke_zero {queue : List Claim} {gs : List (StationId × FnId)} (units : ∀ g ∈ gs, 0 < unitsOf queue g) :
    revoke queue 0 gs.length gs = [] := by
  have within := revoke_within queue 0 (Nat.le_refl gs.length)
  cases left : revoke queue 0 gs.length gs with
  | nil => rfl
  | cons g rest =>
    have some := units g (mem_of_mem_revoke (by rw [left]; exact List.mem_cons_self))
    rw [left, grantedUnits, List.map_cons, List.sum_cons] at within
    omega

/-- A walk that starts with no grant and no capacity grants nothing (R166). -/
theorem grantWalk_zero {q : List Claim} (units : ∀ c ∈ q, 0 < c.units) : (grantWalk 0 q [] 0).1 = [] := by
  cases q with
  | nil => rfl
  | cons c cs =>
    have some := units c List.mem_cons_self
    unfold grantWalk
    rw [if_neg (by simp), if_neg (by decide), if_neg (by omega)]

theorem startPump_closed {s : State} (gate : s.gateOpen = false) (x : Flow) : s.startPump x = x := by
  unfold State.startPump
  rw [gate]
  exact if_pos rfl

theorem followIdle_rest (n : Nat) (x : Flow) : (x.followIdle n).a = x.a ∧ (x.followIdle n).b = x.b ∧
    (x.followIdle n).capacity = x.capacity := by
  unfold Flow.followIdle
  split <;> exact ⟨rfl, rfl, rfl⟩

/-- With the gate closed the grant computation starts no machine (R139, R167). -/
theorem computed_machines {s : State} (gate : s.gateOpen = false) : s.computed.a = s.flow.a ∧ s.computed.b = s.flow.b ∧
    s.computed.capacity = s.flow.capacity := by
  unfold State.computed
  dsimp only
  simp only [startPump_closed gate, ite_self]
  generalize granted : (ite (s.unit.restartHold || s.loop.lone) _ _ : Flow) = x
  obtain ⟨a, b, capacity⟩ := followIdle_rest s.cfg.own.idleStopS x
  rw [a, b, capacity, ← granted]
  split <;> exact ⟨rfl, rfl, rfl⟩

/-- With no capacity it leaves no grant (R165, R166). -/
theorem computed_ungranted {s : State} (gate : s.gateOpen = false) (capacity : s.flow.capacity = 0) : s.computed.grants = [] := by
  obtain ⟨claims, granted⟩ := align_shown s
  have none : (s.flow.align s.shownClaims).capacity = 0 := capacity
  unfold State.computed
  dsimp only
  rw [followIdle_grants]
  simp only [startPump_closed gate, ite_self, none, revoke_zero granted]
  split
  · rfl
  · exact grantWalk_zero claims

/-! ## The closing of the gate at a PUMP station (R159) -/

/-- A machine after the closing of the gate. -/
def Pump.gateClosed (m : Pump) : Pump := if m.state = .starting ∨ m.state = .running then ⟨.off, none⟩ else m

theorem Pump.gateClosed_idle (m : Pump) : m.gateClosed.state ≠ .running := by
  unfold Pump.gateClosed
  split
  · nofun
  next still => exact fun e => still (.inr e)

theorem asks_iff (m : PumpState) : m.asks = true ↔ m = .starting ∨ m = .running := by cases m <;> simp [PumpState.asks]

theorem pumpGateStop_machines (p : PumpId) (s : State) :
    (s.pumpGateStop p).flow.pump p = (s.flow.pump p).gateClosed ∧
    (∀ q, q ≠ p → (s.pumpGateStop p).flow.pump q = s.flow.pump q) ∧
    (s.flow.capacity = s.cfg.own.unitsPerPump * s.flow.runningCount →
      (s.pumpGateStop p).flow.capacity = s.cfg.own.unitsPerPump * (s.pumpGateStop p).flow.runningCount) := by
  unfold State.pumpGateStop Pump.gateClosed
  by_cases asks : (s.flow.pump p).state = .starting ∨ (s.flow.pump p).state = .running
  · rw [if_pos ((asks_iff _).mpr asks), if_pos asks]
    unfold State.pumpEnters
    rw [act_flow]
    refine ⟨?_, fun q ne => ?_, fun _ => rfl⟩
    · cases p <;> rfl
    · cases p <;> cases q <;> first | rfl | exact absurd rfl ne
  · rw [if_neg (fun c => asks ((asks_iff _).mp c)), if_neg asks]
    exact ⟨rfl, fun _ _ => rfl, id⟩

theorem Flow.still_count {x : Flow} (still : ∀ p, (x.pump p).state ≠ .running) : x.runningCount = 0 := by
  unfold Flow.runningCount
  rw [if_neg (show x.a.state ≠ _ from still .a), if_neg (show x.b.state ≠ _ from still .b)]

/-- The closing of the gate of a PUMP station (R159, R160, R165). -/
theorem gateEdge_closes {old s : State} (pump : s.role = .pump) (active : s.isActive = true) (was : old.gateOpen = true)
    (gate : s.gateOpen = false) (flow : s.flow = old.flow) (cfg : s.cfg = old.cfg) : PumpsStopped old (State.gateEdge old s) := by
  obtain ⟨a, otherA, capA⟩ := pumpGateStop_machines .a s
  obtain ⟨b, otherB, capB⟩ := pumpGateStop_machines .b (s.pumpGateStop .a)
  have noticed := (pumpGateStop_noticed .a s).trans (pumpGateStop_noticed .b _)
  unfold State.gateEdge
  rw [if_pos pump, if_pos (by rw [was, gate]; rfl)]
  have cfgA : (s.pumpGateStop .a).cfg = s.cfg := (pumpGateStop_noticed .a s).cfg
  have cfgB : ((s.pumpGateStop .a).pumpGateStop .b).cfg = s.cfg := noticed.cfg
  have life : ((s.pumpGateStop .a).pumpGateStop .b).life = s.life := noticed.life
  have closed : ((s.pumpGateStop .a).pumpGateStop .b).gateOpen = false :=
    (gateOpen_congr (by rw [noticed.rest])).trans gate
  have machineA : ((s.pumpGateStop .a).pumpGateStop .b).flow.pump .a = (s.flow.pump .a).gateClosed :=
    (otherB .a nofun).trans a
  have machineB : ((s.pumpGateStop .a).pumpGateStop .b).flow.pump .b = (s.flow.pump .b).gateClosed := by
    rw [b, otherA .b nofun]
  have capacity := fun h => capB ((capA h).trans (by rw [cfgA]))
  generalize (s.pumpGateStop .a).pumpGateStop .b = t at *
  have arbitrated : t.arbitrate.flow = t.computed := by
    unfold State.arbitrate
    rw [if_pos, act_flow]
    rw [State.isActive, life, State.role, cfgB, Bool.and_eq_true, beq_iff_eq]
    exact ⟨beq_iff_eq.mp active, beq_iff_eq.mpr pump⟩
  obtain ⟨keptA, keptB, keptCap⟩ := computed_machines closed
  refine ⟨fun p => ?_, fun laws => ?_⟩
  · rw [arbitrated, ← flow]
    cases p with
    | a => exact keptA.trans machineA
    | b => exact keptB.trans machineB
  · have still : t.flow.runningCount = 0 := Flow.still_count fun p => by
      cases p with
      | a => rw [machineA]; exact Pump.gateClosed_idle _
      | b => rw [machineB]; exact Pump.gateClosed_idle _
    have zero : t.flow.capacity = 0 := by
      rw [capacity (by rw [flow, cfg]; exact laws.capacity), still, Nat.mul_zero]
    rw [arbitrated]
    exact ⟨keptCap.trans zero, computed_ungranted closed zero⟩

/-! ## A stop of every function at once (R104, R107, R123) -/

theorem arbitrate_slot (s : State) (f : FnId) : s.arbitrate.slot f = s.slot f := by
  unfold State.arbitrate
  split
  · exact slot_act _ s f
  · rfl

theorem pumpGateStop_slot (p : PumpId) (s : State) (f : FnId) : (s.pumpGateStop p).slot f = s.slot f := by
  unfold State.pumpGateStop
  split
  · exact slot_act _ s f
  · rfl

theorem gateEdge_slot (old s : State) (f : FnId) : (State.gateEdge old s).slot f = s.slot f := by
  unfold State.gateEdge
  split
  · split
    · rw [arbitrate_slot, pumpGateStop_slot, pumpGateStop_slot]
    · split
      · exact arbitrate_slot s f
      · rfl
  · rfl

/-- A gate that stays closed is no edge. -/
theorem gateEdge_shut {old s : State} (was : old.gateOpen = false) (gate : s.gateOpen = false) : State.gateEdge old s = s := by
  unfold State.gateEdge
  rw [was, gate]
  exact ite_self s

theorem gateOpen_shut {s : State} (shut : s.field.stopLoopClosed = false ∨ s.field.supplyOk = false) : s.gateOpen = false := by
  rcases shut with e | e <;> simp [State.gateOpen, e]

theorem stopNow_gate (s : State) : s.stopNow.gateOpen = s.gateOpen := gateOpen_congr (by rw [(stopNow_noticed s).rest])

theorem stopNow_flow (s : State) : s.stopNow.flow = s.flow := eachFn_flow immediateStop_moved s

/-- A function that holds no claim and no output. -/
def Stilled (a : Fn × Drive) : Prop := a.1.motion.claims = false ∧ a.2 = Drive.off

theorem Stilled.unstoppable {a : Fn × Drive} (h : Stilled a) : a.1.motion.stoppable = false := by
  rw [Bool.eq_false_iff]
  exact fun stops => Bool.false_ne_true (h.1.symm.trans (Motion.claims_of_stoppable stops))

theorem stopNow_stilled (s : State) (f : FnId) : Stilled (s.stopNow.slot f) :=
  ⟨Drift.stopNow_claims s f, congrArg Prod.snd (Drift.stopNow_slot s f)⟩

/-- An immediate stop leaves such a function as it is. -/
theorem Stilled.stoppedNow {active gone : Bool} {a : Fn × Drive} (h : Stilled a) : a.1.stoppedNow active gone a.2 = a := by
  obtain ⟨claims, -⟩ := h
  unfold Fn.stoppedNow
  generalize a.1.motion = m at claims
  cases m with
  | none | rest | heldFault => rfl
  | awaitFlow | pressurise | travel | creep | seat | stopping => cases claims

theorem Stilled.stopNow {s : State} {f : FnId} (h : Stilled (s.slot f)) : s.stopNow.slot f = s.slot f := by
  rw [Drift.stopNow_slot]
  exact Prod.ext (congrArg Prod.fst (h.stoppedNow :) :) h.2.symm

/-- A function that moved without a latched code is in REST with STOPPED (R123). -/
theorem Fn.stoppedNow_rests {active gone : Bool} {x : Fn} {d : Drive} (moving : x.motion.moving = true)
    (unlatched : x.fault.latched = false) :
    (x.stoppedNow active gone d).1.motion = .rest ∧ (x.stoppedNow active gone d).1.fault = .stopped := by
  unfold Fn.stoppedNow
  rw [if_pos moving, unlatched]
  exact ⟨rfl, rfl⟩

section
variable {s : State}

theorem tripGained_stilled {old : State} (c : Option StopClass) (still : ∀ f, Stilled (s.slot f)) (was : old.gateOpen = false)
    (gate : s.gateOpen = false) :
    (∀ f, (State.tripGained old c s).slot f = s.slot f) ∧ (State.tripGained old c s).flow = s.flow := by
  unfold State.tripGained
  split
  · exact ⟨fun _ => rfl, rfl⟩
  · rw [gateEdge_shut was ((stopNow_gate s).trans gate)]
    exact ⟨fun f => (still f).stopNow, stopNow_flow s⟩
  · exact ⟨fun f => (Drift.halts_slot s f).trans (haltsWith_still (still f).unstoppable), eachFn_flow halt_moved s⟩

/-- After a stop of all functions the trip that rises moves nothing more (R152, R155). -/
theorem raiseCause_stilled (still : ∀ f, Stilled (s.slot f)) (shut : s.field.stopLoopClosed = false ∨ s.field.supplyOk = false) :
    (∀ f, s.raiseCause.slot f = s.slot f) ∧ s.raiseCause.flow = s.flow := by
  unfold State.raiseCause
  split
  · split
    · exact ⟨fun _ => rfl, rfl⟩
    next r cause =>
      have asserted : ∀ f, (s.act (State.onUnit (fun u => { u with tripAsserted := true }))).slot f = s.slot f := slot_act _ s
      have closed : (s.act (State.onUnit (fun u => { u with tripAsserted := true }))).gateOpen = false :=
        gateOpen_shut (by rw [act_field]; exact shut)
      have flow : (s.act (State.onUnit (fun u => { u with tripAsserted := true }))).flow = s.flow := act_flow _ s
      have field : (s.act (State.onUnit (fun u => { u with tripAsserted := true }))).field = s.field := act_field _ s
      generalize s.act (State.onUnit (fun u => { u with tripAsserted := true })) = u at *
      obtain ⟨queuedSlot, queuedFlow⟩ := queueTrip_slot r (u.enterTrip s.station r.cls)
      obtain ⟨slot, kept⟩ := tripGained_stilled (s := u.onUnit (fun x => { x with
        trips := x.trips.set s.station (tripEntry (u.unit.trips[s.station]) r.cls).1 }))
        (tripEntry (u.unit.trips[s.station]) r.cls).2 (fun f => (asserted f).symm ▸ still f) closed
        (gateOpen_shut (by rw [← field] at shut; exact shut))
      exact ⟨fun f => (queuedSlot f).trans ((slot f).trans (asserted f)), queuedFlow.trans (kept.trans flow)⟩
  · exact ⟨fun _ => rfl, rfl⟩

theorem react_stilled {f : FnId} (barred : s.barred) (claims : (s.fns[f]).motion.claims = false) : s.react f = none := by
  unfold State.react
  generalize m : (s.fns[f]).motion = x at claims
  cases x with
  | none | heldFault => rfl
  | rest =>
    dsimp only
    rw [mayLeave_barred barred, mayLeave_barred barred]
    rfl
  | awaitFlow | pressurise | travel | creep | seat | stopping => cases claims

/-- Nor does the evaluation that follows (R86, R110). -/
theorem settle_stilled (barred : s.barred) (still : ∀ f, Stilled (s.slot f)) (f : FnId) : s.settle.slot f = s.slot f := by
  have settled := evaluate_settled s
  rw [settle_calm (fun g => react_stilled (barred_congr (by rw [settled.rest]; rfl) barred) (Eq.trans ?_ (still g).1))]
  · exact evaluate_slot s f
  · exact congrArg (fun a : Fn × Drive => a.1.motion.claims) (evaluate_slot s g)

end

/-! ## A station-wide stop (R104, R107) -/

theorem stationStop_tripped (s u : State) : Tripped u (State.stationStop s u) := by
  unfold State.stationStop
  split
  · exact ((stopNow_noticed u).trans (gateEdge_noticed s _)).tripped.trans ((raiseCause_tripped _).trans
      (settle_settled _).noticed.tripped)
  · exact .refl u

/-- What a station-wide stop leaves in ACTIVE, where `r` is the first trip cause. -/
theorem stationStop_stops {s u : State} {r : TripReason} (active : s.isActive = true)
    (shut : u.field.stopLoopClosed = false ∨ u.field.supplyOk = false)
    (cause : ∀ v : State, v.field = u.field → v.tripCause = some r) (slots : ∀ f, u.slot f = s.slot f)
    (same : (u.unit, u.flow, u.setup, u.station, u.life, u.loop.trip) = (s.unit, s.flow, s.setup, s.station, s.life, s.loop.trip)) :
    let t := State.stationStop s u
    (∀ f : FnId, Stilled (t.slot f) ∧ ((s.fns[f]).motion.moving = true → (s.fns[f]).fault.latched = false →
      (t.fns[f]).motion = .rest ∧ (t.fns[f]).fault = .stopped)) ∧
    t.unit.tripAsserted = true ∧
    t.unit.trips[s.station] = some (if s.unit.trips[s.station] = some .eStop ∨ r = .stopLoopOpen then .eStop else .cStop) ∧
    (s.role = .motion → t.loop.trip = s.loop.trip.request r) ∧
    (s.role = .pump → s.gateOpen = true → PumpsStopped s t) := by
  simp only [Prod.mk.injEq] at same
  obtain ⟨unit, flow, setup, station, life, trip⟩ := same
  have activeU : u.isActive = true := by rw [State.isActive, life]; exact active
  have noticed := (stopNow_noticed u).trans (gateEdge_noticed s u.stopNow)
  have pumps : s.role = .pump → s.gateOpen = true → PumpsStopped s (State.gateEdge s u.stopNow) := fun pump was => by
    have cfg : u.stopNow.cfg = s.cfg := (stopNow_noticed u).cfg.trans (by rw [State.cfg, State.cfg, setup])
    refine gateEdge_closes (by rw [State.role, cfg]; exact pump) ?_ was ((stopNow_gate u).trans (gateOpen_shut shut))
      ((stopNow_flow u).trans flow) cfg
    rw [State.isActive, (stopNow_noticed u).life]
    exact activeU
  have stopped : ∀ f, (State.gateEdge s u.stopNow).slot f = u.stopNow.slot f := gateEdge_slot s _
  unfold State.stationStop
  rw [if_pos activeU]
  generalize State.gateEdge s u.stopNow = v at *
  have field : v.field = u.field := by rw [noticed.rest]
  have activeV : v.isActive = true := by rw [State.isActive, noticed.life]; exact activeU
  have shutV : v.field.stopLoopClosed = false ∨ v.field.supplyOk = false := by rw [field]; exact shut
  have still : ∀ f, Stilled (v.slot f) := fun f => by rw [stopped]; exact stopNow_stilled u f
  obtain ⟨raised, raisedFlow⟩ := raiseCause_stilled still shutV
  obtain ⟨asserted, own⟩ := raiseCause_unit activeV (cause v field)
  have queued := fun m => (raiseCause_queued activeV (cause v field) m).1
  have tripped := raiseCause_tripped v
  have stationV : v.station = s.station := by rw [noticed.rest]; exact station
  have unitV : v.unit = s.unit := by rw [noticed.rest]; exact unit
  have tripV : v.loop.trip = s.loop.trip := by rw [noticed.rest]; exact trip
  have roleV : v.role = s.role := by rw [State.role, noticed.cfg, State.cfg, setup]; rfl
  simp only [stationV, unitV] at own
  rw [tripV] at queued
  have barred : v.raiseCause.barred := by
    rw [← tripped.field] at shutV
    exact .inr (.inr (.inr shutV))
  generalize v.raiseCause = w at *
  have stillW : ∀ f, Stilled (w.slot f) := fun f => by rw [raised]; exact still f
  have slot : ∀ f, w.settle.slot f = u.stopNow.slot f := fun f =>
    (settle_stilled barred stillW f).trans ((raised f).trans (stopped f))
  have settled := settle_settled w
  refine ⟨fun f => ⟨by rw [slot]; exact stopNow_stilled u f, fun moving unlatched => ?_⟩, ?_, ?_, fun m => ?_, fun m was => ?_⟩
  · have rests := (congrArg Prod.fst ((slot f).trans (Drift.stopNow_slot u f)) :)
    rw [show u.fns[f] = s.fns[f] from congrArg Prod.fst (slots f)] at rests
    rw [show w.settle.fns[f] = _ from rests]
    exact Fn.stoppedNow_rests moving unlatched
  · rw [settled.rest]; exact asserted
  · rw [settled.rest]
    show w.unit.trips[s.station] = _
    rw [own]
    simp
  · rw [settled.rest]; exact queued (roleV.trans m)
  · obtain ⟨machines, empty⟩ := pumps m was
    have flowT : w.settle.flow = v.flow := by rw [settled.rest]; exact raisedFlow
    exact ⟨fun p => by rw [flowT]; exact machines p, fun laws => by rw [flowT]; exact empty laws⟩

/-! ## The stop loop and the supply (R103 to R107) -/

/-- An operation that the publisher examines is a notice on top of itself. -/
theorem act_noticed (op : State → State) (s : State) : Noticed (op s) (s.act op) := by
  refine ⟨?_, act_asked op s⟩
  have e := act_eq op s
  generalize s.act op = u at e ⊢
  generalize u.loop.status = x, u.pub.deferred = y at e ⊢
  subst e
  rfl

/-- What a change of the field inputs leaves of the station. -/
theorem field_same (g : FieldInputs → FieldInputs) (s : State) : let u := s.act (State.onField g)
    (u.unit, u.flow, u.setup, u.station, u.life, u.loop.trip) = (s.unit, s.flow, s.setup, s.station, s.life, s.loop.trip) := by
  rw [act_eq]
  rfl

/-- A change of the stop loop or the supply that opens the gate again is a notice (R105, R107, R159). -/
theorem gateOpens_noticed (g : FieldInputs → FieldInputs) (s : State) :
    Noticed (s.onField g) (State.finish (State.settle (State.gateEdge s (s.act (State.onField g))))) :=
  (((act_noticed (State.onField g) s).trans (gateEdge_noticed s _)).trans (settle_settled _).noticed).trans (Noticed.finish _)

/-- The end of a station-wide stop, in any state: the field inputs stay and every output is off. -/
theorem stationStop_ends {s u v : State} (noticed : Noticed v u)
    (shut : v.field.stopLoopClosed = false ∨ v.field.supplyOk = false) : let t := (State.stationStop s u).finish
    t.field = v.field ∧ OutputsOff t ∧ Tripped v t := by
  have tripped : Tripped v (State.stationStop s u).finish :=
    (noticed.tripped.trans (stationStop_tripped s u)).trans (Tripped.finish _)
  refine ⟨tripped.field, outputsOff_of_gate (gateOpen_shut ?_), tripped⟩
  rw [tripped.field]
  exact shut

theorem stopLoopOpening_runs {s : State} (running : s.running = true) (closed : s.field.stopLoopClosed = true) :
    exec .stopLoopOpening s = .next (State.finish (State.stationStop s ((s.onField (fun x => { x with
      lines := { x.lines with stopLoopClosed := false } })).act (State.onField (fun x => { x with
        stopLoopClosed := false, closing := none }))))) := by
  show execStopLoopOpening s = _
  unfold execStopLoopOpening
  dsimp only
  rw [if_pos running, if_pos closed]
  rfl

/-- Settles O28: an opening is a station-wide stop with an E_STOP of its own; the other parts are the model's branches. -/
theorem stopLoopStopsAndCloses : Obligations.StopLoopStopsAndCloses := by
  unfold Obligations.StopLoopStopsAndCloses
  refine ⟨fun s running closed => ?_, fun s running state line => ?_, fun s running state => ?_, fun s running timed => ?_⟩
  · have runs := stopLoopOpening_runs running closed
    have noticed := act_noticed (State.onField (fun x => { x with stopLoopClosed := false, closing := none }))
      (s.onField (fun x => { x with lines := { x.lines with stopLoopClosed := false } }))
    have slots := slot_act (State.onField (fun x => { x with stopLoopClosed := false, closing := none }))
      (s.onField (fun x => { x with lines := { x.lines with stopLoopClosed := false } }))
    have same := field_same (fun x => { x with stopLoopClosed := false, closing := none })
      (s.onField (fun x => { x with lines := { x.lines with stopLoopClosed := false } }))
    generalize State.act _ _ = u at runs noticed slots same
    obtain ⟨kept, off, tripped⟩ := stationStop_ends (s := s) noticed (.inl rfl)
    refine ⟨_, runs, kept, off, tripped, fun active => ?_⟩
    have field : u.field.stopLoopClosed = false := by rw [noticed.rest]; rfl
    obtain ⟨fns, asserted, own, queued, pumps⟩ := stationStop_stops (s := s) (r := .stopLoopOpen) ((isActive_iff s).mpr active)
      (.inl field) (fun v same => tripCause_loop (by rw [same]; exact field)) slots same
    refine ⟨fun f => ?_, asserted, own.trans (by simp), queued, fun m was => ?_⟩
    · obtain ⟨⟨claims, drive⟩, rests⟩ := fns f
      exact ⟨claims, drive, rests⟩
    · exact ⟨(pumps m was).machines, (pumps m was).empty⟩
  · exact if_pos ⟨running, state, line⟩
  · show execStopLoopOpening s = _
    unfold execStopLoopOpening
    dsimp only
    rw [if_pos running, if_neg (by rw [state]; nofun)]
    rfl
  · exact ⟨_, if_pos ⟨running, timed⟩, gateOpens_noticed (fun x => { x with stopLoopClosed := true, closing := none }) s⟩

/-- Settles O29: the supply stops the station as the stop loop does, with the trip cause that comes first. -/
theorem supplyTimersChangeState : Obligations.SupplyTimersChangeState := by
  unfold Obligations.SupplyTimersChangeState
  refine ⟨fun s running timed => ?_, fun s running timed => ?_⟩
  · have runs : exec .lowTimerExpiry s = .next (State.finish (State.stationStop s
        (s.act (State.onField (fun x => { x with supplyOk := false, lowTimer := none }))))) := if_pos ⟨running, timed⟩
    have noticed := act_noticed (State.onField (fun x => { x with supplyOk := false, lowTimer := none })) s
    have slots := slot_act (State.onField (fun x => { x with supplyOk := false, lowTimer := none })) s
    have same := field_same (fun x => { x with supplyOk := false, lowTimer := none }) s
    generalize s.act _ = u at runs noticed slots same
    obtain ⟨kept, off, tripped⟩ := stationStop_ends (s := s) noticed (.inr rfl)
    refine ⟨_, runs, kept, off, tripped, fun active => ?_⟩
    have low : u.field.supplyOk = false := by rw [noticed.rest]; rfl
    have loop : u.field.stopLoopClosed = s.field.stopLoopClosed := by rw [noticed.rest]; rfl
    have cause : ∀ v : State, v.field = u.field →
        v.tripCause = some (if s.field.stopLoopClosed = true then .fieldSupplyLow else .stopLoopOpen) := fun v same => by
      split
      next closed => exact tripCause_supply (by rw [same, loop]; exact closed) (by rw [same]; exact low)
      next opened => exact tripCause_loop (by rw [same, loop]; exact Bool.eq_false_iff.mpr opened)
    obtain ⟨fns, asserted, own, queued, pumps⟩ := stationStop_stops (s := s) ((isActive_iff s).mpr active)
      (.inr low) cause slots same
    refine ⟨fun f => ?_, asserted, Option.isSome_iff_exists.mpr ⟨_, own⟩, fun m closed => ?_, fun m was => ?_⟩
    · obtain ⟨⟨claims, drive⟩, rests⟩ := fns f
      exact ⟨claims, drive, rests⟩
    · rw [if_pos closed] at queued
      exact queued m
    · exact ⟨(pumps m was).machines, (pumps m was).empty⟩
  · exact ⟨_, if_pos ⟨running, timed⟩, gateOpens_noticed (fun x => { x with supplyOk := true, recovery := none }) s⟩

end Sys2Proof.Machine
end

section
/-! A pressure reading (R102, R116, R117). -/

namespace Sys2Proof.Machine

/-! ## Nothing enters PRESSURISE by an evaluation (R113) -/

theorem enterStopping_unpressed (s : State) (f : FnId) (code : FaultCode) :
    ((s.enterStopping f code).fns[f]).motion ≠ .pressurise := by
  rw [show (s.enterStopping f code).fns[f] = _ from congrArg Prod.fst (enterStopping_stops s f code)]
  unfold stopsWith
  split
  · dsimp only
    split <;> nofun
  · nofun

theorem toIdle_motion (m : Motion) (f : FnId) (s : State) : ((s.act (State.toIdle m f)).fns[f]).motion = m := by
  rw [act_fns]
  exact (toIdle_fn m f s).1

theorem act_onFn_fn (k : Fn → Fn) (f : FnId) (s : State) : (s.act (State.onFn f k)).fns[f] = k s.fns[f] := by
  rw [act_fns, State.onFn_same]

theorem endSeat_unpressed (s : State) (f : FnId) : ((s.endSeat f).fns[f]).motion ≠ .pressurise := by
  unfold State.endSeat
  split
  · exact enterStopping_unpressed s f _
  · rw [toIdle_motion]
    nofun

theorem enterSeat_unpressed (s : State) (f : FnId) : ((s.enterSeat f).fns[f]).motion ≠ .pressurise := by
  unfold State.enterSeat
  dsimp only
  split
  · exact endSeat_unpressed _ f
  · rw [act_onFn_fn]
    nofun

theorem stopFor_unpressed {s t : State} {f : FnId} {d : Dir} (e : s.stopFor f d = some t) : (t.fns[f]).motion ≠ .pressurise := by
  have permit : s.permitStop f d = some t → (t.fns[f]).motion ≠ .pressurise := fun e => by
    unfold State.permitStop at e
    dsimp only at e
    split at e
    · cases e
    · cases e
      exact enterStopping_unpressed s f _
  have demand : s.demandStop f d = some t → (t.fns[f]).motion ≠ .pressurise := fun e => by
    unfold State.demandStop at e
    split at e
    · cases e
    · split at e <;> cases e
      · exact enterSeat_unpressed s f
      · exact enterStopping_unpressed s f _
  unfold State.stopFor at e
  split at e <;> rcases Option.or_eq_some_iff.mp e with e | ⟨_, e⟩
  · exact permit e
  · exact demand e
  · exact demand e
  · exact permit e

/-- No reaction ends in PRESSURISE. -/
theorem react_unpressed {s t : State} {f : FnId} (e : s.react f = some t) : (t.fns[f]).motion ≠ .pressurise := by
  have leaves : ∀ d, ((s.leaveRest f d).fns[f]).motion ≠ .pressurise := fun d => by
    unfold State.leaveRest
    rw [act_onFn_fn]
    nofun
  unfold State.react at e
  split at e
  · split at e
    · cases e
      exact leaves _
    · split at e <;> cases e
      exact leaves _
  · split at e <;> cases e
    rw [toIdle_motion]
    nofun
  · exact stopFor_unpressed e
  · exact stopFor_unpressed e
  · exact stopFor_unpressed e
  · cases e

theorem settle_unpressed {s : State} {f : FnId} (h : (s.fns[f]).motion ≠ .pressurise) : (s.settle.fns[f]).motion ≠ .pressurise := by
  refine settle_keeps (P := fun t => (t.fns[f]).motion ≠ .pressurise) (fun {t} h => ?_) (fun {t u g} e h => ?_) h
  · rw [show t.evaluate.fns[f] = t.fns[f] from congrArg Prod.fst (evaluate_slot t f)]
    exact h
  · by_cases same : g = f
    · subst same
      exact react_unpressed e
    · rw [((react_moved e).1.others f same).1]
      exact h

/-! ## The reading at every function (R116) -/

theorem takePressure_moved (p : Nat) (f : FnId) (s : State) : Moved f s (s.takePressure p f) := by
  unfold State.takePressure
  split
  · exact enterTravel_moved f s
  · exact .refl f s

/-- Entry to TRAVEL or CREEP of a function with a target (R117). -/
theorem enterTravel_at {s : State} {f : FnId} {d : Dir} (target : (s.fns[f]).target = some d) :
    let p := s.profile f
    let away := distance d (s.field.fns[f]).position
    (s.enterTravel f).slot f = (if s.isPositioned f then { s.fns[f] with
        motion := if 0 < p.creepZone ∧ away ≤ p.creepZone then .creep else .travel
        pressurise := none, stroke := some (p.strokeLimit * 1000), stallRef := some away, wrongRef := some away
        stall := some p.stallWindow }
      else { s.fns[f] with motion := .travel, pressurise := none, stroke := some (p.strokeLimit * 1000) }, s.drive[f]) := by
  dsimp only
  unfold State.enterTravel
  dsimp only
  rw [slot_act, State.slot, State.onFn_same, State.onFn_drive, target]
  cases s.isPositioned f <;> rfl

/-- What a reading does at a function turns on the function, the configuration and the position. -/
theorem takePressure_congr {s t : State} (p : Nat) {f : FnId} (slot : t.slot f = s.slot f) (field : t.field = s.field)
    (setup : t.setup = s.setup) : (t.takePressure p f).slot f = (s.takePressure p f).slot f := by
  have fn : t.fns[f] = s.fns[f] := congrArg Prod.fst slot
  have drive : t.drive[f] = s.drive[f] := congrArg Prod.snd slot
  have profile : t.profile f = s.profile f := profile_congr setup (by rw [fn])
  have positioned : t.isPositioned f = s.isPositioned f := by
    rw [State.isPositioned, State.isPositioned, State.fnSetup, State.fnSetup, State.cfg, State.cfg, setup]
  unfold State.takePressure
  rw [fn, profile]
  split
  · unfold State.enterTravel
    dsimp only
    rw [slot_act, slot_act, State.slot, State.slot, State.onFn_same, State.onFn_same, State.onFn_drive, State.onFn_drive, fn,
      drive, profile, positioned, field]
  · exact slot

theorem takePressures_slot (p : Nat) (s : State) (f : FnId) :
    (s.eachFn (State.takePressure p)).slot f = (s.takePressure p f).slot f := by
  refine eachFn_at (op := State.takePressure p) (view := State.slot) (I := fun t => t.field = s.field ∧ t.setup = s.setup)
    (R := fun f a b => a = s.slot f → b = (s.takePressure p f).slot f) (fun g t i => ?_)
    (fun g t i e => takePressure_congr p e i.1 i.2) (fun g h t _ ne => ?_) ⟨rfl, rfl⟩ f rfl
  · rw [(takePressure_moved p g t).rest]
    exact i
  · obtain ⟨fn, drive⟩ := (takePressure_moved p g t).others h ne
    rw [State.slot, fn, drive]
    rfl

theorem takePressure_unpressed {s : State} {p : Nat} {f : FnId} (m : (s.fns[f]).motion = .pressurise)
    (reached : (s.profile f).pressureThreshold ≤ p) : ((s.takePressure p f).fns[f]).motion ≠ .pressurise := by
  obtain ⟨y, slot, motion, -, -⟩ := Drift.enterTravel_slot s f
  unfold State.takePressure
  rw [if_pos ⟨m, reached⟩, show (s.enterTravel f).fns[f] = y from congrArg Prod.fst slot]
  rcases motion with e | e <;> rw [e] <;> nofun

/-- Settles O32: each function by itself takes the reading, and what follows brings none back to PRESSURISE. -/
theorem pressureReadingStartsTravel : Obligations.PressureReadingStartsTravel := by
  unfold Obligations.PressureReadingStartsTravel
  intro raw s pressurise
  dsimp only
  have runs : exec (.pressureConversion raw) s = .next (State.finish (State.settle (State.eachFn
      (State.takePressure (raw.toNat * 400 / 4095)) { s with field := { s.field with
        pressure := some (raw.toNat * 400 / 4095) } }))) := by
    refine if_pos (List.any_eq_true.mpr ?_)
    obtain ⟨f, m⟩ := pressurise
    exact ⟨f, mem_slots f, beq_iff_eq.mpr m⟩
  have few : raw.toNat * 400 / 4095 ≤ 400 := by
    have := raw.isLt
    omega
  generalize raw.toNat * 400 / 4095 = bars at *
  obtain ⟨read, isRead⟩ : ∃ r : State, r = { s with field := { s.field with pressure := some bars } } := ⟨_, rfl⟩
  rw [← isRead] at runs ⊢
  have noticed := eachFn_noticed (fun f u => (takePressure_moved bars f u).noticed) read
  have slots := takePressures_slot bars read
  have flow := eachFn_flow (takePressure_moved bars) read
  generalize read.eachFn (State.takePressure bars) = base at *
  have settled := settle_settled base
  have ends : Noticed read base.settle.finish := (noticed.trans settled.noticed).trans (Noticed.finish _)
  have before : ∀ f, read.slot f = s.slot f := fun f => by rw [isRead]; rfl
  refine ⟨_, runs, ends.tripped.field.trans (by rw [isRead]), few, ends, ?_, fun f m reached => ?_, fun calm => ?_⟩
  · have kept : base.settle.flow = base.flow := by rw [settled.rest]
    exact kept.trans (flow.trans (by rw [isRead]))
  · refine settle_unpressed ?_
    rw [show base.fns[f] = _ from congrArg Prod.fst (slots f)]
    rw [isRead]
    exact takePressure_unpressed m reached
  · have slot : ∀ f, base.settle.slot f = (read.takePressure bars f).slot f := fun f => by
      rw [settle_calm calm, evaluate_slot]
      exact slots f
    have fns : read.fns = s.fns := by rw [isRead]
    have profile : ∀ f, read.profile f = s.profile f := fun f => by rw [isRead]; rfl
    have positioned : ∀ f, read.isPositioned f = s.isPositioned f := fun f => by rw [isRead]; rfl
    have position : ∀ f : FnId, (read.field.fns[f]).position = (s.field.fns[f]).position := fun f => by rw [isRead]
    have drive : ∀ f : FnId, (read.takePressure bars f).drive[f] = read.drive[f] := fun f => by
      unfold State.takePressure
      split
      · obtain ⟨y, entered, -⟩ := Drift.enterTravel_slot read f
        exact congrArg Prod.snd entered
      · rfl
    refine ⟨Vector.ext fun i h => ?_, fun f stays => ?_, fun f d target m reached => ?_⟩
    · exact (congrArg Prod.snd (slot ⟨i, h⟩)).trans ((drive ⟨i, h⟩).trans (congrArg Prod.snd (before ⟨i, h⟩)))
    · refine (congrArg Prod.fst (slot f)).trans ?_
      unfold State.takePressure
      rw [fns, profile, if_neg (fun ⟨m, reached⟩ => stays.elim (absurd m) (fun low => absurd reached (Nat.not_le.mpr low)))]
      exact congrArg Prod.fst (before f)
    · refine (congrArg Prod.fst (slot f)).trans ?_
      unfold State.takePressure
      rw [if_pos ⟨by rw [fns]; exact m, by rw [profile]; exact reached⟩, enterTravel_at (by rw [fns]; exact target), positioned,
        profile, position, fns]

end Sys2Proof.Machine
end

section
/-! An accepted change of an input, user by user (R93, R95, R96, R98, R99, R124). -/

namespace Sys2Proof.Machine

/-! ## END_LOST at one function (R99, R124) -/

/-- The end state in which an end alone is made. -/
def EndState.madeAt : Dir → EndState
  | .toOpen => .atOpen
  | .toClose => .atClosed

section
variable {old new : EndState} {x : Fn} {d : Dir}

theorem Fn.refreshed_data (old new : EndState) (x : Fn) : (x.refreshed old new).motion = x.motion ∧
    (x.refreshed old new).target = x.target ∧ (x.refreshed old new).released = x.released := by
  unfold Fn.refreshed Fn.endChanged
  extract_lets lost back
  split
  · exact ⟨rfl, rfl, rfl⟩
  · split
    · exact ⟨rfl, rfl, rfl⟩
    · split <;> exact ⟨rfl, rfl, rfl⟩

theorem Fn.refreshed_lost (rest : x.motion = .rest) : x.refreshed (.madeAt d) .between =
    { x with lostEnd := some d, fault := if x.fault.latched then x.fault else .endLost } := by
  unfold Fn.refreshed Fn.endChanged
  cases d
  · rw [if_neg nofun]
    exact if_pos ⟨rest, rfl⟩
  · rw [if_neg nofun]
    exact if_pos ⟨rest, rfl⟩

theorem Fn.refreshed_back (changed : EndState.madeAt d ≠ old) (lost : x.lostEnd = some d) : x.refreshed old (.madeAt d) =
    { x with lostEnd := none, fault := if x.fault = .endLost then .none else x.fault } := by
  unfold Fn.refreshed Fn.endChanged
  rw [if_neg changed, lost]
  cases d <;> cases old <;> simp [EndState.madeAt]

theorem Fn.refreshed_still (kept : ∀ d, ¬(x.motion = .rest ∧ new = .between ∧ old = .madeAt d))
    (away : ∀ d, ¬(new ≠ old ∧ x.lostEnd = some d ∧ new = .madeAt d)) : x.refreshed old new = x := by
  unfold Fn.refreshed Fn.endChanged
  extract_lets lost back
  have left : lost.isSome = true → new = .between ∧ ∃ d, old = .madeAt d := fun some => by
    cases old <;> cases new <;> first | exact ⟨rfl, .toOpen, rfl⟩ | exact ⟨rfl, .toClose, rfl⟩ | cases some
  have returned : back = true → ∃ d, x.lostEnd = some d ∧ new = .madeAt d := fun some => by
    revert some
    unfold back
    split
    next e => exact fun _ => ⟨.toOpen, e, rfl⟩
    next e => exact fun _ => ⟨.toClose, e, rfl⟩
    · exact nofun
  split
  · rfl
  next changed =>
    split
    next c =>
      obtain ⟨between, d, was⟩ := left c.2
      exact absurd ⟨c.1, between, was⟩ (kept d)
    · split
      next c =>
        obtain ⟨d, lost, made⟩ := returned c
        exact absurd ⟨changed, lost, made⟩ (away d)
      · rfl

end

/-! ## The users of an input that touch no function -/

/-- What a panel's or a pump machine's use of an input leaves of the station. -/
def State.inputLess (s : State) : Vector Fn 4 × Vector Drive 4 × FieldInputs × Vector Entry 16 × IntentTrip × Bool × Life × Option Setup :=
  (s.fns, s.drive, s.field, s.image, s.unit, s.loop.lone, s.life, s.setup)

theorem act_inputLess (op : State → State) (s : State) : (s.act op).inputLess = (op s).inputLess := by
  rw [act_eq]
  rfl

theorem arbitrate_inputLess (s : State) : s.arbitrate.inputLess = s.inputLess := by
  unfold State.arbitrate
  split
  · exact act_inputLess _ s
  · rfl

theorem pumpInputAt_inputLess (i : InputId) (p : PumpId) (s : State) : (s.pumpInputAt i p).inputLess = s.inputLess := by
  unfold State.pumpInputAt
  dsimp only
  split
  · exact act_inputLess _ s
  · rfl

theorem pumpInput_inputLess (i : InputId) (s : State) : (s.pumpInput i).inputLess = s.inputLess := by
  have machines : ((s.pumpInputAt i .a).pumpInputAt i .b).inputLess = s.inputLess :=
    (pumpInputAt_inputLess i .b _).trans (pumpInputAt_inputLess i .a s)
  unfold State.pumpInput
  dsimp only
  split
  · split
    · exact (arbitrate_inputLess _).trans machines
    · exact machines
  · rfl

theorem queueIntent_inputLess (k : IntentKind) (s : State) : (s.queueIntent k).inputLess = s.inputLess := by
  unfold State.queueIntent
  split <;> rfl

theorem panelInput_inputLess (i : InputId) (s : State) : (s.panelInput i).inputLess = s.inputLess := by
  have press : ∀ t : State, (t.pressReset i).inputLess = t.inputLess := fun t => by
    unfold State.pressReset
    split
    · exact queueIntent_inputLess _ t
    · rfl
  have form : ∀ t : State, t.formHeld.inputLess = t.inputLess := fun t => by
    unfold State.formHeld
    dsimp only
    split
    · rfl
    · exact queueIntent_inputLess _ _
  unfold State.panelInput
  split
  · exact (form _).trans ((press _).trans (act_inputLess _ _))
  · rfl

/-! ## The pair of an end (R96) -/

theorem endsAfter_pair (s : State) (i : InputId) (f : FnId) (e : EndState) (y : FnField) (d : Dir) :
    (s.endsAfter i f e y).endPair d = s.pairAfter i f d (y.endPair d) := by cases d <;> rfl

theorem endsAfter_rest (s : State) (i : InputId) (f : FnId) (e : EndState) (y : FnField) :
    (s.endsAfter i f e y).endState = e ∧ (s.endsAfter i f e y).position = y.position ∧
    (s.endsAfter i f e y).lastRaw = y.lastRaw := ⟨rfl, rfl, rfl⟩

section
variable {s : State} {i : InputId} {f : FnId} {x : FnSetup} {d : Dir} {p : EndPair}

theorem pairAfter_named {b : InputId} (configured : s.fnSetup f = some x) (second : x.sensorB d = some b)
    (named : x.sensorA d = i ∨ b = i) : s.pairAfter i f d p =
      p.changed s.timing.discrepancy (s.accepted (x.sensorA d) != s.accepted b) := by
  unfold State.pairAfter
  rw [configured, Option.bind_some, second]
  exact if_pos named

theorem pairAfter_other (configured : s.fnSetup f = some x)
    (other : x.sensorB d = none ∨ (x.sensorA d ≠ i ∧ x.sensorB d ≠ some i)) : s.pairAfter i f d p = p := by
  unfold State.pairAfter
  rw [configured, Option.bind_some]
  cases second : x.sensorB d with
  | none => rfl
  | some b =>
    rw [second] at other
    refine if_neg ?_
    rintro (a | b) <;> simp_all

end

/-- An accepted change leaves a pair by whether its two inputs agree (R96). -/
theorem EndPair.changed_cases (p : EndPair) (discrepancy : Nat) {a b : Bool} :
    (p.state = .agreed → ¬a = b → p.changed discrepancy (a != b) = { state := .pending, discrepancy := some discrepancy }) ∧
    (p.state = .pending ∨ p.state = .disagreed → a = b →
      p.changed discrepancy (a != b) = { state := .agreed, discrepancy := none }) ∧
    (p.state = .agreed → a = b → p.changed discrepancy (a != b) = p) ∧
    (p.state = .pending ∨ p.state = .disagreed → ¬a = b → p.changed discrepancy (a != b) = p) := by
  have equal : a = b → (a != b) = false := fun e => by rw [e, bne_self_eq_false]
  have differ : ¬a = b → (a != b) = true := bne_iff_ne.mpr
  unfold EndPair.changed
  refine ⟨fun m e => ?_, fun m e => ?_, fun m e => ?_, fun m e => ?_⟩
  · rw [m, differ e]
  · rw [equal e]
    rcases m with m | m <;> rw [m]
  · rw [m, equal e]
  · rw [differ e]
    rcases m with m | m <;> rw [m]

/-! ## An accepted change as a whole (R95) -/

/-- What the field inputs hold once the level is accepted, before the ends follow. -/
theorem acceptLevel_at (i : InputId) (s : State) : (s.acceptLevel i).inputLess = ({ s with field := { s.field with
    di := s.field.di.set i { accepted := some (s.inputLevel i), debounce := none } } } : State).inputLess :=
  act_inputLess _ s

/-- The station before the evaluation of an accepted change: the ends have followed, and nothing else of a function. -/
theorem acceptedChange_at (i : InputId) (s : State) :
    let v := s.acceptLevel i
    let u := (((v.eachFn (State.endInputs i)).pumpInput i).panelInput i)
    (u.drive, u.image, u.unit, u.loop.lone, u.life, u.setup) = (s.drive, s.image, s.unit, s.loop.lone, s.life, s.setup) ∧
    u.field = { v.field with fns := u.field.fns } ∧ ∀ f : FnId,
      u.fns[f] = (s.fns[f]).refreshed (s.field.fns[f]).endState (u.endStateNow f) ∧
      u.field.fns[f] = v.endsAfter i f (u.endStateNow f) s.field.fns[f] := by
  have level := acceptLevel_at i s
  obtain ⟨ends, slots⟩ := eachEnd_at i (s.acceptLevel i)
  have less := (panelInput_inputLess i (((s.acceptLevel i).eachFn (State.endInputs i)).pumpInput i)).trans (pumpInput_inputLess i _)
  dsimp only at slots ⊢
  generalize ((s.acceptLevel i).eachFn (State.endInputs i)) = w at *
  generalize (w.pumpInput i).panelInput i = u at *
  generalize s.acceptLevel i = v at *
  simp only [State.inputLess, Prod.mk.injEq] at level less
  obtain ⟨fns, drive, field, image, unit, lone, life, setup⟩ := level
  obtain ⟨fns', drive', field', image', unit', lone', life', setup'⟩ := less
  have now : ∀ f, u.endStateNow f = w.endStateNow f := fun f =>
    endStateNow_congr setup' (by rw [field']) (by rw [field']) (by rw [field'])
  have same : v.field.fns = s.field.fns := by rw [field]
  refine ⟨?_, ?_, fun f => ?_⟩
  · rw [drive', image', unit', lone', life', setup', ends.rest]
    simp only [drive, image, unit, lone, life, setup]
  · rw [field', ends.rest]
  · obtain ⟨fn, inputs⟩ := slots f
    rw [fns', field', now, fn, inputs, fns, same]
    exact ⟨rfl, rfl⟩

/-- Settles O26: the ends by `acceptedChange_at`, end by end and function by function. -/
theorem debounceAcceptsLevel : Obligations.DebounceAcceptsLevel := by
  unfold Obligations.DebounceAcceptsLevel
  intro i s running used timed
  have runs : exec (.debounceExpiry i) s = .next (State.finish (State.settle (((((s.acceptLevel i).eachFn
      (State.endInputs i)).pumpInput i).panelInput i)))) := if_pos ⟨running, used, timed⟩
  have level := acceptLevel_at i s
  have change := acceptedChange_at i s
  dsimp only at change
  generalize ((((s.acceptLevel i).eachFn (State.endInputs i)).pumpInput i).panelInput i) = u at *
  generalize s.acceptLevel i = v at *
  obtain ⟨same, field, at_f⟩ := change
  simp only [Prod.mk.injEq] at same
  obtain ⟨drive, image, unit, lone, life, setup⟩ := same
  simp only [State.inputLess, Prod.mk.injEq] at level
  obtain ⟨-, -, levels, -, -, -, -, setupV⟩ := level
  have settled := (settle_settled u).trans (Settled.finish _)
  have kept : u.settle.finish.field = u.field := by rw [settled.rest]
  refine ⟨_, u, runs, rfl, kept, ⟨drive, image, unit, lone, fun f => ?_⟩, ?_, fun f => ?_, fun f x d configured => ?_, fun f => ?_,
    fun calm => ?_, ?_, ?_, ?_, ?_, ?_, ?_, ?_⟩
  · rw [(at_f f).1]
    exact Fn.refreshed_data _ _ _
  · rw [kept, field, levels]
    rfl
  · have now : u.settle.finish.endStateNow f = u.endStateNow f :=
      endStateNow_congr (by rw [settled.rest]) (by rw [kept]) (by rw [kept]) (by rw [kept])
    rw [kept, now, (at_f f).2]
    exact endsAfter_rest _ _ _ _ _
  · have configuredV : v.fnSetup f = some x := by
      rw [State.fnSetup, State.cfg, setupV]
      exact configured
    have timing : v.timing = s.timing := by rw [State.timing, State.cfg, setupV]; rfl
    have accepted : ∀ n, u.settle.finish.accepted n = v.accepted n := fun n => by
      rw [State.accepted, kept, field, State.accepted]
    have pair : (u.settle.finish.field.fns[f]).endPair d = v.pairAfter i f d ((s.field.fns[f]).endPair d) := by
      rw [kept, (at_f f).2, endsAfter_pair]
    dsimp only
    rw [pair]
    refine ⟨fun b second named => ?_, fun other => pairAfter_other configuredV other⟩
    rw [pairAfter_named configuredV second named, accepted, accepted, timing]
    exact EndPair.changed_cases _ _
  · have state : (u.settle.finish.field.fns[f]).endState = u.endStateNow f := by rw [kept, (at_f f).2]; rfl
    have fn := (at_f f).1
    dsimp only
    rw [state]
    generalize u.endStateNow f = new at fn ⊢
    generalize (s.field.fns[f]).endState = old at fn ⊢
    rw [fn]
    refine ⟨fun d => ⟨?_, ?_⟩, fun still => Fn.refreshed_still (fun d lost => (still d).1 ?_) (fun d back => (still d).2 ?_)⟩
    · rintro ⟨rest, rfl, rfl⟩
      exact Fn.refreshed_lost rest
    · rintro ⟨changed, lost, rfl⟩
      exact Fn.refreshed_back changed lost
    · exact lost
    · exact back
  · rcases calm with out | calm
    · have idle : u.isActive = false := by rw [State.isActive, life]; exact out
      rw [settle_idle idle]
      rfl
    · rw [settle_calm calm]
      exact Vector.ext fun n h => congrArg Prod.fst (evaluate_slot u ⟨n, h⟩)
  · rw [kept, field, levels]
  · rw [kept, field, levels]
  · rw [kept, field, levels]
  · rw [settled.rest]; exact image
  · rw [settled.rest]; exact unit
  · rw [settled.rest]; exact life
  · rw [settled.rest]; exact setup

end Sys2Proof.Machine
end

section
/-! Levels of the discrete inputs and of the supply, and the use of each input (R92, R93, R106). -/

namespace Sys2Proof.Machine

/-! ## The use of an input (R92) -/

theorem names_iff (i : InputId) (es : List (Option InputId)) : names i es = true ↔ some i ∈ es := by
  unfold names
  rw [List.any_eq_true]
  exact ⟨fun ⟨e, mem, is⟩ => beq_iff_eq.mp is ▸ mem, fun mem => ⟨_, mem, beq_iff_eq.mpr rfl⟩⟩

theorem mem_configured (s : State) (x : FnSetup) : x ∈ s.cfg.own.configured ↔ ∃ f : FnId, s.fnSetup f = some x := by
  unfold OwnSection.configured
  rw [List.mem_filterMap]
  exact ⟨fun ⟨f, _, e⟩ => ⟨f, e⟩, fun ⟨f, e⟩ => ⟨f, mem_slots f, e⟩⟩

theorem mem_terms (s : State) (t : Term) : t ∈ s.cfg.own.terms ↔
    (∃ (f : FnId) (x : FnSetup), s.fnSetup f = some x ∧ (t ∈ x.openTerms ∨ t ∈ x.closeTerms)) ∨
      ∃ l ∈ s.cfg.own.lamps, t ∈ l.on ∨ t ∈ l.flash := by
  unfold OwnSection.terms
  simp only [List.mem_append, List.mem_flatMap, mem_configured]
  refine or_congr_left ⟨?_, ?_⟩
  · rintro ⟨x, ⟨f, e⟩, mem⟩
    exact ⟨f, x, e, mem⟩
  · rintro ⟨f, x, e, mem⟩
    exact ⟨x, ⟨f, e⟩, mem⟩

theorem names_sensors (i : InputId) (x : FnSetup) :
    names i x.sensors = true ↔ x.openA = i ∨ x.openB = some i ∨ x.closedA = i ∨ x.closedB = some i := by
  rw [names_iff]
  unfold FnSetup.sensors
  simp only [List.mem_cons, List.not_mem_nil, or_false, Option.some.injEq, @eq_comm _ (some i)]

theorem names_others (i : InputId) (p : PanelInputs) : names i p.others = true ↔
    p.openB = some i ∨ p.closeB = some i ∨ p.reset = some i ∨ p.commandKey = some i ∨ p.maintKey = some i ∨
      p.underway = some i ∨ p.jogOpen = some i ∨ p.jogClose = some i ∨ p.select0 = some i ∨ p.select1 = some i ∨
      p.select2 = some i ∨ p.select3 = some i := by
  rw [names_iff]
  unfold PanelInputs.others
  simp only [List.mem_cons, List.not_mem_nil, or_false, @eq_comm _ (some i)]

theorem activeLow_iff (s : State) (i : InputId) : s.activeLow i = true ↔
    (s.role = .pump ∧ (i = 1 ∨ i = 3)) ∨ s.cfg.own.panel.stop = some i := by
  unfold State.activeLow
  simp only [Bool.or_eq_true, Bool.and_eq_true, beq_iff_eq, names_iff, List.mem_singleton, @eq_comm _ (some i)]

/-- The pull-down, active-high uses: a pump's running input, an end sensor, a panel entry but STOP, a LOCAL_INPUT term. -/
theorem activeHighUse_iff (s : State) (i : InputId) : s.activeHighUse i = true ↔
    (s.role = .pump ∧ (i = 0 ∨ i = 2)) ∨
      (∃ (f : FnId) (x : FnSetup), s.fnSetup f = some x ∧ names i x.sensors = true) ∨
      names i s.cfg.own.panel.others = true ∨ ∃ t : Term, t.selector = .localInput i ∧ t ∈ s.cfg.own.terms := by
  have sensors : (∃ x ∈ s.cfg.own.configured, names i x.sensors = true) ↔
      ∃ (f : FnId) (x : FnSetup), s.fnSetup f = some x ∧ names i x.sensors = true := by
    simp only [mem_configured]
    exact ⟨fun ⟨x, ⟨f, e⟩, n⟩ => ⟨f, x, e, n⟩, fun ⟨f, x, e, n⟩ => ⟨x, ⟨f, e⟩, n⟩⟩
  have terms : (∃ t ∈ s.cfg.own.terms, t.selector = .localInput i) ↔
      ∃ t : Term, t.selector = .localInput i ∧ t ∈ s.cfg.own.terms := exists_congr fun _ => and_comm
  unfold State.activeHighUse
  simp only [Bool.or_eq_true, Bool.and_eq_true, beq_iff_eq, List.any_eq_true, or_assoc, sensors, terms]
  exact or_congr_right or_left_comm

theorem inputLevel_iff (s : State) (i : InputId) : s.inputLevel i = true ↔
    (s.activeLow i = true ∧ s.field.lines.di[i] = false) ∨ (¬s.activeLow i = true ∧ s.field.lines.di[i] = true) := by
  unfold State.inputLevel
  cases s.field.lines.di[i] <;> cases s.activeLow i <;> simp

theorem bias_iff (s : State) (i : InputId) : (s.bias i = .pullUp ↔ s.running = true ∧ s.activeLow i = true) ∧
    (s.bias i = .pullDown ↔ s.running = true ∧ ¬s.activeLow i = true ∧ s.activeHighUse i = true) := by
  unfold State.bias
  cases s.running <;> cases s.activeLow i <;> cases s.activeHighUse i <;> simp

/-! ## A level change (R93) -/

theorem followInput_eq (i : InputId) (high : Bool) (s : State) :
    (s.onField (fun x => { x with lines := lineInput x.lines i high })).followInput i =
      { s with field := { s.field with
          lines := { s.field.lines with di := s.field.lines.di.set i high }
          di := s.field.di.set i { s.field.di[i] with
            debounce := if (s.field.di[i]).accepted = some (high != s.activeLow i) then none else some s.timing.debounce } } } := by
  have level : (s.onField (fun x => { x with lines := lineInput x.lines i high })).inputLevel i = (high != s.activeLow i) := by
    show ((s.field.lines.di.set i high)[i] != s.activeLow i) = _
    simp
  unfold State.followInput
  rw [level]
  rfl

/-- Settles O25: the timers by the model's branches, and the use of an input entry by entry. -/
theorem lineLevelsRunTimers : Obligations.LineLevelsRunTimers := by
  unfold Obligations.LineLevelsRunTimers
  refine ⟨fun i high s running changed => ⟨fun used => ?_, fun unused => ?_⟩,
    fun s running => ⟨fun ok above => ?_, fun ok below => ?_, fun low under => ?_, fun low from20 => ?_⟩, fun i s => ?_⟩
  · show execInputLevelChange i high s = _
    unfold execInputLevelChange
    dsimp only
    rw [if_pos ⟨running, used, changed⟩, followInput_eq]
    rfl
  · exact if_neg (fun ⟨_, used, _⟩ => Bool.false_ne_true (unused.symm.trans used))
  · show execSupplyFallsBelow19V s = _
    unfold execSupplyFallsBelow19V
    dsimp only
    rw [if_pos ⟨running, above⟩, if_pos ok]
    rfl
  · show execSupplyBackAt19V s = _
    unfold execSupplyBackAt19V
    dsimp only
    rw [if_pos below, if_pos ⟨running, ok⟩]
    rfl
  · show execSupplyRisesTo20V s = _
    unfold execSupplyRisesTo20V
    dsimp only
    rw [if_pos ⟨running, under⟩, if_neg (by rw [low]; nofun)]
    rfl
  · show execSupplyFallsBelow20V s = _
    unfold execSupplyFallsBelow20V
    dsimp only
    rw [if_pos from20, if_pos ⟨running, low⟩]
    rfl
  · obtain ⟨up, down⟩ := bias_iff s i
    have lowUse := activeLow_iff s i
    have highUse := activeHighUse_iff s i
    have used : s.used i = true ↔ s.activeLow i = true ∨ s.activeHighUse i = true := Bool.or_eq_true _ _ ▸ Iff.rfl
    simp only [names_sensors, names_others, mem_terms] at highUse
    dsimp only
    rw [inputLevel_iff, used, up, down, ← highUse, ← lowUse]
    refine ⟨Iff.rfl, Iff.rfl, Iff.rfl, Iff.rfl, ?_⟩
    exact and_congr_right fun _ => ⟨fun ⟨notLow, high⟩ => ⟨notLow, .inr high⟩, fun ⟨notLow, use⟩ => ⟨notLow, use.resolve_left notLow⟩⟩

end Sys2Proof.Machine
end
